-- ==== Sys2Proof/Word.lean ====
section
/-! DEFINITION. Word.lean: the words of the block. Every register is 32 bits wide (R6), memory is addressed by bytes. -/

namespace Sys2Proof

/-- A register, a signal, a parameter word or a state word: 32 bits (R6, R85). -/
abbrev Word := BitVec 32

/-- A byte of memory. -/
abbrev Byte := BitVec 8

/-- The pattern of an FP32 value (R85, R86). -/
abbrev F32 := BitVec 32

end Sys2Proof
end

