-- ==== Sys2Proof/Syntax.lean ====
section
/-! DEFINITION. Syntax.lean: the commands of the block with their operands. An operand is a fact that a command brings from
outside the block: its instant, the word a bus write carries, a level or a bit stream of a pin, a message of the partner,
the result of an analogue conversion. -/

namespace Sys2Proof

/-- A memory error found in an engine's SRAM (R75, R76): the engine, the SRAM (1 data, 2 microcode), the word index, and
whether SECDED could correct it. -/
structure EccError where
  engine : Nat
  sram : Nat
  word : Nat
  correctable : Bool
  deriving DecidableEq, Repr

/-- What the Darning compares before a swap (R224): the sum of the absolute differences of the two sets of 16 codes, and the sums of the 16 readings of the reference by the
leaving slice and by the Darning slice. -/
structure DarningCheck where
  diffSum : Nat
  leaveRef : Int
  darnRef : Int
  deriving DecidableEq, Repr

/-- A window of a sigma-delta input: the bits of its bitstream, and whether the spare filter pair's result differs from the input's where the pair checks it
(R209, R210, R215). -/
structure SdiWindow where
  bits : List Bool
  spareDiffers : Bool
  deriving DecidableEq, Repr

/-- The newest samples of the pin Z of an encoder channel, newest first (R238, R242). -/
structure EncSamplesZ where
  k : Fin 2
  z : List Bool
  deriving DecidableEq, Repr

/-- An edge at a pin TIN (R254). -/
structure PinEdge where
  pin : Fin 4
  rising : Bool
  deriving DecidableEq, Repr

/-- A lane and the number of invalid headers it has met since it was last told of (R354). -/
structure LaneHeaders where
  lane : Fin 4
  headers : Nat
  deriving DecidableEq, Repr

/-- The level of a contact and the instant from which it has had it without a break (R386). -/
structure ContactLevel where
  level : Bool
  since : Nat
  deriving DecidableEq, Repr

/-- What the open and short detectors of an on-die sensor found (R427): the sensor, and whether it is a short. -/
structure SensorDefect where
  sensor : Nat
  short : Bool
  deriving DecidableEq, Repr

/-- A shadow register that differs from its fuses for a physical reason (R468): 0 SEC_LC, 1 SEC_KEY_STAT, 2 SEC_CNT, and the word it
holds. -/
structure ShadowUpset where
  reg : Nat
  value : Word
  deriving DecidableEq, Repr

/-- A memory error found by the patrol scrubber (R491). -/
structure MemError where
  addr : Nat
  correctable : Bool
  deriving DecidableEq, Repr

/-- Bytes that a program or erase command leaves in an xSPI device (R494), or DDR content. -/
structure Patch where
  addr : Nat
  bytes : List Byte
  deriving DecidableEq, Repr

/-- The frame sample of one input block (R16): the modulator bits that the frame filter of SDI `n` takes (R208) with the
spare pair's comparison of its output (R215); the SAR channel, comparator word, encoder, bridge or Temper inputs carry no fact from
outside but their moment. -/
inductive InputSample where
  | sdi (n : Nat) (bits : List Bool) (spareDiffers : Bool)
  | adc (c : Nat)
  | cmp (n : Nat)
  | enc (k : Nat)
  | bridge (b : Nat)
  | temper
  deriving DecidableEq, Repr

/-- The body of CAPS (R349). -/
structure CapsBody where
  major : Nat
  minor : Nat
  role : Nat
  siRev : Nat
  part : Nat
  fwVersion : Nat
  features : Nat
  imageHash : List Byte
  imageGen : Nat
  framePeriodFc : Nat
  deriving DecidableEq, Repr

/-- The body of CAPS_ACK (R349). -/
structure CapsAckBody where
  opMajor : Nat
  opMinor : Nat
  pairable : Nat
  reason : Nat
  deriving DecidableEq, Repr

/-- The body of HEARTBEAT (R349). -/
structure HeartbeatBody where
  frmCount : Nat
  pair : Nat
  power : Nat
  released : Nat
  t0 : Nat
  swapActive : Nat
  swapPending : Nat
  lost : Nat
  flt : Nat
  deriving DecidableEq, Repr

/-- The body of BLOCKS (R349): entries of INSTANCE_ID and SIGNATURE. -/
structure BlocksBody where
  total : Nat
  first : Nat
  entries : List (Nat × Nat)
  deriving DecidableEq, Repr

/-- One run of a STATE message: INSTANCE_ID, first word and the sent words (R349). -/
structure StateRun where
  id : Nat
  first : Nat
  words : List Word
  deriving DecidableEq, Repr

/-- The body of STATE (R349). -/
structure StateBody where
  frmCount : Nat
  runs : List StateRun
  deriving DecidableEq, Repr

/-- One entry of a PARAM message (R349). -/
structure ParamEntry where
  id : Nat
  word : Nat
  set : Nat
  value : Word
  deriving DecidableEq, Repr

/-- The body of PARAM (R349). -/
structure ParamBody where
  applyFrm : Nat
  entries : List ParamEntry
  deriving DecidableEq, Repr

/-- The body of SWAP (R349). -/
structure SwapBody where
  boundaryFrm : Nat
  groups : Nat
  deriving DecidableEq, Repr

/-- The body of RESULT (R349): the channels of MASK with CMPU and CMPD. -/
structure ResultBody where
  frmCount : Nat
  entries : List (Nat × Word × Word)
  deriving DecidableEq, Repr

/-- The body of YIELD (R349). -/
structure YieldBody where
  txFrm : Nat
  cause : Nat
  deriving DecidableEq, Repr

/-- The body of YIELD_ACK (R349). -/
structure YieldAckBody where
  txFrm : Nat
  accept : Bool
  reason : Nat
  deriving DecidableEq, Repr

/-- The body of WITHDRAW (R349). -/
structure WithdrawBody where
  cause : Nat
  deriving DecidableEq, Repr

/-- A message of the Jexper link (R349). -/
inductive TwinMsg where
  | caps (b : CapsBody)
  | capsAck (b : CapsAckBody)
  | heartbeat (b : HeartbeatBody)
  | blocks (b : BlocksBody)
  | state (b : StateBody)
  | param (b : ParamBody)
  | swap (b : SwapBody)
  | result (b : ResultBody)
  | yield (b : YieldBody)
  | yieldAck (b : YieldAckBody)
  | withdraw (b : WithdrawBody)
  deriving DecidableEq, Repr


/-- The commands of the block: one constructor per row of spec/opcode_table.json. An operand `t` is the instant of the
command in units of 125 ps; a row without `t` happens at an instant that State fixes. -/
inductive Instr where
  /-- FRAME_T0 (R25). -/
  | frameT0 (ecc : List EccError) (ckptBad : List Nat)
  /-- ACQUIRE_END (R16). -/
  | acquireEnd
  /-- INPUT_DELIVERY (R16). -/
  | inputDelivery (t : Nat) (src : InputSample)
  /-- COLLECT_END (R102). -/
  | collectEnd (cmpBad : List Nat)
  /-- HARD_ALIGN (R27). -/
  | hardAlign (t : Nat)
  /-- CLR_LAT (R23). -/
  | clrLat (t : Nat)
  /-- ALIGN_EN_WRITE (R26). -/
  | alignEnWrite (t : Nat) (en : Bool)
  /-- FRM_PHASE_LO_WRITE (R30). -/
  | frmPhaseLoWrite (t : Nat) (v : Word)
  /-- FRM_PHASE_HI_WRITE (R30). -/
  | frmPhaseHiWrite (t : Nat) (v : Word)
  /-- EVENT_ARRIVAL (R35). -/
  | eventArrival (t : Nat)
  /-- EVENT_DELIVERY (R39). -/
  | eventDelivery (t : Nat)
  /-- EVO_PULSE_END (R39). -/
  | evoPulseEnd (t : Nat) (k : Fin 8)
  /-- ANV_SNAP (R35). -/
  | anvSnap (t : Nat)
  /-- FULL_LOAD (R67). -/
  | fullLoad (t : Nat)
  /-- FULL_LOAD_CHECKS_DONE (R67). -/
  | fullLoadChecksDone (t : Nat)
  /-- HOT_LOAD (R70). -/
  | hotLoad (t : Nat)
  /-- HOT_CHECKS_DONE (R70). -/
  | hotChecksDone (t : Nat)
  /-- HOT_PLACING_DONE (R70). -/
  | hotPlacingDone (t : Nat)
  /-- ABORT (R72). -/
  | imgAbort (t : Nat)
  /-- TASK_START (R80). -/
  | taskStart (t : Nat) (e : Fin 64) (stretch : Nat) (ecc : List EccError)
  /-- LATEST_START_REACHED (R81). -/
  | latestStartReached (t : Nat) (e : Fin 64) (stretch : Nat) (ecc : List EccError)
  /-- TASK_FINISH (R114). -/
  | taskFinish (t : Nat) (e : Fin 64)
  /-- COLLECTOR_CYCLE (R98). -/
  | collectorCycle (t : Nat)
  /-- BLOCK_OFF (R105). -/
  | blockOff (t : Nat)
  /-- BLOCK_ON (R105). -/
  | blockOn (t : Nat)
  /-- CLR_MAX (R98). -/
  | clrMax (t : Nat)
  /-- ROTATION_TIMER_EXPIRY (R126). -/
  | rotationTimerExpiry (t : Nat)
  /-- SELF_TEST_REQUEST (R127). -/
  | selfTestRequest (t : Nat) (e : Fin 64)
  /-- SELF_TEST_START (R125). -/
  | selfTestStart (t : Nat) (e : Fin 64)
  /-- SELF_TEST_END (R125). -/
  | selfTestEnd (t : Nat) (failMask : Nat)
  /-- PLC_CTRL_WRITE (R126). -/
  | plcCtrlWrite (t : Nat) (v : Word)
  /-- PLC_ST_INTERVAL_WRITE (R126). -/
  | plcStIntervalWrite (t : Nat) (v : Word)
  /-- LP_PDATA_WRITE (R147). -/
  | lpPdataWrite (t : Nat) (v : Word)
  /-- LP_SWAP_CMD (R149). -/
  | lpSwapCmd (t : Nat) (groups : Nat)
  /-- SDI_STREAM_OUTPUT (R209). -/
  | sdiStreamOutput (t : Nat) (n : Fin 96) (w : SdiWindow)
  /-- PROTECTION_LEVEL_CHANGE (R210). -/
  | protectionLevelChange (t : Nat) (n : Fin 96) (w : SdiWindow)
  /-- SETTLE_MASK_END (R211). -/
  | settleMaskEnd (t : Nat) (n : Fin 96)
  /-- STUCK_BITSTREAM (R213). -/
  | stuckBitstream (t : Nat) (n : Fin 96)
  /-- SDC_CLOCK_LOSS (R214). -/
  | sdcClockLoss (t : Nat) (c : Fin 8)
  /-- SPARE_FILTER_MOVE (R215). -/
  | spareFilterMove (t : Nat)
  /-- ADC_CONVERSION_START (R219). -/
  | adcConversionStart (t : Nat) (b : Fin 5)
  /-- ADC_CONVERSION_DONE (R218). -/
  | adcConversionDone (t : Nat) (b : Fin 5) (sl : Nat) (raw : Int) (exceeds : Bool) (check : Option DarningCheck)
  /-- SYNC_GROUP_START (R220). -/
  | syncGroupStart (t : Nat) (b : Fin 5)
  /-- DARNING_CALIBRATION_DONE (R223). -/
  | darningCalibrationDone (t : Nat) (b : Fin 4) (zero : Int) (ref : Int)
  /-- DARNING_ROTATION_DUE (R223). -/
  | darningRotationDue (t : Nat) (b : Fin 4)
  /-- MCAL_START (R225). -/
  | mcalStart (t : Nat)
  /-- MCAL_DONE (R225). -/
  | mcalDone (t : Nat) (z0 : Int) (r0 : Int) (z1 : Int) (r1 : Int)
  /-- URGENT_REQUEST (R226). -/
  | urgentRequest (t : Nat) (b : Fin 5)
  /-- URGENT_CONVERSION_START (R226). -/
  | urgentConversionStart (t : Nat) (b : Fin 5)
  /-- ADC_SEQ_EN_WRITE (R227). -/
  | adcSeqEnWrite (t : Nat) (b : Fin 5) (v : Word)
  /-- COMPARATOR_DECISION (R228). -/
  | comparatorDecision (t : Nat) (n : Fin 48) (code : Nat)
  /-- CMP_ENABLE_WRITE (R231). -/
  | cmpEnableWrite (t : Nat) (n : Fin 48) (v : Word)
  /-- ENC_COUNT_STEP (R238). -/
  | encCountStep (t : Nat) (k : Fin 2) (a : List Bool) (b : List Bool)
  /-- ENC_INDEX (R242). -/
  | encIndex (t : Nat) (i : EncSamplesZ)
  /-- SERIAL_TRANSFER_START (R245). -/
  | serialTransferStart (t : Nat) (k : Fin 2) (idle : Bool)
  /-- SERIAL_TRANSFER_DONE (R246). -/
  | serialTransferDone (t : Nat) (k : Fin 2) (bits : List Bool)
  /-- OBSERVER_UPDATE (R250). -/
  | observerUpdate (t : Nat) (k : Fin 2)
  /-- PROBE_EDGE (R254). -/
  | probeEdge (t : Nat) (k : Fin 2) (e : PinEdge)
  /-- ENC_LOAD (R241). -/
  | encLoad (t : Nat) (k : Fin 2) (v : Word)
  /-- ENC_ENABLE_WRITE (R258). -/
  | encEnableWrite (t : Nat) (k : Fin 2) (v : Word)
  /-- ENC_EMU_WRITE (R256). -/
  | encEmuWrite (t : Nat) (v : Word)
  /-- METERING_SAMPLE (R263). -/
  | meteringSample (t : Nat) (m : Fin 4)
  /-- MTR_SNAP (R269). -/
  | mtrSnap (t : Nat) (points : Nat)
  /-- MTR_ADD_IMPORT (R271). -/
  | mtrAddImport (t : Nat) (m : Fin 4)
  /-- MTR_ADD_EXPORT (R271). -/
  | mtrAddExport (t : Nat) (m : Fin 4)
  /-- MTR_ENABLE_WRITE (R266). -/
  | mtrEnableWrite (t : Nat) (m : Fin 4) (v : Word)
  /-- PERIOD_BOUNDARY (R284). -/
  | periodBoundary (n : Fin 96)
  /-- PEAK_RELOAD (R284). -/
  | peakReload (n : Fin 96)
  /-- REFERENCE_EDGE (R279). -/
  | referenceEdge (t : Nat) (n : Fin 96)
  /-- COMMAND_TURN_ON (R281). -/
  | commandTurnOn (t : Nat) (n : Fin 96) (high : Bool)
  /-- PWM_SET_COMMIT (R283). -/
  | pwmSetCommit (t : Nat) (n : Fin 96) (v : Word)
  /-- PWM_EDGE_LIST_COMMIT (R289). -/
  | pwmEdgeListCommit (t : Nat) (n : Fin 96)
  /-- PWM_EL_WRITE (R289). -/
  | pwmElWrite (t : Nat) (n : Fin 96) (v : Word)
  /-- SET_PRESENT (R285). -/
  | setPresent (t : Nat) (n : Fin 96)
  /-- EDGE_LIST_PRESENT (R290). -/
  | edgeListPresent (t : Nat) (n : Fin 96)
  /-- PWM_ENABLE_WRITE (R295). -/
  | pwmEnableWrite (t : Nat) (n : Fin 96) (v : Word)
  /-- FLT_PIN_LOW (R307). -/
  | fltPinLow (t : Nat) (n : Fin 96)
  /-- FLT_DETECTION (R306). -/
  | fltDetection (t : Nat) (n : Fin 96)
  /-- FLT_FILTER_RELEASE (R306). -/
  | fltFilterRelease (t : Nat) (n : Fin 96)
  /-- BLANKING_WINDOW_END (R309). -/
  | blankingWindowEnd (t : Nat) (n : Fin 96)
  /-- RESTORE (R314). -/
  | restore (t : Nat) (n : Fin 96)
  /-- QUENCH (R317). -/
  | quench (t : Nat) (b : Fin 6)
  /-- CLEAR (R319). -/
  | clear (t : Nat) (b : Fin 6)
  /-- QUENCH_PRESENT (R316). -/
  | quenchPresent (t : Nat) (b : Fin 6)
  /-- DIAG_START (R321). -/
  | diagStart (t : Nat) (v : Word)
  /-- DIAG_ABORT (R323). -/
  | diagAbort (t : Nat)
  /-- DIAG_SETTLE_END (R321). -/
  | diagSettleEnd (t : Nat)
  /-- DIAG_MEANS_TAKEN (R321). -/
  | diagMeansTaken (t : Nat)
  /-- DIAG_DWELL_END (R321). -/
  | diagDwellEnd (t : Nat)
  /-- GDP_TEST_START (R324). -/
  | gdpTestStart (t : Nat) (v : Word)
  /-- GDP_TEST_END (R324). -/
  | gdpTestEnd (t : Nat) (failPart : Option Nat)
  /-- OWN_READBACK (R329). -/
  | ownReadback (t : Nat) (level : Bool)
  /-- T0_ABSENCE_TIMEOUT (R329). -/
  | t0AbsenceTimeout (t : Nat)
  /-- PEER_OWN_EDGE (R330). -/
  | peerOwnEdge (t : Nat)
  /-- TAKEOVER_SDC_DRIVE (R341). -/
  | takeoverSdcDrive (t : Nat)
  /-- TAKEOVER_HOLD_LIFT (R341). -/
  | takeoverHoldLift (t : Nat)
  /-- TWN_CTRL_HANDOVER (R342). -/
  | twnCtrlHandover (t : Nat)
  /-- TWN_CTRL_WITHDRAW (R345). -/
  | twnCtrlWithdraw (t : Nat)
  /-- CAPS (R350). -/
  | caps (t : Nat) (lane : Fin 2) (seq : Nat) (body : CapsBody)
  /-- CAPS_ACK (R348). -/
  | capsAck (t : Nat) (lane : Fin 2) (seq : Nat) (body : CapsAckBody)
  /-- HEARTBEAT (R334). -/
  | heartbeat (t : Nat) (lane : Fin 2) (seq : Nat) (body : HeartbeatBody)
  /-- BLOCKS (R335). -/
  | blocks (t : Nat) (lane : Fin 2) (seq : Nat) (body : BlocksBody)
  /-- STATE (R336). -/
  | stateMsg (t : Nat) (lane : Fin 2) (seq : Nat) (body : StateBody)
  /-- PARAM (R337). -/
  | paramMsg (t : Nat) (lane : Fin 2) (seq : Nat) (body : ParamBody)
  /-- SWAP (R337). -/
  | swapMsg (t : Nat) (lane : Fin 2) (seq : Nat) (body : SwapBody)
  /-- RESULT (R339). -/
  | resultMsg (t : Nat) (lane : Fin 2) (seq : Nat) (body : ResultBody)
  /-- YIELD (R342). -/
  | yieldMsg (t : Nat) (lane : Fin 2) (seq : Nat) (body : YieldBody)
  /-- YIELD_ACK (R342). -/
  | yieldAckMsg (t : Nat) (lane : Fin 2) (seq : Nat) (body : YieldAckBody)
  /-- WITHDRAW (R345). -/
  | withdraw (t : Nat) (lane : Fin 2) (seq : Nat) (body : WithdrawBody)
  /-- RX_DETECT_PULSE (R355). -/
  | rxDetectPulse (t : Nat) (lane : Fin 2) (found : Bool)
  /-- LANE_TRAIN_DONE (R348). -/
  | laneTrainDone (t : Nat) (lane : Fin 2)
  /-- LANE_TRAIN_TIMEOUT (R348). -/
  | laneTrainTimeout (t : Nat) (lane : Fin 2)
  /-- LANE_BLOCK_LOCK (R354). -/
  | laneBlockLock (t : Nat) (l : LaneHeaders)
  /-- LANE_BLOCK_LOCK_LOSS (R354). -/
  | laneBlockLockLoss (t : Nat) (l : LaneHeaders)
  /-- CAPS_RESEND (R348). -/
  | capsResend (t : Nat) (lane : Fin 2)
  /-- LANE_EXCHANGE_TIMEOUT (R348). -/
  | laneExchangeTimeout (t : Nat) (lane : Fin 2)
  /-- EQUALISER_ADAPT_DONE (R356). -/
  | equaliserAdaptDone (t : Nat) (lane : Fin 4) (eyes : List Nat)
  /-- RX_IDLE_TIMEOUT (R357). -/
  | rxIdleTimeout (t : Nat) (lane : Fin 4)
  /-- LANE_RATE_WRITE (R354). -/
  | laneRateWrite (t : Nat) (lane : Fin 4) (v : Word)
  /-- LANE_TX_EN_WRITE (R357). -/
  | laneTxEnWrite (t : Nat) (lane : Fin 4) (v : Word)
  /-- LANE_PRBS_WRITE (R358). -/
  | lanePrbsWrite (t : Nat) (lane : Fin 4) (v : Word)
  /-- ETH_FRAME_RECEIVED (R361). -/
  | ethFrameReceived (t : Nat) (p : Fin 2) (bytes : List Byte) (fcsOk : Bool)
  /-- ETH_FRAME_TRANSMIT (R362). -/
  | ethFrameTransmit (t : Nat) (p : Fin 2)
  /-- ETH_TX_COMPLETE (R363). -/
  | ethTxComplete (t : Nat) (p : Fin 2)
  /-- ETH_LINK_CHANGE (R360). -/
  | ethLinkChange (t : Nat) (p : Fin 2) (link : Bool) (anDone : Bool)
  /-- RING_TAIL_WRITE (R364). -/
  | ringTailWrite (t : Nat) (p : Fin 2) (tx : Bool) (r : Fin 2) (v : Word)
  /-- RING_RUN_WRITE (R366). -/
  | ringRunWrite (t : Nat) (p : Fin 2) (tx : Bool) (r : Fin 2) (v : Word)
  /-- TIM_INC_FRAC_WRITE (R369). -/
  | timIncFracWrite (t : Nat) (v : Word)
  /-- TIM_INC_COMMIT (R369). -/
  | timIncCommit (t : Nat) (v : Word)
  /-- STEP (R371). -/
  | timeStep (t : Nat)
  /-- TIM_SNAP (R374). -/
  | timSnap (t : Nat)
  /-- HOLD_WRITE (R372). -/
  | holdWrite (t : Nat) (hold : Bool)
  /-- HOLDOVER_TIMEOUT (R372). -/
  | holdoverTimeout (t : Nat)
  /-- TRIGGER_ARM (R376). -/
  | triggerArm (t : Nat) (k : Fin 4) (v : Word)
  /-- TRIGGER_FIRE (R375). -/
  | triggerFire (t : Nat) (k : Fin 4)
  /-- TOUT_PULSE_END (R377). -/
  | toutPulseEnd (t : Nat) (k : Fin 4)
  /-- CAPTURE_EDGE (R379). -/
  | captureEdge (t : Nat) (k : Fin 4) (rising : Bool)
  /-- POP (R379). -/
  | pop (t : Nat) (k : Fin 4)
  /-- VIO_F_POWER_ON (R395). -/
  | vioFPowerOn (t : Nat)
  /-- SAFETY_SELFTEST_DONE (R395). -/
  | safetySelftestDone (t : Nat) (fail : Option Nat)
  /-- VIO_F_LOSS (R383). -/
  | vioFLoss (t : Nat)
  /-- SAFETY_SCAN (R384). -/
  | safetyScan (t : Nat) (srb : List Bool) (crcOk : Bool)
  /-- SIN_LEVEL_ACCEPT (R386). -/
  | sinLevelAccept (t : Nat) (pair : Fin 8) (contact : Bool) (level : ContactLevel)
  /-- DISCREPANCY_TIMEOUT (R387). -/
  | discrepancyTimeout (t : Nat) (pair : Fin 8)
  /-- SUPPLY_CUT (R390). -/
  | supplyCut (t : Nat) (f : Fin 8)
  /-- OFF_PULSE_START (R394). -/
  | offPulseStart (t : Nat) (k : Fin 4)
  /-- OFF_PULSE_END (R394). -/
  | offPulseEnd (t : Nat) (k : Fin 4)
  /-- READBACK_CHECK (R394). -/
  | readbackCheck (t : Nat) (k : Fin 4) (level : Bool)
  /-- BACKGROUND_SELFTEST (R395). -/
  | backgroundSelftest (t : Nat) (fail : Option Nat)
  /-- INPUT_INJECTION (R395). -/
  | inputInjection (t : Nat) (fail : Bool)
  /-- CLOCK_CHECK_WINDOW (R396). -/
  | clockCheckWindow (t : Nat) (count : Nat)
  /-- SCAN_DEADLINE_EXPIRY (R396). -/
  | scanDeadlineExpiry (t : Nat)
  /-- UNLOCK (R401). -/
  | safUnlock (t : Nat)
  /-- PASSWORD_HASH_DONE (R401). -/
  | passwordHashDone (t : Nat)
  /-- STAGE (R401). -/
  | safStage (t : Nat)
  /-- COMMIT (R401). -/
  | safCommit (t : Nat)
  /-- LOCK (R403). -/
  | safLock (t : Nat)
  /-- DISCARD (R403). -/
  | safDiscard (t : Nat)
  /-- LOCKOUT_END (R403). -/
  | lockoutEnd (t : Nat)
  /-- UNLOCK_TIMEOUT (R403). -/
  | unlockTimeout (t : Nat)
  /-- REFCLK_FAILURE (R411). -/
  | refclkFailure (t : Nat) (count : Nat)
  /-- REFCLK_RECOVERED (R410). -/
  | refclkRecovered (t : Nat)
  /-- SRO_OK_RISE (R409). -/
  | sroOkRise (t : Nat)
  /-- SRO_OK_FALL (R409). -/
  | sroOkFall (t : Nat)
  /-- PLL_LOCK_ACQUIRED (R416). -/
  | pllLockAcquired (t : Nat)
  /-- PLL_LOCK_LOSS (R416). -/
  | pllLockLoss (t : Nat)
  /-- CLOCK_STOP_RESTART (R413). -/
  | clockStopRestart (t : Nat)
  /-- LANE_PLL_LOCK_LOSS (R420). -/
  | lanePllLockLoss (t : Nat)
  /-- REF_RETURN (R415). -/
  | refReturn (t : Nat)
  /-- BELLOWS_START (R418). -/
  | bellowsStart (t : Nat) (v : Word)
  /-- BELLOWS_ABORT (R418). -/
  | bellowsAbort (t : Nat)
  /-- BELLOWS_UPDATE (R418). -/
  | bellowsUpdate (t : Nat)
  /-- DOMAIN_SWITCH (R422). -/
  | domainSwitch (t : Nat) (d : Fin 5) (v : Word)
  /-- DOMAIN_RESTART (R422). -/
  | domainRestart (t : Nat) (d : Fin 5)
  /-- GATE_WRITE (R423). -/
  | gateWrite (t : Nat) (v : Word)
  /-- TEMPER_MEASUREMENT (R426). -/
  | temperMeasurement (t : Nat) (readings : List Int) (defects : List SensorDefect)
  /-- RESUME (R429). -/
  | resume (t : Nat)
  /-- MAIN_SUPPLY_LOSS (R470). -/
  | mainSupplyLoss (t : Nat)
  /-- MAIN_SUPPLY_RETURN (R453). -/
  | mainSupplyReturn (t : Nat)
  /-- CQ_THRESHOLD_REACHED (R470). -/
  | cqThresholdReached (t : Nat)
  /-- CQ_COLLAPSE (R437). -/
  | cqCollapse (t : Nat)
  /-- HARVESTER_START (R438). -/
  | harvesterStart (t : Nat)
  /-- HARVESTER_STOP (R438). -/
  | harvesterStop (t : Nat)
  /-- KT_UPDATE (R439). -/
  | ktUpdate (t : Nat)
  /-- LOG_ENTRY_WRITE (R442). -/
  | logEntryWrite (t : Nat)
  /-- LOG_FW_WRITE (R443). -/
  | logFwWrite (t : Nat)
  /-- LOG_READ_LATCH (R444). -/
  | logReadLatch (t : Nat)
  /-- FLUSH (R447). -/
  | flush (t : Nat)
  /-- FLUSH_AGE_EXPIRY (R447). -/
  | flushAgeExpiry (t : Nat)
  /-- JOURNAL_BURST_START (R446). -/
  | journalBurstStart (t : Nat)
  /-- JOURNAL_BURST_VERIFY (R446). -/
  | journalBurstVerify (t : Nat) (ok : Bool)
  /-- JOURNAL_BURST_RETRY (R448). -/
  | journalBurstRetry (t : Nat)
  /-- STORE_MEASUREMENT (R449). -/
  | storeMeasurement (t : Nat) (cq : Nat) (cs : Nat)
  /-- RECORDER_RECORD_WRITE (R454). -/
  | recorderRecordWrite (t : Nat)
  /-- REC_ENABLE_WRITE (R456). -/
  | recEnableWrite (t : Nat) (v : Word)
  /-- REARM (R456). -/
  | rearm (t : Nat)
  /-- SWTRIG (R456). -/
  | swtrig (t : Nat)
  /-- LC_CHANGE_REQUEST (R461). -/
  | lcChangeRequest (t : Nat) (v : Word)
  /-- KEY_PROG (R463). -/
  | keyProg (t : Nat) (slot : Fin 4)
  /-- KEY_REVOKE (R463). -/
  | keyRevoke (t : Nat) (slot : Fin 4)
  /-- ADV_IMG (R467). -/
  | advImg (t : Nat)
  /-- ADV_FW (R467). -/
  | advFw (t : Nat)
  /-- FUSE_BLOW_DONE (R467). -/
  | fuseBlowDone (t : Nat)
  /-- OTP_SHADOW_CHECK (R468). -/
  | otpShadowCheck (t : Nat) (upsets : List ShadowUpset)
  /-- ARM (R471). -/
  | arm (t : Nat)
  /-- DISARM (R470). -/
  | disarm (t : Nat)
  /-- KEEP (R472). -/
  | keepCmd (t : Nat)
  /-- WAKE_TIME_REACHED (R472). -/
  | wakeTimeReached (t : Nat)
  /-- DBG_START (R474). -/
  | dbgStart (t : Nat) (v : Word) (nonce : List Byte)
  /-- DBG_VERIFY (R474). -/
  | dbgVerify (t : Nat)
  /-- DBG_VERIFY_DONE (R474). -/
  | dbgVerifyDone (t : Nat)
  /-- DBG_END (R476). -/
  | dbgEnd (t : Nat)
  /-- CHALLENGE_EXPIRY (R474). -/
  | challengeExpiry (t : Nat)
  /-- DEBUG_LOCKOUT_END (R475). -/
  | debugLockoutEnd (t : Nat)
  /-- LOCKSTEP_MISMATCH (R485). -/
  | lockstepMismatch (t : Nat) (p : Fin 2) (pc : Nat)
  /-- WATCHDOG_EXPIRY (R487). -/
  | watchdogExpiry (t : Nat) (p : Fin 2) (pc : Nat)
  /-- WATCHDOG_HALF (R489). -/
  | watchdogHalf (t : Nat) (p : Fin 2)
  /-- KICK (R487). -/
  | kick (t : Nat) (p : Fin 2)
  /-- RUN1 (R484). -/
  | run1 (t : Nat)
  /-- RUN0 (R486). -/
  | run0 (t : Nat)
  /-- WARM_RESTART (R486). -/
  | warmRestart (t : Nat)
  /-- PATROL_SCRUB (R491). -/
  | patrolScrub (t : Nat) (errs : List MemError)
  /-- MTIMER_MATCH (R483). -/
  | mtimerMatch (t : Nat) (h : Fin 2)
  /-- MTIME_LO_READ (R483). -/
  | mtimeLoRead (t : Nat)
  /-- PLIC_CLAIM (R488). -/
  | plicClaim (t : Nat) (ctx : Fin 4)
  /-- PLIC_COMPLETE (R488). -/
  | plicComplete (t : Nat) (ctx : Fin 4) (id : Nat)
  /-- XSPI_COMMAND (R494). -/
  | xspiCommand (t : Nat) (v : Word)
  /-- XSPI_COMMAND_DONE (R494). -/
  | xspiCommandDone (t : Nat) (ok : Bool) (data : List Word) (patch : List Patch)
  /-- XSPI_TIMEOUT (R494). -/
  | xspiTimeout (t : Nat)
  /-- DDR_TEMPERATURE_HIGH (R489). -/
  | ddrTemperatureHigh (t : Nat)
  /-- PORN_ASSERT (R498). -/
  | pornAssert (t : Nat)
  /-- PORN_RISE (R497). -/
  | pornRise (t : Nat) (straps : Nat)
  /-- REF_OK_WAIT_TIMEOUT (R500). -/
  | refOkWaitTimeout (t : Nat)
  /-- DDR_TRAINING_DONE (R501). -/
  | ddrTrainingDone (t : Nat) (ok : Bool) (gib : Nat)
  /-- UART_RECOVERY_BEACON (R503). -/
  | uartRecoveryBeacon (t : Nat)
  /-- UART_RECOVERY_CONTAINER (R503). -/
  | uartRecoveryContainer (t : Nat) (bytes : List Byte)
  /-- UART_RECOVERY_GAP_TIMEOUT (R503). -/
  | uartRecoveryGapTimeout (t : Nat)
  /-- REGISTER_WRITE (R8). -/
  | registerWrite (t : Nat) (addr : Nat) (v : Word)
  /-- LANE_PLL_LOCK_ACQUIRED (R420). -/
  | lanePllLockAcquired (t : Nat)
  /-- SDC_CLOCK_RETURN (R211). -/
  | sdcClockReturn (t : Nat) (c : Fin 8)
  /-- FLT_PIN_HIGH (R307). -/
  | fltPinHigh (t : Nat) (n : Fin 96)
  /-- PRBS_CHECKER_LOCK (R358). -/
  | prbsCheckerLock (t : Nat) (lane : Fin 4)
  /-- PRBS_BIT_ERROR (R358). -/
  | prbsBitError (t : Nat) (lane : Fin 4)
  /-- MESSAGE_CRC_FAIL (R346). -/
  | messageCrcFail (t : Nat) (lane : Fin 2)
  /-- UNKNOWN_MESSAGE (R347). -/
  | unknownMessage (t : Nat) (lane : Fin 2)
  /-- GPIO_EDGE (R495). -/
  | gpioEdge (t : Nat) (pin : Fin 32) (rising : Bool)
  deriving DecidableEq, Repr

end Sys2Proof
end

