-- ==== Sys2Proof/Config.lean ====
section
/-! DEFINITION. Config.lean: what the spec leaves to an implementation or does not state: free values. None of these constants has a
body, so no statement can rest on a value of it. -/

namespace Sys2Proof.Config

/-- A free word by its number: used wherever the spec states no value (log entry 3). -/
opaque freeWord : Nat → Word

/-- The free rounding of an operation the spec bounds in ulp (R93, R95): the operation, its operands (log entry 40). -/
opaque ulps : Nat → List Word → Nat

/-- The result of an operation outside the range for which the spec states one (R93): the operation, its operands (log entry 40). -/
opaque openResult : Nat → List Word → Word

/-- The microcode size of a block type in bytes, as block ROM holds it (R79; log entry 41). -/
opaque microBytes : Nat → Nat

/-- The number of state words of a block type that no table states, by type and parameter word count (R79; log entry 41). -/
opaque stateWords : Nat → Nat → Nat

/-- The time in fc from the post of a packet to its commit that placement counts with, by its words (R111; log entry 45). -/
opaque commitDelay : Nat → Nat

/-- The word at an offset of the checkpoint area in system SRAM, by what its bank holds: for each block the FRM_COUNT and the state words of its task's
checkpoint (R115; log entry 90). -/
opaque ckptWord : Nat → List (Option (Nat × List Word)) → Word

/-- The kind of a state word, by block type and word: 0 value, 1 angle, 2 count, 3 code, as block ROM holds it (R336; log entry 62). -/
opaque stateKind : Nat → Nat → Nat

/-- How many PWM clocks after the instant at which a modulator clock's divider starts its first rising edge comes, by clock and instant (R205; log entry 92). -/
opaque sdcStart : Nat → Nat → Nat

/-- Where a frame-mode output on a received clock has its centre: PWM clocks after T0 − T/2, up to T, by input and T0 (R208; log entry 92). -/
opaque sdiCentre : Nat → Nat → Nat

/-- How many of the DIV PER cycles of a serial encoder clock's period it is low, by DIV (R245; log entry 93). -/
opaque encLow : Nat → Nat

/-- How long after its high side the low side of a channel turns on in the ST_SAFE pattern, beyond 2.5 µs, in ns up to 1,000 (R424; log entry 47). -/
opaque safeDelay : Nat → Nat

/-- How much longer than 40 ns the unclocked path of a channel takes to its off level, in units of 125 ps up to 80 ns (R307; log entry 46). -/
opaque fltPath : Nat → Nat

/-- The level of XCS0, XCS1 (0, 1) or XSCK (2) at an instant while the xSPI interface works: the spec gives the protocol by name only (R493, R532; log entry 98). -/
opaque xspLevel : Nat → Nat → Bool

/-- The level of XDQS or a data ball of the xSPI interface at an instant while it works, none while the chip does not drive it (R493, R532; log entry 98). -/
opaque xspData : Nat → Nat → Option Bool

/-- The xSPI device of a chip select offers 8D-8D-8D in its JESD216 parameter table (R493). The device is the board's (log entry 48). -/
opaque octal : Nat → Bool

end Sys2Proof.Config
end

