-- ==== Sys2Proof/Machine/Bits.lean ====
section
/-! DEFINITION. Machine/Bits.lean: bit fields, two's complement, saturation, byte order and list access, used by every
operation of the model. -/

namespace Sys2Proof.Machine

/-- Bits `[hi:lo]` of a natural number. -/
def natBits (v hi lo : Nat) : Nat := (v >>> lo) % 2 ^ (hi + 1 - lo)

/-- Bits `[hi:lo]` of a word, as a number. -/
def fld (w : Word) (hi lo : Nat) : Nat := natBits w.toNat hi lo

/-- The same under a name that no block's field reader shadows. -/
abbrev bitsOf (w : Word) (hi lo : Nat) : Nat := fld w hi lo

/-- Bit `i` of a word. -/
def tbit (w : Word) (i : Nat) : Bool := w.toNat.testBit i

/-- The word with bits `[hi:lo]` replaced by the low bits of `v`. -/
def setFld (w : Word) (hi lo v : Nat) : Word :=
  BitVec.ofNat 32 (w.toNat - natBits w.toNat hi lo * 2 ^ lo + (v % 2 ^ (hi + 1 - lo)) * 2 ^ lo)

/-- The word with bit `i` set to `b`. -/
def setBit (w : Word) (i : Nat) (b : Bool) : Word := setFld w i i (if b then 1 else 0)

/-- A Boolean as a number. -/
def b2n (b : Bool) : Nat := if b then 1 else 0

/-- Two's complement of `n` bits. -/
def toSigned (n v : Nat) : Int := if v % 2 ^ n < 2 ^ (n - 1) then (v % 2 ^ n : Nat) else ((v % 2 ^ n : Nat) : Int) - 2 ^ n

/-- The two's-complement pattern of an integer in `n` bits. -/
def ofSigned (n : Nat) (i : Int) : Nat := (i % (2 ^ n : Int)).toNat

/-- Floor division of a natural number, with division by zero giving zero. -/
def divN (a b : Nat) : Nat := a / b

/-- Quotient rounded up. -/
def ceilDiv (a b : Nat) : Nat := if b = 0 then 0 else (a + b - 1) / b

/-- `num / den` rounded to the nearest integer, halves to the even integer (R544). -/
def roundDiv (num : Int) (den : Nat) : Int :=
  if den = 0 then 0
  else
    let q := num / (den : Int)
    let r := (num % (den : Int)).toNat
    if 2 * r < den then q
    else if 2 * r > den then q + 1
    else if q % 2 = 0 then q else q + 1

/-- Saturation of a counter of `w` bits: one more, or its maximum. -/
def satInc (v w : Nat) : Nat := if v + 1 < 2 ^ w then v + 1 else 2 ^ w - 1

/-- An integer limited to a range. -/
def clampI (lo hi x : Int) : Int := if x < lo then lo else if x > hi then hi else x

/-- Element `i` of a list, or the given default. -/
def nth {α : Type} (d : α) (l : List α) (i : Nat) : α := l.getD i d

/-- A list with element `i` changed by `f`. -/
def upd {α : Type} : List α → Nat → (α → α) → List α
  | [], _, _ => []
  | x :: xs, 0, f => f x :: xs
  | x :: xs, i + 1, f => x :: upd xs i f

/-- An array of `n` elements with element `i` changed by `f`; an element the list does not hold is `x`. -/
def updN {α : Type} (n : Nat) (x : α) (l : List α) (i : Nat) (f : α → α) : List α := upd (l ++ List.replicate (n - l.length) x) i f

/-- The number of `n` little-endian bytes of a number. -/
def leBytes : Nat → Nat → List Byte
  | 0, _ => []
  | n + 1, v => BitVec.ofNat 8 v :: leBytes n (v / 256)

/-- The number that little-endian bytes spell (R41). -/
def leNat : List Byte → Nat
  | [] => 0
  | b :: bs => b.toNat + 256 * leNat bs

/-- The number that big-endian bytes spell. -/
def beNat (bs : List Byte) : Nat := leNat bs.reverse

/-- `n` big-endian bytes of a number. -/
def beBytes (n v : Nat) : List Byte := (leBytes n v).reverse

/-- The little-endian field of `n` bytes at offset `o` of a byte string. -/
def leAt (bs : List Byte) (o n : Nat) : Nat := leNat ((bs.drop o).take n)

/-- Cut a list into pieces of `n`; `fuel` bounds their number. -/
def chunks {α : Type} (n : Nat) : Nat → List α → List (List α)
  | 0, _ => []
  | fuel + 1, l => if l.isEmpty then [] else l.take n :: chunks n fuel (l.drop n)

/-- Number of set bits among the low `n` bits. -/
def popCount : Nat → Nat → Nat
  | 0, _ => 0
  | n + 1, v => v % 2 + popCount n (v / 2)

/-- The indices below `n` at which a number has a 1 bit, ascending. -/
def onesBelow (n v : Nat) : List Nat := (List.range n).filter (fun i => v.testBit i)

/-- Insertion of an element into a list that is sorted by a numeric key, after the elements of the same key. -/
def insertBy {α : Type} (key : α → Nat) (x : α) : List α → List α
  | [] => [x]
  | y :: ys => if key x < key y then x :: y :: ys else y :: insertBy key x ys

/-- Stable sort by a numeric key. -/
def sortBy {α : Type} (key : α → Nat) (l : List α) : List α := l.foldl (fun acc x => insertBy key x acc) []

/-- The element of least key, the first of several. -/
def minBy? {α : Type} (key : α → Nat) : List α → Option α
  | [] => none
  | x :: xs => match minBy? key xs with
    | none => some x
    | some y => if key y < key x then some y else some x

/-- The largest of a list of numbers, 0 when empty. -/
def maxOf (l : List Nat) : Nat := l.foldl Nat.max 0

/-- Sum of a list of numbers. -/
def sumOf (l : List Nat) : Nat := l.foldl (· + ·) 0

/-- Insertion into an association list held in ascending order of keys. -/
def assocSet {α : Type} (k : Nat) (v : α) : List (Nat × α) → List (Nat × α)
  | [] => [(k, v)]
  | (k', v') :: r =>
    if k < k' then (k, v) :: (k', v') :: r
    else if k = k' then (k, v) :: r
    else (k', v') :: assocSet k v r

/-- Look-up in an association list. -/
def assocGet {α : Type} (k : Nat) : List (Nat × α) → Option α
  | [] => none
  | (k', v) :: r => if k = k' then some v else assocGet k r

/-- Removal of a key from an association list. -/
def assocDel {α : Type} (k : Nat) (l : List (Nat × α)) : List (Nat × α) := l.filter (fun p => p.1 != k)

end Sys2Proof.Machine
end

