-- ==== Sys2Proof/Machine/Fp.lean ====
section
/-! DEFINITION. Machine/Fp.lean: FP32 arithmetic as R86 fixes it: round to nearest, ties to even; subnormal inputs read as
zero of the same sign; subnormal results flushed to zero of the same sign; every NaN result 0x7FC0_0000; infinities as
IEEE 754 defines them. Each operation computes exactly and rounds once. -/

namespace Sys2Proof.Machine.Fp

/-- The one NaN (R86). -/
def nan : F32 := 0x7FC00000#32
/-- +0. -/
def zero : F32 := 0#32
/-- 1.0. -/
def one : F32 := 0x3F800000#32
/-- 2.0. -/
def two : F32 := 0x40000000#32
/-- 3.0. -/
def three : F32 := 0x40400000#32
/-- 0.5. -/
def half : F32 := 0x3F000000#32
/-- The infinity of a sign. -/
def inf (s : Bool) : F32 := if s then 0xFF800000#32 else 0x7F800000#32
/-- The zero of a sign. -/
def zeroS (s : Bool) : F32 := if s then 0x80000000#32 else 0#32

/-- The sign bit. -/
def sign (x : F32) : Bool := tbit x 31
/-- The exponent field. -/
def expo (x : F32) : Nat := fld x 30 23
/-- The fraction field. -/
def frac (x : F32) : Nat := fld x 22 0
/-- NaN? -/
def isNaN (x : F32) : Bool := expo x == 255 && frac x != 0
/-- Infinite? -/
def isInf (x : F32) : Bool := expo x == 255 && frac x == 0
/-- Zero as an operand: a subnormal counts (R86). -/
def isZero (x : F32) : Bool := expo x == 0
/-- Neither NaN nor infinite. -/
def isFinite (x : F32) : Bool := expo x != 255

/-- The significand of a finite operand, 0 for zero and subnormals (R86). -/
def mant (x : F32) : Nat := if expo x = 0 then 0 else 2 ^ 23 + frac x
/-- The power of two of the significand's last bit. -/
def ex (x : F32) : Int := (expo x : Int) - 150

/-- The FP32 nearest to `m * 2 ^ e`, ties to even, of the given sign (R86). A result whose rounded magnitude is below the
smallest normal number is flushed to zero. -/
def pack (s : Bool) (m : Nat) (e : Int) : F32 :=
  if m = 0 then zeroS s
  else
    let bits := Nat.log2 m + 1
    let sh := bits - 24
    let q0 := m >>> sh
    let r := m % 2 ^ sh
    let h := if sh = 0 then 0 else 2 ^ (sh - 1)
    let up := sh != 0 && (decide (r > h) || (r == h && q0 % 2 == 1))
    let q1 := if bits < 24 then m <<< (24 - bits) else if up then q0 + 1 else q0
    let top : Int := e + (bits : Int) - 1
    let q := if q1 = 2 ^ 24 then 2 ^ 23 else q1
    let E : Int := if q1 = 2 ^ 24 then top + 1 else top
    if E > 127 then inf s
    else if E < -126 then zeroS s
    else BitVec.ofNat 32 ((if s then 2 ^ 31 else 0) + (E + 127).toNat * 2 ^ 23 + (q - 2 ^ 23))

/-- `i * 2 ^ e` as FP32, an exact zero being positive. -/
def packI (i : Int) (e : Int) : F32 := pack (decide (i < 0)) i.natAbs e

/-- Change of sign. -/
def neg (x : F32) : F32 := if isNaN x then nan else setBit x 31 (!sign x)
/-- Magnitude. -/
def abs (x : F32) : F32 := if isNaN x then nan else setBit x 31 false

/-- The signed significand of a finite operand. -/
def smant (x : F32) : Int := if sign x then -(mant x : Int) else (mant x : Int)

/-- Exact sum of two scaled integers. -/
def addExact (a : Int) (ea : Int) (b : Int) (eb : Int) : Int × Int :=
  if ea ≤ eb then (a + b * 2 ^ (eb - ea).toNat, ea) else (a * 2 ^ (ea - eb).toNat + b, eb)

/-- a + b. An exact zero sum is +0 unless both operands are negative (IEEE 754). -/
def add (a b : F32) : F32 :=
  if isNaN a || isNaN b then nan
  else if isInf a then (if isInf b && sign a != sign b then nan else a)
  else if isInf b then b
  else
    let r := addExact (smant a) (ex a) (smant b) (ex b)
    if r.1 = 0 then zeroS (sign a && sign b) else packI r.1 r.2

/-- a − b. -/
def sub (a b : F32) : F32 := if isNaN a || isNaN b then nan else add a (neg b)

/-- a × b. -/
def mul (a b : F32) : F32 :=
  let s := sign a != sign b
  if isNaN a || isNaN b then nan
  else if isInf a || isInf b then (if isZero a || isZero b then nan else inf s)
  else pack s (mant a * mant b) (ex a + ex b)

/-- a × b + c, rounded once. -/
def fma (a b c : F32) : F32 :=
  let s := sign a != sign b
  if isNaN a || isNaN b || isNaN c then nan
  else if isInf a || isInf b then
    (if isZero a || isZero b then nan else if isInf c && sign c != s then nan else inf s)
  else if isInf c then c
  else
    let p := smant a * smant b
    let r := addExact p (ex a + ex b) (smant c) (ex c)
    if r.1 = 0 then zeroS (s && sign c) else packI r.1 r.2

/-- a / b, correctly rounded. -/
def div (a b : F32) : F32 :=
  let s := sign a != sign b
  if isNaN a || isNaN b then nan
  else if isInf a then (if isInf b then nan else inf s)
  else if isInf b then zeroS s
  else if isZero b then (if isZero a then nan else inf s)
  else
    let n := mant a * 2 ^ 30
    let q := n / mant b
    let st := if n % mant b = 0 then 0 else 1
    pack s (2 * q + st) (ex a - ex b - 31)

/-- Integer square root by bits: the largest `r` built from `r0` and the bits below `k` with `r * r ≤ n`. -/
def isqrtGo (n : Nat) : Nat → Nat → Nat
  | 0, r => r
  | k + 1, r => let r' := r + 2 ^ k; isqrtGo n k (if r' * r' ≤ n then r' else r)

/-- Integer square root of a number below `2 ^ 128`. -/
def isqrt (n : Nat) : Nat := isqrtGo n 64 0

/-- √x, correctly rounded; NaN for x < 0; √−0 is −0. -/
def sqrt (x : F32) : F32 :=
  if isNaN x then nan
  else if isZero x then zeroS (sign x)
  else if sign x then nan
  else if isInf x then x
  else
    let odd := (ex x) % 2 != 0
    let m := if odd then mant x * 2 else mant x
    let e := if odd then ex x - 1 else ex x
    let n := m * 2 ^ 40
    let r := isqrt n
    let st := if r * r = n then 0 else 1
    pack false (2 * r + st) (e / 2 - 21)

/-- An exact order of finite operands: the comparison of `a` with `b` as integers on a common scale. -/
def cmpVal (a b : F32) : Int :=
  let r := addExact (smant a) (ex a) (-(smant b)) (ex b)
  r.1

/-- a < b; false when either is NaN. -/
def lt (a b : F32) : Bool :=
  if isNaN a || isNaN b then false
  else if isInf a then sign a && !(isInf b && sign b)
  else if isInf b then !sign b
  else decide (cmpVal a b < 0)
/-- a > b. -/
def gt (a b : F32) : Bool := lt b a
/-- a = b as values. -/
def eq (a b : F32) : Bool := !isNaN a && !isNaN b && !lt a b && !lt b a
/-- a ≤ b. -/
def le (a b : F32) : Bool := !isNaN a && !isNaN b && !lt b a
/-- a ≥ b. -/
def ge (a b : F32) : Bool := le b a

/-- An operand as it is read: NaN canonical, subnormal as zero of its sign (R86). -/
def canon (x : F32) : F32 := if isNaN x then nan else if isZero x then zeroS (sign x) else x

/-- Smaller of two; NaN where either is NaN, the first where they are equal. -/
def min (a b : F32) : F32 := if isNaN a || isNaN b then nan else if lt b a then canon b else canon a
/-- Larger of two. -/
def max (a b : F32) : F32 := if isNaN a || isNaN b then nan else if lt a b then canon b else canon a
/-- min(max(x, lo), hi). -/
def clamp (x lo hi : F32) : F32 := min (max x lo) hi

/-- A finite value as `i * 2 ^ e`. -/
def toExact (x : F32) : Int × Int := (smant x, ex x)

/-- Rounding of a finite value to an integer, ties to even (R544). -/
def roundInt (x : F32) : Int :=
  if ex x ≥ 0 then smant x * 2 ^ (ex x).toNat else roundDiv (smant x) (2 ^ (-(ex x)).toNat)

/-- Rounding of a finite value towards minus infinity. -/
def floorInt (x : F32) : Int :=
  if ex x ≥ 0 then smant x * 2 ^ (ex x).toNat else smant x / ((2 ^ (-(ex x)).toNat : Nat) : Int)

/-- Largest integral FP32 ≤ x. -/
def floor (x : F32) : F32 :=
  if isNaN x then nan else if isInf x then x else if isZero x then zeroS (sign x)
  else let i := floorInt x; if i = 0 then zeroS (sign x) else packI i 0

/-- An integer as FP32. -/
def ofInt (i : Int) : F32 := packI i 0
/-- A natural number as FP32. -/
def ofNat (n : Nat) : F32 := packI n 0

/-- FP32 to a saturated integer, rounded to nearest even, 0 for NaN. -/
def toIntSat (lo hi : Int) (x : F32) : Int :=
  if isNaN x then 0 else if isInf x then (if sign x then lo else hi) else clampI lo hi (roundInt x)
/-- FP32 to INT32 pattern. -/
def toI32 (x : F32) : Word := BitVec.ofNat 32 (ofSigned 32 (toIntSat (-2147483648) 2147483647 x))
/-- FP32 to UINT32 pattern. -/
def toU32 (x : F32) : Word := BitVec.ofNat 32 (toIntSat 0 4294967295 x).toNat
/-- INT32 pattern to FP32. -/
def ofI32 (w : Word) : F32 := ofInt (toSigned 32 w.toNat)
/-- UINT32 pattern to FP32. -/
def ofU32 (w : Word) : F32 := ofNat w.toNat

/-- The nearest FP32 to a fraction of two integers (correctly rounded). -/
def ofRat (n : Int) (d : Nat) : F32 :=
  if d = 0 then nan
  else if n = 0 then zero
  else
    let k := 64 + Nat.log2 d
    let q := (n.natAbs * 2 ^ k) / d
    let st := if (n.natAbs * 2 ^ k) % d = 0 then 0 else 1
    pack (decide (n < 0)) (2 * q + st) (-(k : Int) - 1)

/-- Sum of a list, from the left, starting with its first term. -/
def sumL : List F32 → F32
  | [] => zero
  | x :: xs => xs.foldl add x

end Sys2Proof.Machine.Fp
end

