-- ==== Sys2Proof/Machine/Mem.lean ====
section
/-! DEFINITION. Machine/Mem.lean: the byte memory of the physical address map (R492): system SRAM, the two xSPI devices and
DDR. A memory is the list of the bytes that differ from what an unlisted address reads as, in rising order of
addresses. -/

namespace Sys2Proof.Machine

/-- The memory: address and byte pairs. -/
abbrev Memory := List Host.Cell

/-- What an address reads as that the memory does not list. DESIGN CHOICE (log entry 4): erased flash reads 0xFF, system
SRAM and DDR read 0. -/
def Memory.blank (a : Nat) : Byte := if 0x20000000 ≤ a ∧ a < 0x30000000 then 0xFF#8 else 0#8

/-- One byte. -/
def Memory.read : Memory → Nat → Byte
  | [], a => Memory.blank a
  | (k, b) :: r, a => if a = k then b else if a < k then Memory.blank a else Memory.read r a

/-- Store one byte, keeping the form. -/
def Memory.write : Memory → Nat → Byte → Memory
  | [], a, v => if v = Memory.blank a then [] else [(a, v)]
  | (k, b) :: r, a, v =>
    if a < k then (if v = Memory.blank a then (k, b) :: r else (a, v) :: (k, b) :: r)
    else if a = k then (if v = Memory.blank a then r else (a, v) :: r)
    else (k, b) :: Memory.write r a v

/-- Addresses rise strictly from `lo` on and no entry equals what its unlisted address reads as. -/
def Memory.okFrom : Nat → Memory → Bool
  | _, [] => true
  | lo, (k, b) :: r => decide (lo ≤ k) && (b != Memory.blank k) && Memory.okFrom (k + 1) r

/-- The canonical form. -/
def Memory.wf (m : Memory) : Bool := Memory.okFrom 0 m

/-- Store a list of cells in order. -/
def Memory.writeCells (m : Memory) (cs : List Host.Cell) : Memory := cs.foldl (fun m c => m.write c.1 c.2) m

/-- The cells of a byte string at an address. -/
def cellsAt : Nat → List Byte → List Host.Cell
  | _, [] => []
  | a, b :: bs => (a, b) :: cellsAt (a + 1) bs

/-- `n` bytes from an address, walking the list once. -/
def Memory.readGo : Nat → Nat → Memory → List Byte
  | 0, _, _ => []
  | n + 1, a, [] => Memory.blank a :: Memory.readGo n (a + 1) []
  | n + 1, a, (k, b) :: r =>
    if a = k then b :: Memory.readGo n (a + 1) r
    else Memory.blank a :: Memory.readGo n (a + 1) ((k, b) :: r)

/-- `n` bytes from an address. -/
def Memory.bytes (m : Memory) (a n : Nat) : List Byte := Memory.readGo n a (m.dropWhile (fun c => decide (c.1 < a)))

/-- A little-endian 32-bit word. -/
def Memory.word (m : Memory) (a : Nat) : Word := BitVec.ofNat 32 (leNat (m.bytes a 4))

end Sys2Proof.Machine
end

