-- ==== Sys2Proof/Machine/Regs.lean ====
section
/-! DEFINITION. Machine/Regs.lean: every register the spec names, at its byte address (spec/19 R492's address map and the
register captions of spec/01 to spec/20), with its reset value and the access type of each of its bits (R8). -/

namespace Sys2Proof.Machine

/-- One register, or one two-dimensional array of registers, of the spec's register tables. Address of instance
`(i, j)`: `base + s0 * i + s1 * j` with `i < n0` and `j < n1`. The masks say which bits have which access type of R8;
a bit in no mask is RO or reserved. -/
structure RegSpec where
  base  : Nat
  n0    : Nat
  s0    : Nat
  n1    : Nat
  s1    : Nat
  reset : BitVec 32
  rw    : BitVec 32
  w1c   : BitVec 32
  wo    : BitVec 32
  rwl   : BitVec 32
  rw1   : BitVec 32
  deriving DecidableEq, Repr

/-- Does one column `base + s * i`, `i < n`, of registers hold the address? -/
def RegSpec.inDim (off n s : Nat) : Bool :=
  if s = 0 then off == 0 else off % s == 0 && decide (off / s < n)

/-- Does the row hold the address? The inner index runs within one outer stride. -/
def RegSpec.covers (r : RegSpec) (a : Nat) : Bool :=
  decide (r.base ≤ a) &&
    (if r.n1 = 1 then RegSpec.inDim (a - r.base) r.n0 r.s0
     else if r.s1 < r.s0 then
       decide ((a - r.base) / r.s0 < r.n0) && RegSpec.inDim ((a - r.base) % r.s0) r.n1 r.s1
     else
       decide ((a - r.base) / r.s1 < r.n1) && RegSpec.inDim ((a - r.base) % r.s1) r.n0 r.s0)

namespace Reg

/-- TMR_MSIP<h> (spec/19_processors_and_memory). -/
def TMR_MSIP (h : Nat) : Nat := 0x3000000 + 0x4 * h
/-- TMR_MTIMECMP<h>_LO (spec/19_processors_and_memory). -/
def TMR_MTIMECMP_LO (h : Nat) : Nat := 0x3000100 + 0x8 * h
/-- TMR_MTIMECMP<h>_HI (spec/19_processors_and_memory). -/
def TMR_MTIMECMP_HI (h : Nat) : Nat := 0x3000104 + 0x8 * h
/-- TMR_MTIME_LO (spec/19_processors_and_memory). -/
def TMR_MTIME_LO : Nat := 0x3000200
/-- TMR_MTIME_HI (spec/19_processors_and_memory). -/
def TMR_MTIME_HI : Nat := 0x3000204
/-- SYS_ID (spec/20_startup_and_straps). -/
def SYS_ID : Nat := 0x10000000
/-- SYS_STRAP (spec/20_startup_and_straps). -/
def SYS_STRAP : Nat := 0x10000004
/-- SYS_BOOT (spec/20_startup_and_straps). -/
def SYS_BOOT : Nat := 0x10000008
/-- SYS_BOOT_MS (spec/20_startup_and_straps). -/
def SYS_BOOT_MS : Nat := 0x1000000c
/-- SYS_RST_CAUSE (spec/20_startup_and_straps). -/
def SYS_RST_CAUSE : Nat := 0x10000010
/-- SYS_CPU_CTRL (spec/19_processors_and_memory). -/
def SYS_CPU_CTRL : Nat := 0x10000100
/-- SYS_CPU_VEC1_LO (spec/19_processors_and_memory). -/
def SYS_CPU_VEC1_LO : Nat := 0x10000104
/-- SYS_CPU_VEC1_HI (spec/19_processors_and_memory). -/
def SYS_CPU_VEC1_HI : Nat := 0x10000108
/-- SYS_CPU_STAT (spec/19_processors_and_memory). -/
def SYS_CPU_STAT : Nat := 0x1000010c
/-- SYS_WDT<p> (spec/19_processors_and_memory). -/
def SYS_WDT (p : Nat) : Nat := 0x10000110 + 0x4 * p
/-- MEM_ECC (spec/19_processors_and_memory). -/
def MEM_ECC : Nat := 0x10000120
/-- MEM_UE_ADDR_LO (spec/19_processors_and_memory). -/
def MEM_UE_ADDR_LO : Nat := 0x10000124
/-- MEM_UE_ADDR_HI (spec/19_processors_and_memory). -/
def MEM_UE_ADDR_HI : Nat := 0x10000128
/-- CLK_STAT (spec/16_clocks_power_and_temper). -/
def CLK_STAT : Nat := 0x10010000
/-- CLK_CTRL (spec/16_clocks_power_and_temper). -/
def CLK_CTRL : Nat := 0x10010004
/-- CLK_PLL_STAT (spec/16_clocks_power_and_temper). -/
def CLK_PLL_STAT : Nat := 0x10010008
/-- CLK_DOM<d>_CFG (spec/16_clocks_power_and_temper). -/
def CLK_DOM_CFG (d : Nat) : Nat := 0x10010020 + 0x4 * d
/-- CLK_GATE (spec/16_clocks_power_and_temper). -/
def CLK_GATE : Nat := 0x10010040
/-- CLK_GATE_ERR (spec/16_clocks_power_and_temper). -/
def CLK_GATE_ERR : Nat := 0x10010044
/-- CLK_BAND<i> (spec/16_clocks_power_and_temper). -/
def CLK_BAND (i : Nat) : Nat := 0x10010100 + 0x4 * i
/-- CLK_BLW_CTRL (spec/16_clocks_power_and_temper). -/
def CLK_BLW_CTRL : Nat := 0x10010200
/-- CLK_BLW_STAT (spec/16_clocks_power_and_temper). -/
def CLK_BLW_STAT : Nat := 0x10010204
/-- CLK_BLW_SEG<i>_END (spec/16_clocks_power_and_temper). -/
def CLK_BLW_SEG_END (i : Nat) : Nat := 0x10010210 + 0x8 * i
/-- CLK_BLW_SEG<i>_RATE (spec/16_clocks_power_and_temper). -/
def CLK_BLW_SEG_RATE (i : Nat) : Nat := 0x10010214 + 0x8 * i
/-- CLK_STOP_REC (spec/16_clocks_power_and_temper). -/
def CLK_STOP_REC : Nat := 0x10010300
/-- CLK_STOP_TLO (spec/16_clocks_power_and_temper). -/
def CLK_STOP_TLO : Nat := 0x10010304
/-- CLK_STOP_THI (spec/16_clocks_power_and_temper). -/
def CLK_STOP_THI : Nat := 0x10010308
/-- ANV_CTRL (spec/01_frame_and_event_order). -/
def ANV_CTRL : Nat := 0x10020000
/-- ANV_SEQ (spec/01_frame_and_event_order). -/
def ANV_SEQ : Nat := 0x10020004
/-- ANV_LAST_SEQ (spec/01_frame_and_event_order). -/
def ANV_LAST_SEQ : Nat := 0x10020008
/-- ANV_LAST_SRC (spec/01_frame_and_event_order). -/
def ANV_LAST_SRC : Nat := 0x1002000c
/-- ANV_LAST_TLO (spec/01_frame_and_event_order). -/
def ANV_LAST_TLO : Nat := 0x10020010
/-- ANV_LAST_THI (spec/01_frame_and_event_order). -/
def ANV_LAST_THI : Nat := 0x10020014
/-- ANV_SRC<n>_CFG (spec/01_frame_and_event_order). -/
def ANV_SRC_CFG (n : Nat) : Nat := 0x10021000 + 0x10 * n
/-- ANV_SRC<n>_DST0 (spec/01_frame_and_event_order). -/
def ANV_SRC_DST0 (n : Nat) : Nat := 0x10021004 + 0x10 * n
/-- ANV_SRC<n>_DST1 (spec/01_frame_and_event_order). -/
def ANV_SRC_DST1 (n : Nat) : Nat := 0x10021008 + 0x10 * n
/-- ANV_SRC<n>_DST2 (spec/01_frame_and_event_order). -/
def ANV_SRC_DST2 (n : Nat) : Nat := 0x1002100c + 0x10 * n
/-- LOG_STAT (spec/17_keep_domain_and_records). -/
def LOG_STAT : Nat := 0x10030000
/-- LOG_CTRL (spec/17_keep_domain_and_records). -/
def LOG_CTRL : Nat := 0x10030004
/-- LOG_CFG (spec/17_keep_domain_and_records). -/
def LOG_CFG : Nat := 0x10030008
/-- LOG_ECFG (spec/17_keep_domain_and_records). -/
def LOG_ECFG : Nat := 0x1003000c
/-- LOG_VCFG (spec/17_keep_domain_and_records). -/
def LOG_VCFG : Nat := 0x10030010
/-- LOG_STORE (spec/17_keep_domain_and_records). -/
def LOG_STORE : Nat := 0x10030014
/-- LOG_WIDX (spec/17_keep_domain_and_records). -/
def LOG_WIDX : Nat := 0x10030018
/-- LOG_COUNT (spec/17_keep_domain_and_records). -/
def LOG_COUNT : Nat := 0x1003001c
/-- LOG_LOST (spec/17_keep_domain_and_records). -/
def LOG_LOST : Nat := 0x10030020
/-- LOG_REFUSED_CNT (spec/17_keep_domain_and_records). -/
def LOG_REFUSED_CNT : Nat := 0x10030024
/-- LOG_ABORT_CNT (spec/17_keep_domain_and_records). -/
def LOG_ABORT_CNT : Nat := 0x10030028
/-- LOG_JNEXT (spec/17_keep_domain_and_records). -/
def LOG_JNEXT : Nat := 0x10030030
/-- LOG_BURST_LO (spec/17_keep_domain_and_records). -/
def LOG_BURST_LO : Nat := 0x10030034
/-- LOG_BURST_HI (spec/17_keep_domain_and_records). -/
def LOG_BURST_HI : Nat := 0x10030038
/-- LOG_KT_LO (spec/17_keep_domain_and_records). -/
def LOG_KT_LO : Nat := 0x10030040
/-- LOG_KT_HI (spec/17_keep_domain_and_records). -/
def LOG_KT_HI : Nat := 0x10030044
/-- LOG_RIDX (spec/17_keep_domain_and_records). -/
def LOG_RIDX : Nat := 0x10030050
/-- LOG_RDATA<w> (spec/17_keep_domain_and_records). -/
def LOG_RDATA (w : Nat) : Nat := 0x10030060 + 0x4 * w
/-- LOG_FW_CODE (spec/17_keep_domain_and_records). -/
def LOG_FW_CODE : Nat := 0x10030080
/-- LOG_FW_DATA<w> (spec/17_keep_domain_and_records). -/
def LOG_FW_DATA (w : Nat) : Nat := 0x10030084 + 0x4 * w
/-- LOG_FW_CMD (spec/17_keep_domain_and_records). -/
def LOG_FW_CMD : Nat := 0x10030094
/-- SEC_LC (spec/18_security_debug_and_power_states). -/
def SEC_LC : Nat := 0x10040000
/-- SEC_LC_CTRL (spec/18_security_debug_and_power_states). -/
def SEC_LC_CTRL : Nat := 0x10040004
/-- SEC_KEY_STAT (spec/18_security_debug_and_power_states). -/
def SEC_KEY_STAT : Nat := 0x10040008
/-- SEC_KEY_CTRL (spec/18_security_debug_and_power_states). -/
def SEC_KEY_CTRL : Nat := 0x1004000c
/-- SEC_CNT (spec/18_security_debug_and_power_states). -/
def SEC_CNT : Nat := 0x10040010
/-- SEC_CNT_CTRL (spec/18_security_debug_and_power_states). -/
def SEC_CNT_CTRL : Nat := 0x10040014
/-- SEC_FWVER (spec/18_security_debug_and_power_states). -/
def SEC_FWVER : Nat := 0x10040018
/-- SEC_STAT (spec/18_security_debug_and_power_states). -/
def SEC_STAT : Nat := 0x1004001c
/-- PWR_CTRL (spec/18_security_debug_and_power_states). -/
def PWR_CTRL : Nat := 0x10040020
/-- PWR_STAT (spec/18_security_debug_and_power_states). -/
def PWR_STAT : Nat := 0x10040024
/-- PWR_WAKE_LO (spec/18_security_debug_and_power_states). -/
def PWR_WAKE_LO : Nat := 0x10040028
/-- PWR_WAKE_HI (spec/18_security_debug_and_power_states). -/
def PWR_WAKE_HI : Nat := 0x1004002c
/-- SEC_UID<i> (spec/18_security_debug_and_power_states). -/
def SEC_UID (i : Nat) : Nat := 0x10040030 + 0x4 * i
/-- DBG_REQ (spec/18_security_debug_and_power_states). -/
def DBG_REQ : Nat := 0x10040040
/-- DBG_STAT (spec/18_security_debug_and_power_states). -/
def DBG_STAT : Nat := 0x10040044
/-- DBG_CHAL<i> (spec/18_security_debug_and_power_states). -/
def DBG_CHAL (i : Nat) : Nat := 0x10040080 + 0x4 * i
/-- DBG_RESP<i> (spec/18_security_debug_and_power_states). -/
def DBG_RESP (i : Nat) : Nat := 0x100400c0 + 0x4 * i
/-- SEC_KSTAGE<i> (spec/18_security_debug_and_power_states). -/
def SEC_KSTAGE (i : Nat) : Nat := 0x10040100 + 0x4 * i
/-- TMP_STAT (spec/16_clocks_power_and_temper). -/
def TMP_STAT : Nat := 0x10050000
/-- TMP_CTRL (spec/16_clocks_power_and_temper). -/
def TMP_CTRL : Nat := 0x10050004
/-- TMP_CFG (spec/16_clocks_power_and_temper). -/
def TMP_CFG : Nat := 0x10050008
/-- TMP_THR (spec/16_clocks_power_and_temper). -/
def TMP_THR : Nat := 0x1005000c
/-- TMP_TPRED (spec/16_clocks_power_and_temper). -/
def TMP_TPRED : Nat := 0x10050010
/-- TMP_S<s>_LIM (spec/16_clocks_power_and_temper). -/
def TMP_S_LIM (s : Nat) : Nat := 0x10050100 + 0x10 * s
/-- TMP_S<s>_RATE (spec/16_clocks_power_and_temper). -/
def TMP_S_RATE (s : Nat) : Nat := 0x10050104 + 0x10 * s
/-- TMP_S<s>_DATA (spec/16_clocks_power_and_temper). -/
def TMP_S_DATA (s : Nat) : Nat := 0x10050108 + 0x10 * s
/-- TMP_S<s>_RRATE (spec/16_clocks_power_and_temper). -/
def TMP_S_RRATE (s : Nat) : Nat := 0x1005010c + 0x10 * s
/-- TMP_X<j>_CFG (spec/16_clocks_power_and_temper). -/
def TMP_X_CFG (j : Nat) : Nat := 0x10050300 + 0x20 * j
/-- TMP_X<j>_BAD (spec/16_clocks_power_and_temper). -/
def TMP_X_BAD (j : Nat) : Nat := 0x10050304 + 0x20 * j
/-- TMP_X<j>_PT<i> (spec/16_clocks_power_and_temper). -/
def TMP_X_PT (j i : Nat) : Nat := 0x10050308 + 0x20 * j + 0x4 * i
/-- HRT_STAT (spec/03_hearth_fabric). -/
def HRT_STAT : Nat := 0x10100000
/-- HRT_LATE_CNT (spec/03_hearth_fabric). -/
def HRT_LATE_CNT : Nat := 0x10100004
/-- HRT_LATE_ID (spec/03_hearth_fabric). -/
def HRT_LATE_ID : Nat := 0x10100008
/-- HRT_STALE_CNT (spec/03_hearth_fabric). -/
def HRT_STALE_CNT : Nat := 0x1010000c
/-- HRT_BLKID (spec/03_hearth_fabric). -/
def HRT_BLKID : Nat := 0x10100010
/-- HRT_BLKCMD (spec/03_hearth_fabric). -/
def HRT_BLKCMD : Nat := 0x10100014
/-- HRT_BLKSTAT (spec/03_hearth_fabric). -/
def HRT_BLKSTAT : Nat := 0x10100018
/-- COL_WORDS (spec/03_hearth_fabric). -/
def COL_WORDS : Nat := 0x10100020
/-- COL_DISC_CNT (spec/03_hearth_fabric). -/
def COL_DISC_CNT : Nat := 0x10100024
/-- COL_RR (spec/03_hearth_fabric). -/
def COL_RR : Nat := 0x10100028
/-- HRT_ENG<e>_STAT (spec/03_hearth_fabric). -/
def HRT_ENG_STAT (e : Nat) : Nat := 0x10101000 + 0x10 * e
/-- HRT_ENG<e>_TIME (spec/03_hearth_fabric). -/
def HRT_ENG_TIME (e : Nat) : Nat := 0x10101004 + 0x10 * e
/-- HRT_ENG<e>_ECC (spec/03_hearth_fabric). -/
def HRT_ENG_ECC (e : Nat) : Nat := 0x10101008 + 0x10 * e
/-- PLC_CTRL (spec/04_placement_and_migration). -/
def PLC_CTRL : Nat := 0x10120000
/-- PLC_STAT (spec/04_placement_and_migration). -/
def PLC_STAT : Nat := 0x10120004
/-- PLC_CFG (spec/04_placement_and_migration). -/
def PLC_CFG : Nat := 0x10120008
/-- PLC_THERM_HOLD (spec/04_placement_and_migration). -/
def PLC_THERM_HOLD : Nat := 0x1012000c
/-- PLC_ST_INTERVAL (spec/04_placement_and_migration). -/
def PLC_ST_INTERVAL : Nat := 0x10120010
/-- PLC_ST_REQ (spec/04_placement_and_migration). -/
def PLC_ST_REQ : Nat := 0x10120014
/-- PLC_ST_STAT (spec/04_placement_and_migration). -/
def PLC_ST_STAT : Nat := 0x10120018
/-- PLC_SLOW_FC (spec/04_placement_and_migration). -/
def PLC_SLOW_FC : Nat := 0x1012001c
/-- PLC_MIG<k>_STAT (spec/04_placement_and_migration). -/
def PLC_MIG_STAT (k : Nat) : Nat := 0x10120020 + 0x4 * k
/-- PLC_MIG_CNT (spec/04_placement_and_migration). -/
def PLC_MIG_CNT : Nat := 0x10120028
/-- PLC_ABORT_CNT (spec/04_placement_and_migration). -/
def PLC_ABORT_CNT : Nat := 0x1012002c
/-- PLC_RECOV_CNT (spec/04_placement_and_migration). -/
def PLC_RECOV_CNT : Nat := 0x10120030
/-- PLC_RECOV_LAST (spec/04_placement_and_migration). -/
def PLC_RECOV_LAST : Nat := 0x10120034
/-- PLC_ENG<e>_INFO (spec/04_placement_and_migration). -/
def PLC_ENG_INFO (e : Nat) : Nat := 0x10121000 + 0x4 * e
/-- LP_PSEL (spec/05_loops_and_supervision). -/
def LP_PSEL : Nat := 0x10130000
/-- LP_PDATA (spec/05_loops_and_supervision). -/
def LP_PDATA : Nat := 0x10130004
/-- LP_STAT (spec/05_loops_and_supervision). -/
def LP_STAT : Nat := 0x10130008
/-- LP_SWAP_CMD (spec/05_loops_and_supervision). -/
def LP_SWAP_CMD : Nat := 0x1013000c
/-- LP_SWAP_STAT (spec/05_loops_and_supervision). -/
def LP_SWAP_STAT : Nat := 0x10130010
/-- LP_SWAP_FRM (spec/05_loops_and_supervision). -/
def LP_SWAP_FRM : Nat := 0x10130014
/-- LP_SWAP_CNT (spec/05_loops_and_supervision). -/
def LP_SWAP_CNT : Nat := 0x10130018
/-- LP_FE_LAST (spec/05_loops_and_supervision). -/
def LP_FE_LAST : Nat := 0x1013001c
/-- LP_FE_CNT (spec/05_loops_and_supervision). -/
def LP_FE_CNT : Nat := 0x10130020
/-- LP_SWAP_HELD (spec/05_loops_and_supervision). -/
def LP_SWAP_HELD : Nat := 0x10130024
/-- IMG_CTRL (spec/02_refen_image). -/
def IMG_CTRL : Nat := 0x101f0000
/-- IMG_STAT (spec/02_refen_image). -/
def IMG_STAT : Nat := 0x101f0004
/-- IMG_RESULT (spec/02_refen_image). -/
def IMG_RESULT : Nat := 0x101f0008
/-- IMG_GEN (spec/02_refen_image). -/
def IMG_GEN : Nat := 0x101f000c
/-- IMG_SECVER (spec/02_refen_image). -/
def IMG_SECVER : Nat := 0x101f0010
/-- IMG_SWITCH_FRM (spec/02_refen_image). -/
def IMG_SWITCH_FRM : Nat := 0x101f0014
/-- IMG_HASH<i> (spec/02_refen_image). -/
def IMG_HASH (i : Nat) : Nat := 0x101f0020 + 0x4 * i
/-- PWM_STAT (spec/11_pwm_generator). -/
def PWM_STAT : Nat := 0x10200000
/-- PWM_LATE_CNT (spec/11_pwm_generator). -/
def PWM_LATE_CNT : Nat := 0x10200004
/-- PWM_PARTIAL_CNT (spec/11_pwm_generator). -/
def PWM_PARTIAL_CNT : Nat := 0x10200008
/-- PWM_MINP_CNT (spec/11_pwm_generator). -/
def PWM_MINP_CNT : Nat := 0x1020000c
/-- PWM_ELDROP_CNT (spec/11_pwm_generator). -/
def PWM_ELDROP_CNT : Nat := 0x10200010
/-- PWM_LOCKED<k> (spec/11_pwm_generator). -/
def PWM_LOCKED (k : Nat) : Nat := 0x10200020 + 0x4 * k
/-- PWM_CH<n>_CFG (spec/11_pwm_generator). -/
def PWM_CH_CFG (n : Nat) : Nat := 0x10201000 + 0x40 * n
/-- PWM_CH<n>_PER (spec/11_pwm_generator). -/
def PWM_CH_PER (n : Nat) : Nat := 0x10201004 + 0x40 * n
/-- PWM_CH<n>_CMPU (spec/11_pwm_generator). -/
def PWM_CH_CMPU (n : Nat) : Nat := 0x10201008 + 0x40 * n
/-- PWM_CH<n>_CMPD (spec/11_pwm_generator). -/
def PWM_CH_CMPD (n : Nat) : Nat := 0x1020100c + 0x40 * n
/-- PWM_CH<n>_UPD (spec/11_pwm_generator). -/
def PWM_CH_UPD (n : Nat) : Nat := 0x10201010 + 0x40 * n
/-- PWM_CH<n>_EL (spec/11_pwm_generator). -/
def PWM_CH_EL (n : Nat) : Nat := 0x10201014 + 0x40 * n
/-- PWM_CH<n>_DT (spec/11_pwm_generator). -/
def PWM_CH_DT (n : Nat) : Nat := 0x10201018 + 0x40 * n
/-- PWM_CH<n>_OVR (spec/11_pwm_generator). -/
def PWM_CH_OVR (n : Nat) : Nat := 0x1020101c + 0x40 * n
/-- PWM_CH<n>_PHASE (spec/11_pwm_generator). -/
def PWM_CH_PHASE (n : Nat) : Nat := 0x10201020 + 0x40 * n
/-- PWM_CH<n>_LOCK (spec/11_pwm_generator). -/
def PWM_CH_LOCK (n : Nat) : Nat := 0x10201024 + 0x40 * n
/-- PWM_CH<n>_LERR (spec/11_pwm_generator). -/
def PWM_CH_LERR (n : Nat) : Nat := 0x10201028 + 0x40 * n
/-- PWM_CH<n>_STAT (spec/11_pwm_generator). -/
def PWM_CH_STAT (n : Nat) : Nat := 0x1020102c + 0x40 * n
/-- PWM_CH<n>_ACT_PER (spec/11_pwm_generator). -/
def PWM_CH_ACT_PER (n : Nat) : Nat := 0x10201030 + 0x40 * n
/-- PWM_CH<n>_ACT_CMPU (spec/11_pwm_generator). -/
def PWM_CH_ACT_CMPU (n : Nat) : Nat := 0x10201034 + 0x40 * n
/-- PWM_CH<n>_ACT_CMPD (spec/11_pwm_generator). -/
def PWM_CH_ACT_CMPD (n : Nat) : Nat := 0x10201038 + 0x40 * n
/-- GDP_STAT (spec/12_gate_drive_and_quench). -/
def GDP_STAT : Nat := 0x10210000
/-- GDP_TG_LATCH (spec/12_gate_drive_and_quench). -/
def GDP_TG_LATCH : Nat := 0x10210004
/-- GDP_PDROP_CNT (spec/12_gate_drive_and_quench). -/
def GDP_PDROP_CNT : Nat := 0x10210008
/-- GDP_TG<g>_CFG (spec/12_gate_drive_and_quench). -/
def GDP_TG_CFG (g : Nat) : Nat := 0x10210040 + 0x4 * g
/-- GDP_BR<b>_CFG (spec/12_gate_drive_and_quench). -/
def GDP_BR_CFG (b : Nat) : Nat := 0x10210100 + 0x20 * b
/-- GDP_BR<b>_CTRL (spec/12_gate_drive_and_quench). -/
def GDP_BR_CTRL (b : Nat) : Nat := 0x10210104 + 0x20 * b
/-- GDP_BR<b>_STAT (spec/12_gate_drive_and_quench). -/
def GDP_BR_STAT (b : Nat) : Nat := 0x10210108 + 0x20 * b
/-- GDP_BR<b>_LOST (spec/12_gate_drive_and_quench). -/
def GDP_BR_LOST (b : Nat) : Nat := 0x1021010c + 0x20 * b
/-- GDP_BR<b>_OK<p> (spec/12_gate_drive_and_quench). -/
def GDP_BR_OK (b p : Nat) : Nat := 0x10210110 + 0x20 * b + 0x4 * p
/-- GDP_BR<b>_QTIME (spec/12_gate_drive_and_quench). -/
def GDP_BR_QTIME (b : Nat) : Nat := 0x1021011c + 0x20 * b
/-- GDP_CH<n>_CFG (spec/12_gate_drive_and_quench). -/
def GDP_CH_CFG (n : Nat) : Nat := 0x10211000 + 0x10 * n
/-- GDP_CH<n>_STAT (spec/12_gate_drive_and_quench). -/
def GDP_CH_STAT (n : Nat) : Nat := 0x10211004 + 0x10 * n
/-- GDP_CH<n>_CTRL (spec/12_gate_drive_and_quench). -/
def GDP_CH_CTRL (n : Nat) : Nat := 0x10211008 + 0x10 * n
/-- GDP_CH<n>_TDET (spec/12_gate_drive_and_quench). -/
def GDP_CH_TDET (n : Nat) : Nat := 0x1021100c + 0x10 * n
/-- GDP_DIAG_CTRL (spec/12_gate_drive_and_quench). -/
def GDP_DIAG_CTRL : Nat := 0x10212000
/-- GDP_DIAG_STAT (spec/12_gate_drive_and_quench). -/
def GDP_DIAG_STAT : Nat := 0x10212004
/-- GDP_DIAG_CFG (spec/12_gate_drive_and_quench). -/
def GDP_DIAG_CFG : Nat := 0x10212008
/-- GDP_DIAG_DVMIN (spec/12_gate_drive_and_quench). -/
def GDP_DIAG_DVMIN : Nat := 0x1021200c
/-- GDP_DIAG_DVMAX (spec/12_gate_drive_and_quench). -/
def GDP_DIAG_DVMAX : Nat := 0x10212010
/-- GDP_DIAG_VDCMIN (spec/12_gate_drive_and_quench). -/
def GDP_DIAG_VDCMIN : Nat := 0x10212014
/-- GDP_DIAG_E<i> (spec/12_gate_drive_and_quench). -/
def GDP_DIAG_E (i : Nat) : Nat := 0x10212100 + 0x4 * i
/-- GDP_DIAG_R<i> (spec/12_gate_drive_and_quench). -/
def GDP_DIAG_R (i : Nat) : Nat := 0x10212180 + 0x4 * i
/-- GDP_DIAG_DV<i> (spec/12_gate_drive_and_quench). -/
def GDP_DIAG_DV (i : Nat) : Nat := 0x10212200 + 0x4 * i
/-- GDP_TEST_CTRL (spec/12_gate_drive_and_quench). -/
def GDP_TEST_CTRL : Nat := 0x10213000
/-- GDP_TEST_STAT (spec/12_gate_drive_and_quench). -/
def GDP_TEST_STAT : Nat := 0x10213004
/-- SDM_STAT (spec/08_measurement_inputs). -/
def SDM_STAT : Nat := 0x10220000
/-- SDM_FAULT<k> (spec/08_measurement_inputs). -/
def SDM_FAULT (k : Nat) : Nat := 0x10220004 + 0x4 * k
/-- SDM_SPARE (spec/08_measurement_inputs). -/
def SDM_SPARE : Nat := 0x10220010
/-- SDM_CLK<c>_CFG (spec/08_measurement_inputs). -/
def SDM_CLK_CFG (c : Nat) : Nat := 0x10220100 + 0x4 * c
/-- SDM_CH<n>_CFG (spec/08_measurement_inputs). -/
def SDM_CH_CFG (n : Nat) : Nat := 0x10221000 + 0x20 * n
/-- SDM_CH<n>_GAIN (spec/08_measurement_inputs). -/
def SDM_CH_GAIN (n : Nat) : Nat := 0x10221004 + 0x20 * n
/-- SDM_CH<n>_OFFSET (spec/08_measurement_inputs). -/
def SDM_CH_OFFSET (n : Nat) : Nat := 0x10221008 + 0x20 * n
/-- SDM_CH<n>_PLIM (spec/08_measurement_inputs). -/
def SDM_CH_PLIM (n : Nat) : Nat := 0x1022100c + 0x20 * n
/-- SDM_CH<n>_DATA (spec/08_measurement_inputs). -/
def SDM_CH_DATA (n : Nat) : Nat := 0x10221010 + 0x20 * n
/-- ADC_STAT (spec/08_measurement_inputs). -/
def ADC_STAT : Nat := 0x10230000
/-- ADC_<b>_CTRL (spec/08_measurement_inputs). -/
def ADC_CTRL (b : Nat) : Nat := 0x10230100 + 0x20 * b
/-- ADC_<b>_SLICE (spec/08_measurement_inputs). -/
def ADC_SLICE (b : Nat) : Nat := 0x10230104 + 0x20 * b
/-- ADC_<b>_URG (spec/08_measurement_inputs). -/
def ADC_URG (b : Nat) : Nat := 0x10230108 + 0x20 * b
/-- ADC_<b>_SEQ<e> (spec/08_measurement_inputs). -/
def ADC_SEQ (b e : Nat) : Nat := 0x10231000 + 0x100 * b + 0x4 * e
/-- ADC_CH<c>_GAIN (spec/08_measurement_inputs). -/
def ADC_CH_GAIN (c : Nat) : Nat := 0x10232000 + 0x10 * c
/-- ADC_CH<c>_OFFSET (spec/08_measurement_inputs). -/
def ADC_CH_OFFSET (c : Nat) : Nat := 0x10232004 + 0x10 * c
/-- ADC_CH<c>_DATA (spec/08_measurement_inputs). -/
def ADC_CH_DATA (c : Nat) : Nat := 0x10232008 + 0x10 * c
/-- ADC_MCAL (spec/08_measurement_inputs). -/
def ADC_MCAL : Nat := 0x10233000
/-- ADC_M<s>_FACT (spec/08_measurement_inputs). -/
def ADC_M_FACT (s : Nat) : Nat := 0x10233004 + 0x4 * s
/-- CMP_CH<n>_CFG (spec/08_measurement_inputs). -/
def CMP_CH_CFG (n : Nat) : Nat := 0x10240000 + 0x10 * n
/-- CMP_CH<n>_THR (spec/08_measurement_inputs). -/
def CMP_CH_THR (n : Nat) : Nat := 0x10240004 + 0x10 * n
/-- CMP_STATE<k> (spec/08_measurement_inputs). -/
def CMP_STATE (k : Nat) : Nat := 0x10241000 + 0x4 * k
/-- CMP_LATCH<k> (spec/08_measurement_inputs). -/
def CMP_LATCH (k : Nat) : Nat := 0x10241008 + 0x4 * k
/-- CMP_STAT (spec/08_measurement_inputs). -/
def CMP_STAT : Nat := 0x10241010
/-- ENC_STAT (spec/09_position_feedback). -/
def ENC_STAT : Nat := 0x10250000
/-- ENC_EMU (spec/09_position_feedback). -/
def ENC_EMU : Nat := 0x10250004
/-- ENC_EMU_RATIO (spec/09_position_feedback). -/
def ENC_EMU_RATIO : Nat := 0x10250008
/-- ENC<k>_CFG (spec/09_position_feedback). -/
def ENCK_CFG (k : Nat) : Nat := 0x10250100 + 0x80 * k
/-- ENC<k>_WRAP (spec/09_position_feedback). -/
def ENCK_WRAP (k : Nat) : Nat := 0x10250104 + 0x80 * k
/-- ENC<k>_IDX (spec/09_position_feedback). -/
def ENCK_IDX (k : Nat) : Nat := 0x10250108 + 0x80 * k
/-- ENC<k>_BW (spec/09_position_feedback). -/
def ENCK_BW (k : Nat) : Nat := 0x1025010c + 0x80 * k
/-- ENC<k>_SER (spec/09_position_feedback). -/
def ENCK_SER (k : Nat) : Nat := 0x10250110 + 0x80 * k
/-- ENC<k>_SERT (spec/09_position_feedback). -/
def ENCK_SERT (k : Nat) : Nat := 0x10250114 + 0x80 * k
/-- ENC<k>_STAT (spec/09_position_feedback). -/
def ENCK_STAT (k : Nat) : Nat := 0x10250118 + 0x80 * k
/-- ENC<k>_RAW (spec/09_position_feedback). -/
def ENCK_RAW (k : Nat) : Nat := 0x1025011c + 0x80 * k
/-- ENC<k>_POS (spec/09_position_feedback). -/
def ENCK_POS (k : Nat) : Nat := 0x10250120 + 0x80 * k
/-- ENC<k>_TURNS (spec/09_position_feedback). -/
def ENCK_TURNS (k : Nat) : Nat := 0x10250124 + 0x80 * k
/-- ENC<k>_LOAD (spec/09_position_feedback). -/
def ENCK_LOAD (k : Nat) : Nat := 0x10250128 + 0x80 * k
/-- ENC<k>_IDXERR (spec/09_position_feedback). -/
def ENCK_IDXERR (k : Nat) : Nat := 0x1025012c + 0x80 * k
/-- ENC<k>_SPEED (spec/09_position_feedback). -/
def ENCK_SPEED (k : Nat) : Nat := 0x10250130 + 0x80 * k
/-- ENC<k>_PRB_POS (spec/09_position_feedback). -/
def ENCK_PRB_POS (k : Nat) : Nat := 0x10250134 + 0x80 * k
/-- ENC<k>_PRB_SPD (spec/09_position_feedback). -/
def ENCK_PRB_SPD (k : Nat) : Nat := 0x10250138 + 0x80 * k
/-- ENC<k>_PRB_TLO (spec/09_position_feedback). -/
def ENCK_PRB_TLO (k : Nat) : Nat := 0x1025013c + 0x80 * k
/-- ENC<k>_PRB_THI (spec/09_position_feedback). -/
def ENCK_PRB_THI (k : Nat) : Nat := 0x10250140 + 0x80 * k
/-- MTR_STAT (spec/10_energy_metering). -/
def MTR_STAT : Nat := 0x10260000
/-- MTR_SNAP (spec/10_energy_metering). -/
def MTR_SNAP : Nat := 0x10260004
/-- MTR_MP<m>_CFG (spec/10_energy_metering). -/
def MTR_MP_CFG (m : Nat) : Nat := 0x10260100 + 0x100 * m
/-- MTR_MP<m>_IM<j> (spec/10_energy_metering). -/
def MTR_MP_IM (m j : Nat) : Nat := 0x10260104 + 0x100 * m + 0x4 * j
/-- MTR_MP<m>_CYC (spec/10_energy_metering). -/
def MTR_MP_CYC (m : Nat) : Nat := 0x10260128 + 0x100 * m
/-- MTR_MP<m>_VHYST (spec/10_energy_metering). -/
def MTR_MP_VHYST (m : Nat) : Nat := 0x1026012c + 0x100 * m
/-- MTR_MP<m>_PSTART (spec/10_energy_metering). -/
def MTR_MP_PSTART (m : Nat) : Nat := 0x10260130 + 0x100 * m
/-- MTR_MP<m>_PSTOP (spec/10_energy_metering). -/
def MTR_MP_PSTOP (m : Nat) : Nat := 0x10260134 + 0x100 * m
/-- MTR_MP<m>_CORG<c> (spec/10_energy_metering). -/
def MTR_MP_CORG (m c : Nat) : Nat := 0x10260140 + 0x100 * m + 0x8 * c
/-- MTR_MP<m>_CORD<c> (spec/10_energy_metering). -/
def MTR_MP_CORD (m c : Nat) : Nat := 0x10260144 + 0x100 * m + 0x8 * c
/-- MTR_MP<m>_STATE (spec/10_energy_metering). -/
def MTR_MP_STATE (m : Nat) : Nat := 0x10260170 + 0x100 * m
/-- MTR_MP<m>_PCYC (spec/10_energy_metering). -/
def MTR_MP_PCYC (m : Nat) : Nat := 0x10260174 + 0x100 * m
/-- MTR_MP<m>_FCYC (spec/10_energy_metering). -/
def MTR_MP_FCYC (m : Nat) : Nat := 0x10260178 + 0x100 * m
/-- MTR_MP<m>_GAP_CNT (spec/10_energy_metering). -/
def MTR_MP_GAP_CNT (m : Nat) : Nat := 0x1026017c + 0x100 * m
/-- MTR_MP<m>_IMP_LO (spec/10_energy_metering). -/
def MTR_MP_IMP_LO (m : Nat) : Nat := 0x10260180 + 0x100 * m
/-- MTR_MP<m>_IMP_HI (spec/10_energy_metering). -/
def MTR_MP_IMP_HI (m : Nat) : Nat := 0x10260184 + 0x100 * m
/-- MTR_MP<m>_EXP_LO (spec/10_energy_metering). -/
def MTR_MP_EXP_LO (m : Nat) : Nat := 0x10260188 + 0x100 * m
/-- MTR_MP<m>_EXP_HI (spec/10_energy_metering). -/
def MTR_MP_EXP_HI (m : Nat) : Nat := 0x1026018c + 0x100 * m
/-- MTR_MP<m>_IMP_FINE (spec/10_energy_metering). -/
def MTR_MP_IMP_FINE (m : Nat) : Nat := 0x10260190 + 0x100 * m
/-- MTR_MP<m>_EXP_FINE (spec/10_energy_metering). -/
def MTR_MP_EXP_FINE (m : Nat) : Nat := 0x10260194 + 0x100 * m
/-- MTR_MP<m>_SNP_IMP_LO (spec/10_energy_metering). -/
def MTR_MP_SNP_IMP_LO (m : Nat) : Nat := 0x102601a0 + 0x100 * m
/-- MTR_MP<m>_SNP_IMP_HI (spec/10_energy_metering). -/
def MTR_MP_SNP_IMP_HI (m : Nat) : Nat := 0x102601a4 + 0x100 * m
/-- MTR_MP<m>_SNP_EXP_LO (spec/10_energy_metering). -/
def MTR_MP_SNP_EXP_LO (m : Nat) : Nat := 0x102601a8 + 0x100 * m
/-- MTR_MP<m>_SNP_EXP_HI (spec/10_energy_metering). -/
def MTR_MP_SNP_EXP_HI (m : Nat) : Nat := 0x102601ac + 0x100 * m
/-- MTR_MP<m>_SNP_TLO (spec/10_energy_metering). -/
def MTR_MP_SNP_TLO (m : Nat) : Nat := 0x102601b0 + 0x100 * m
/-- MTR_MP<m>_SNP_THI (spec/10_energy_metering). -/
def MTR_MP_SNP_THI (m : Nat) : Nat := 0x102601b4 + 0x100 * m
/-- MTR_MP<m>_SNP_CNT (spec/10_energy_metering). -/
def MTR_MP_SNP_CNT (m : Nat) : Nat := 0x102601b8 + 0x100 * m
/-- MTR_MP<m>_ADD_LO (spec/10_energy_metering). -/
def MTR_MP_ADD_LO (m : Nat) : Nat := 0x102601c0 + 0x100 * m
/-- MTR_MP<m>_ADD_HI (spec/10_energy_metering). -/
def MTR_MP_ADD_HI (m : Nat) : Nat := 0x102601c4 + 0x100 * m
/-- MTR_MP<m>_ADD_CMD (spec/10_energy_metering). -/
def MTR_MP_ADD_CMD (m : Nat) : Nat := 0x102601c8 + 0x100 * m
/-- SAF_STAT (spec/15_safety_functions). -/
def SAF_STAT : Nat := 0x10270000
/-- SAF_SIN (spec/15_safety_functions). -/
def SAF_SIN : Nat := 0x10270004
/-- SAF_FAULT (spec/15_safety_functions). -/
def SAF_FAULT : Nat := 0x10270008
/-- SAF_CTRL (spec/15_safety_functions). -/
def SAF_CTRL : Nat := 0x1027000c
/-- SAF_PWLEN (spec/15_safety_functions). -/
def SAF_PWLEN : Nat := 0x10270010
/-- SAF_PW<i> (spec/15_safety_functions). -/
def SAF_PW (i : Nat) : Nat := 0x10270020 + 0x4 * i
/-- SAF_ITEM_NUM (spec/15_safety_functions). -/
def SAF_ITEM_NUM : Nat := 0x10270040
/-- SAF_ITEM_VAL (spec/15_safety_functions). -/
def SAF_ITEM_VAL : Nat := 0x10270044
/-- SAF_AUTHOR (spec/15_safety_functions). -/
def SAF_AUTHOR : Nat := 0x10270048
/-- SAF_ITEM_CMD (spec/15_safety_functions). -/
def SAF_ITEM_CMD : Nat := 0x1027004c
/-- SAF_RESULT (spec/15_safety_functions). -/
def SAF_RESULT : Nat := 0x10270050
/-- SAF_CRC (spec/15_safety_functions). -/
def SAF_CRC : Nat := 0x10270054
/-- SAF_CHG_NUM (spec/15_safety_functions). -/
def SAF_CHG_NUM : Nat := 0x10270058
/-- SAF_PULSE_SKIP (spec/15_safety_functions). -/
def SAF_PULSE_SKIP : Nat := 0x1027005c
/-- LNK_LN<l>_CFG (spec/14_lanes_network_and_time). -/
def LNK_LN_CFG (l : Nat) : Nat := 0x10300100 + 0x20 * l
/-- LNK_LN<l>_STAT (spec/14_lanes_network_and_time). -/
def LNK_LN_STAT (l : Nat) : Nat := 0x10300104 + 0x20 * l
/-- LNK_LN<l>_PRBS_ERR (spec/14_lanes_network_and_time). -/
def LNK_LN_PRBS_ERR (l : Nat) : Nat := 0x10300108 + 0x20 * l
/-- LNK_LN<l>_HDR_ERR (spec/14_lanes_network_and_time). -/
def LNK_LN_HDR_ERR (l : Nat) : Nat := 0x1030010c + 0x20 * l
/-- ETH_P<p>_CTRL (spec/14_lanes_network_and_time). -/
def ETH_P_CTRL (p : Nat) : Nat := 0x10310100 + 0x400 * p
/-- ETH_P<p>_STAT (spec/14_lanes_network_and_time). -/
def ETH_P_STAT (p : Nat) : Nat := 0x10310104 + 0x400 * p
/-- ETH_P<p>_MAC_LO (spec/14_lanes_network_and_time). -/
def ETH_P_MAC_LO (p : Nat) : Nat := 0x10310108 + 0x400 * p
/-- ETH_P<p>_MAC_HI (spec/14_lanes_network_and_time). -/
def ETH_P_MAC_HI (p : Nat) : Nat := 0x1031010c + 0x400 * p
/-- ETH_P<p>_MAXLEN (spec/14_lanes_network_and_time). -/
def ETH_P_MAXLEN (p : Nat) : Nat := 0x10310110 + 0x400 * p
/-- ETH_P<p>_TSOFS (spec/14_lanes_network_and_time). -/
def ETH_P_TSOFS (p : Nat) : Nat := 0x10310114 + 0x400 * p
/-- ETH_P<p>_MC<i>_LO (spec/14_lanes_network_and_time). -/
def ETH_P_MC_LO (p i : Nat) : Nat := 0x10310120 + 0x400 * p + 0x8 * i
/-- ETH_P<p>_MC<i>_HI (spec/14_lanes_network_and_time). -/
def ETH_P_MC_HI (p i : Nat) : Nat := 0x10310124 + 0x400 * p + 0x8 * i
/-- ETH_P<p>_TXR<r>_BASE_LO (spec/14_lanes_network_and_time). -/
def ETH_P_TXR_BASE_LO (p r : Nat) : Nat := 0x10310200 + 0x400 * p + 0x20 * r
/-- ETH_P<p>_TXR<r>_BASE_HI (spec/14_lanes_network_and_time). -/
def ETH_P_TXR_BASE_HI (p r : Nat) : Nat := 0x10310204 + 0x400 * p + 0x20 * r
/-- ETH_P<p>_TXR<r>_LEN (spec/14_lanes_network_and_time). -/
def ETH_P_TXR_LEN (p r : Nat) : Nat := 0x10310208 + 0x400 * p + 0x20 * r
/-- ETH_P<p>_TXR<r>_HEAD (spec/14_lanes_network_and_time). -/
def ETH_P_TXR_HEAD (p r : Nat) : Nat := 0x1031020c + 0x400 * p + 0x20 * r
/-- ETH_P<p>_TXR<r>_TAIL (spec/14_lanes_network_and_time). -/
def ETH_P_TXR_TAIL (p r : Nat) : Nat := 0x10310210 + 0x400 * p + 0x20 * r
/-- ETH_P<p>_TXR<r>_CTRL (spec/14_lanes_network_and_time). -/
def ETH_P_TXR_CTRL (p r : Nat) : Nat := 0x10310214 + 0x400 * p + 0x20 * r
/-- ETH_P<p>_RXR<r>_BASE_LO (spec/14_lanes_network_and_time). -/
def ETH_P_RXR_BASE_LO (p r : Nat) : Nat := 0x10310280 + 0x400 * p + 0x20 * r
/-- ETH_P<p>_RXR<r>_BASE_HI (spec/14_lanes_network_and_time). -/
def ETH_P_RXR_BASE_HI (p r : Nat) : Nat := 0x10310284 + 0x400 * p + 0x20 * r
/-- ETH_P<p>_RXR<r>_LEN (spec/14_lanes_network_and_time). -/
def ETH_P_RXR_LEN (p r : Nat) : Nat := 0x10310288 + 0x400 * p + 0x20 * r
/-- ETH_P<p>_RXR<r>_HEAD (spec/14_lanes_network_and_time). -/
def ETH_P_RXR_HEAD (p r : Nat) : Nat := 0x1031028c + 0x400 * p + 0x20 * r
/-- ETH_P<p>_RXR<r>_TAIL (spec/14_lanes_network_and_time). -/
def ETH_P_RXR_TAIL (p r : Nat) : Nat := 0x10310290 + 0x400 * p + 0x20 * r
/-- ETH_P<p>_RXR<r>_CTRL (spec/14_lanes_network_and_time). -/
def ETH_P_RXR_CTRL (p r : Nat) : Nat := 0x10310294 + 0x400 * p + 0x20 * r
/-- ETH_P<p>_TX_FRAMES (spec/14_lanes_network_and_time). -/
def ETH_P_TX_FRAMES (p : Nat) : Nat := 0x10310300 + 0x400 * p
/-- ETH_P<p>_RX_FRAMES (spec/14_lanes_network_and_time). -/
def ETH_P_RX_FRAMES (p : Nat) : Nat := 0x10310304 + 0x400 * p
/-- ETH_P<p>_RX_DROP (spec/14_lanes_network_and_time). -/
def ETH_P_RX_DROP (p : Nat) : Nat := 0x10310308 + 0x400 * p
/-- ETH_P<p>_RX_FCS (spec/14_lanes_network_and_time). -/
def ETH_P_RX_FCS (p : Nat) : Nat := 0x1031030c + 0x400 * p
/-- TIM_CTRL (spec/14_lanes_network_and_time). -/
def TIM_CTRL : Nat := 0x10320000
/-- TIM_STAT (spec/14_lanes_network_and_time). -/
def TIM_STAT : Nat := 0x10320004
/-- TIM_SNAP_FRAC (spec/14_lanes_network_and_time). -/
def TIM_SNAP_FRAC : Nat := 0x10320008
/-- TIM_SNAP_LO (spec/14_lanes_network_and_time). -/
def TIM_SNAP_LO : Nat := 0x1032000c
/-- TIM_SNAP_HI (spec/14_lanes_network_and_time). -/
def TIM_SNAP_HI : Nat := 0x10320010
/-- TIM_INC_FRAC (spec/14_lanes_network_and_time). -/
def TIM_INC_FRAC : Nat := 0x10320014
/-- TIM_INC_NS (spec/14_lanes_network_and_time). -/
def TIM_INC_NS : Nat := 0x10320018
/-- TIM_AVG_FRAC (spec/14_lanes_network_and_time). -/
def TIM_AVG_FRAC : Nat := 0x1032001c
/-- TIM_AVG_NS (spec/14_lanes_network_and_time). -/
def TIM_AVG_NS : Nat := 0x10320020
/-- TIM_OFS_LO (spec/14_lanes_network_and_time). -/
def TIM_OFS_LO : Nat := 0x10320024
/-- TIM_OFS_HI (spec/14_lanes_network_and_time). -/
def TIM_OFS_HI : Nat := 0x10320028
/-- TIM_HOLD (spec/14_lanes_network_and_time). -/
def TIM_HOLD : Nat := 0x1032002c
/-- TIM_TRG<k>_CFG (spec/14_lanes_network_and_time). -/
def TIM_TRG_CFG (k : Nat) : Nat := 0x10320100 + 0x20 * k
/-- TIM_TRG<k>_START_LO (spec/14_lanes_network_and_time). -/
def TIM_TRG_START_LO (k : Nat) : Nat := 0x10320104 + 0x20 * k
/-- TIM_TRG<k>_START_HI (spec/14_lanes_network_and_time). -/
def TIM_TRG_START_HI (k : Nat) : Nat := 0x10320108 + 0x20 * k
/-- TIM_TRG<k>_PERIOD (spec/14_lanes_network_and_time). -/
def TIM_TRG_PERIOD (k : Nat) : Nat := 0x1032010c + 0x20 * k
/-- TIM_TRG<k>_WIDTH (spec/14_lanes_network_and_time). -/
def TIM_TRG_WIDTH (k : Nat) : Nat := 0x10320110 + 0x20 * k
/-- TIM_TRG<k>_MISSED (spec/14_lanes_network_and_time). -/
def TIM_TRG_MISSED (k : Nat) : Nat := 0x10320114 + 0x20 * k
/-- TIM_CAP<k>_CFG (spec/14_lanes_network_and_time). -/
def TIM_CAP_CFG (k : Nat) : Nat := 0x10320200 + 0x20 * k
/-- TIM_CAP<k>_STAT (spec/14_lanes_network_and_time). -/
def TIM_CAP_STAT (k : Nat) : Nat := 0x10320204 + 0x20 * k
/-- TIM_CAP<k>_DATA_FRAC (spec/14_lanes_network_and_time). -/
def TIM_CAP_DATA_FRAC (k : Nat) : Nat := 0x10320208 + 0x20 * k
/-- TIM_CAP<k>_DATA_LO (spec/14_lanes_network_and_time). -/
def TIM_CAP_DATA_LO (k : Nat) : Nat := 0x1032020c + 0x20 * k
/-- TIM_CAP<k>_DATA_HI (spec/14_lanes_network_and_time). -/
def TIM_CAP_DATA_HI (k : Nat) : Nat := 0x10320210 + 0x20 * k
/-- FRM_CTRL (spec/01_frame_and_event_order). -/
def FRM_CTRL : Nat := 0x10321000
/-- FRM_PERIOD (spec/01_frame_and_event_order). -/
def FRM_PERIOD : Nat := 0x10321004
/-- FRM_STAT (spec/01_frame_and_event_order). -/
def FRM_STAT : Nat := 0x10321008
/-- FRM_COUNT (spec/01_frame_and_event_order). -/
def FRM_COUNT : Nat := 0x1032100c
/-- FRM_LAT (spec/01_frame_and_event_order). -/
def FRM_LAT : Nat := 0x10321010
/-- FRM_PHASE_LO (spec/01_frame_and_event_order). -/
def FRM_PHASE_LO : Nat := 0x10321014
/-- FRM_PHASE_HI (spec/01_frame_and_event_order). -/
def FRM_PHASE_HI : Nat := 0x10321018
/-- FRM_ERR (spec/01_frame_and_event_order). -/
def FRM_ERR : Nat := 0x1032101c
/-- FRM_ERRLIM (spec/01_frame_and_event_order). -/
def FRM_ERRLIM : Nat := 0x10321020
/-- FRM_T0_LO (spec/01_frame_and_event_order). -/
def FRM_T0_LO : Nat := 0x10321024
/-- FRM_T0_HI (spec/01_frame_and_event_order). -/
def FRM_T0_HI : Nat := 0x10321028
/-- TWN_CFG (spec/13_twin_operation_and_jexper). -/
def TWN_CFG : Nat := 0x10330000
/-- TWN_CTRL (spec/13_twin_operation_and_jexper). -/
def TWN_CTRL : Nat := 0x10330004
/-- TWN_STAT (spec/13_twin_operation_and_jexper). -/
def TWN_STAT : Nat := 0x10330008
/-- TWN_LANE (spec/13_twin_operation_and_jexper). -/
def TWN_LANE : Nat := 0x1033000c
/-- TWN_PEER (spec/13_twin_operation_and_jexper). -/
def TWN_PEER : Nat := 0x10330010
/-- TWN_PEER_FW (spec/13_twin_operation_and_jexper). -/
def TWN_PEER_FW : Nat := 0x10330014
/-- TWN_PEER_FEAT (spec/13_twin_operation_and_jexper). -/
def TWN_PEER_FEAT : Nat := 0x10330018
/-- TWN_PEER_HASH<i> (spec/13_twin_operation_and_jexper). -/
def TWN_PEER_HASH (i : Nat) : Nat := 0x10330020 + 0x4 * i
/-- TWN_ALIGN (spec/13_twin_operation_and_jexper). -/
def TWN_ALIGN : Nat := 0x10330050
/-- TWN_FOFFS (spec/13_twin_operation_and_jexper). -/
def TWN_FOFFS : Nat := 0x10330054
/-- TWN_XTOL (spec/13_twin_operation_and_jexper). -/
def TWN_XTOL : Nat := 0x10330058
/-- TWN_XMIS<k> (spec/13_twin_operation_and_jexper). -/
def TWN_XMIS (k : Nat) : Nat := 0x10330060 + 0x4 * k
/-- TWN_FMIS<k> (spec/13_twin_operation_and_jexper). -/
def TWN_FMIS (k : Nat) : Nat := 0x1033006c + 0x4 * k
/-- TWN_HO (spec/13_twin_operation_and_jexper). -/
def TWN_HO : Nat := 0x10330078
/-- TWN_HO_FRM (spec/13_twin_operation_and_jexper). -/
def TWN_HO_FRM : Nat := 0x1033007c
/-- TWN_HO_CNT (spec/13_twin_operation_and_jexper). -/
def TWN_HO_CNT : Nat := 0x10330080
/-- TWN_RX_UNK (spec/13_twin_operation_and_jexper). -/
def TWN_RX_UNK : Nat := 0x10330084
/-- TWN_RX_CRC (spec/13_twin_operation_and_jexper). -/
def TWN_RX_CRC : Nat := 0x10330088
/-- TWN_MIRROR (spec/13_twin_operation_and_jexper). -/
def TWN_MIRROR : Nat := 0x1033008c
/-- TWN_SWEEP (spec/13_twin_operation_and_jexper). -/
def TWN_SWEEP : Nat := 0x10330090
/-- DDR_STAT (spec/19_processors_and_memory). -/
def DDR_STAT : Nat := 0x10340000
/-- DDR_SCRUB (spec/19_processors_and_memory). -/
def DDR_SCRUB : Nat := 0x10340004
/-- XSP_CFG (spec/19_processors_and_memory). -/
def XSP_CFG : Nat := 0x10350000
/-- XSP_ADDR (spec/19_processors_and_memory). -/
def XSP_ADDR : Nat := 0x10350004
/-- XSP_CMD (spec/19_processors_and_memory). -/
def XSP_CMD : Nat := 0x10350008
/-- XSP_DATA<i> (spec/19_processors_and_memory). -/
def XSP_DATA (i : Nat) : Nat := 0x10350100 + 0x4 * i
/-- REC_CTRL (spec/17_keep_domain_and_records). -/
def REC_CTRL : Nat := 0x10360000
/-- REC_STAT (spec/17_keep_domain_and_records). -/
def REC_STAT : Nat := 0x10360004
/-- REC_BASE_LO (spec/17_keep_domain_and_records). -/
def REC_BASE_LO : Nat := 0x10360008
/-- REC_BASE_HI (spec/17_keep_domain_and_records). -/
def REC_BASE_HI : Nat := 0x1036000c
/-- REC_SIZE (spec/17_keep_domain_and_records). -/
def REC_SIZE : Nat := 0x10360010
/-- REC_PRE (spec/17_keep_domain_and_records). -/
def REC_PRE : Nat := 0x10360014
/-- REC_POST (spec/17_keep_domain_and_records). -/
def REC_POST : Nat := 0x10360018
/-- REC_LAYOUT (spec/17_keep_domain_and_records). -/
def REC_LAYOUT : Nat := 0x1036001c
/-- REC_CAP_ADDR_LO (spec/17_keep_domain_and_records). -/
def REC_CAP_ADDR_LO : Nat := 0x10360020
/-- REC_CAP_ADDR_HI (spec/17_keep_domain_and_records). -/
def REC_CAP_ADDR_HI : Nat := 0x10360024
/-- REC_CAP_FRM (spec/17_keep_domain_and_records). -/
def REC_CAP_FRM : Nat := 0x10360028
/-- REC_CAP_INFO (spec/17_keep_domain_and_records). -/
def REC_CAP_INFO : Nat := 0x1036002c
/-- REC_CAP_PRE (spec/17_keep_domain_and_records). -/
def REC_CAP_PRE : Nat := 0x10360030
/-- REC_DROP_CNT (spec/17_keep_domain_and_records). -/
def REC_DROP_CNT : Nat := 0x10360034

end Reg

/-- The registers at 0x3000000 and up (TMR). -/
def regTable300_0 : List RegSpec := [
  ⟨0x3000000, 2, 4, 1, 0, 0x0, 0x1, 0x0, 0x0, 0x0, 0x0⟩,
  ⟨0x3000100, 2, 8, 1, 0, 0xFFFFFFFF, 0xFFFFFFFF, 0x0, 0x0, 0x0, 0x0⟩,
  ⟨0x3000104, 2, 8, 1, 0, 0xFFFFFFFF, 0xFFFFFFFF, 0x0, 0x0, 0x0, 0x0⟩,
  ⟨0x3000200, 1, 0, 1, 0, 0x0, 0x0, 0x0, 0x0, 0x0, 0x0⟩,
  ⟨0x3000204, 1, 0, 1, 0, 0x0, 0x0, 0x0, 0x0, 0x0, 0x0⟩]

/-- The registers at 0x10000000 and up (MEM, SYS). -/
def regTable1000_0 : List RegSpec := [
  ⟨0x10000000, 1, 0, 1, 0, 0x960000A1, 0x0, 0x0, 0x0, 0x0, 0x0⟩,
  ⟨0x10000004, 1, 0, 1, 0, 0x0, 0x0, 0x0, 0x0, 0x0, 0x0⟩,
  ⟨0x10000008, 1, 0, 1, 0, 0x0, 0x0, 0x0, 0x0, 0x0, 0x0⟩,
  ⟨0x1000000C, 1, 0, 1, 0, 0x0, 0x0, 0x0, 0x0, 0x0, 0x0⟩,
  ⟨0x10000010, 1, 0, 1, 0, 0x0, 0x0, 0x0, 0x0, 0x0, 0x0⟩,
  ⟨0x10000100, 1, 0, 1, 0, 0x0, 0x0, 0x0, 0x3, 0x0, 0x0⟩,
  ⟨0x10000104, 1, 0, 1, 0, 0x0, 0xFFFFFFFF, 0x0, 0x0, 0x0, 0x0⟩,
  ⟨0x10000108, 1, 0, 1, 0, 0x0, 0xFFFFFFFF, 0x0, 0x0, 0x0, 0x0⟩,
  ⟨0x1000010C, 1, 0, 1, 0, 0x1, 0x0, 0x6, 0x0, 0x0, 0x0⟩,
  ⟨0x10000110, 2, 4, 1, 0, 0x3E8, 0xFFFF, 0x0, 0x40000000, 0x0, 0x80000000⟩,
  ⟨0x10000120, 1, 0, 1, 0, 0x0, 0x0, 0x0, 0x0, 0x0, 0x0⟩,
  ⟨0x10000124, 1, 0, 1, 0, 0x0, 0x0, 0x0, 0x0, 0x0, 0x0⟩,
  ⟨0x10000128, 1, 0, 1, 0, 0x0, 0x0, 0x0, 0x0, 0x0, 0x0⟩]

/-- The registers at 0x10010000 and up (CLK). -/
def regTable1001_0 : List RegSpec := [
  ⟨0x10010000, 1, 0, 1, 0, 0x0, 0x0, 0xD, 0x0, 0x0, 0x0⟩,
  ⟨0x10010004, 1, 0, 1, 0, 0x0, 0x0, 0x0, 0x1, 0x0, 0x0⟩,
  ⟨0x10010008, 1, 0, 1, 0, 0x0, 0x0, 0x0, 0x0, 0x0, 0x0⟩,
  ⟨0x10010020, 5, 4, 1, 0, 0x40000001, 0xC00000FF, 0x0, 0x0, 0x0, 0x0⟩,
  ⟨0x10010040, 1, 0, 1, 0, 0x7FFF, 0x7FFF, 0x0, 0x0, 0x0, 0x0⟩,
  ⟨0x10010044, 1, 0, 1, 0, 0x0, 0x0, 0x80000000, 0x0, 0x0, 0x0⟩,
  ⟨0x10010100, 64, 4, 1, 0, 0x0, 0xFFFFFFFF, 0x0, 0x0, 0x0, 0x0⟩,
  ⟨0x10010200, 1, 0, 1, 0, 0x0, 0x203F001F, 0x0, 0xC0000000, 0x0, 0x0⟩,
  ⟨0x10010204, 1, 0, 1, 0, 0x0, 0x0, 0x60000000, 0x0, 0x0, 0x0⟩,
  ⟨0x10010210, 16, 8, 1, 0, 0x0, 0x7FFFFF, 0x0, 0x0, 0x0, 0x0⟩,
  ⟨0x10010214, 16, 8, 1, 0, 0x0, 0xFFFFFFFF, 0x0, 0x0, 0x0, 0x0⟩,
  ⟨0x10010300, 1, 0, 1, 0, 0x0, 0x0, 0x0, 0x0, 0x0, 0x0⟩,
  ⟨0x10010304, 1, 0, 1, 0, 0x0, 0x0, 0x0, 0x0, 0x0, 0x0⟩,
  ⟨0x10010308, 1, 0, 1, 0, 0x0, 0x0, 0x0, 0x0, 0x0, 0x0⟩]

/-- The registers at 0x10020000 and up (ANV). -/
def regTable1002_0 : List RegSpec := [
  ⟨0x10020000, 1, 0, 1, 0, 0x0, 0x1, 0x0, 0x2, 0x0, 0x0⟩,
  ⟨0x10020004, 1, 0, 1, 0, 0x0, 0x0, 0x0, 0x0, 0x0, 0x0⟩,
  ⟨0x10020008, 1, 0, 1, 0, 0x0, 0x0, 0x0, 0x0, 0x0, 0x0⟩,
  ⟨0x1002000C, 1, 0, 1, 0, 0x0, 0x0, 0x0, 0x0, 0x0, 0x0⟩,
  ⟨0x10020010, 1, 0, 1, 0, 0x0, 0x0, 0x0, 0x0, 0x0, 0x0⟩,
  ⟨0x10020014, 1, 0, 1, 0, 0x0, 0x0, 0x0, 0x0, 0x0, 0x0⟩,
  ⟨0x10021000, 256, 16, 1, 0, 0x1, 0x0, 0x0, 0x0, 0x1, 0x0⟩,
  ⟨0x10021004, 256, 16, 1, 0, 0x0, 0x0, 0x0, 0x0, 0xFFFFFFFF, 0x0⟩,
  ⟨0x10021008, 256, 16, 1, 0, 0x0, 0x0, 0x0, 0x0, 0xFFFFFFFF, 0x0⟩,
  ⟨0x1002100C, 256, 16, 1, 0, 0xC0, 0x0, 0x0, 0x0, 0x3FF, 0x0⟩]

/-- The registers at 0x10030000 and up (LOG). -/
def regTable1003_0 : List RegSpec := [
  ⟨0x10030000, 1, 0, 1, 0, 0x80, 0x0, 0xFF, 0x0, 0x0, 0x0⟩,
  ⟨0x10030004, 1, 0, 1, 0, 0x0, 0x1, 0x0, 0x2, 0x0, 0x0⟩,
  ⟨0x10030008, 1, 0, 1, 0, 0xA, 0x8000FFFF, 0x0, 0x0, 0x0, 0x0⟩,
  ⟨0x1003000C, 1, 0, 1, 0, 0xA200BB8, 0xFFF0FFFF, 0x0, 0x0, 0x0, 0x0⟩,
  ⟨0x10030010, 1, 0, 1, 0, 0x89809C4, 0xFFFFFFFF, 0x0, 0x0, 0x0, 0x0⟩,
  ⟨0x10030014, 1, 0, 1, 0, 0x0, 0x0, 0x0, 0x0, 0x0, 0x0⟩,
  ⟨0x10030018, 1, 0, 1, 0, 0x0, 0x0, 0x0, 0x0, 0x0, 0x0⟩,
  ⟨0x1003001C, 1, 0, 1, 0, 0x0, 0x0, 0x0, 0x0, 0x0, 0x0⟩,
  ⟨0x10030020, 1, 0, 1, 0, 0x0, 0x0, 0x0, 0x0, 0x0, 0x0⟩,
  ⟨0x10030024, 1, 0, 1, 0, 0x0, 0x0, 0x0, 0x0, 0x0, 0x0⟩,
  ⟨0x10030028, 1, 0, 1, 0, 0x0, 0x0, 0x0, 0x0, 0x0, 0x0⟩,
  ⟨0x10030030, 1, 0, 1, 0, 0x0, 0x7FF, 0x0, 0x0, 0x0, 0x0⟩,
  ⟨0x10030034, 1, 0, 1, 0, 0x0, 0xFFFFFFFF, 0x0, 0x0, 0x0, 0x0⟩,
  ⟨0x10030038, 1, 0, 1, 0, 0x0, 0xFFFFFFFF, 0x0, 0x0, 0x0, 0x0⟩,
  ⟨0x10030040, 1, 0, 1, 0, 0x0, 0x0, 0x0, 0x0, 0x0, 0x0⟩,
  ⟨0x10030044, 1, 0, 1, 0, 0x0, 0x0, 0x0, 0x0, 0x0, 0x0⟩,
  ⟨0x10030050, 1, 0, 1, 0, 0x0, 0x1FFF, 0x0, 0x0, 0x0, 0x0⟩,
  ⟨0x10030060, 8, 4, 1, 0, 0x0, 0x0, 0x0, 0x0, 0x0, 0x0⟩,
  ⟨0x10030080, 1, 0, 1, 0, 0x0, 0xFFFF, 0x0, 0x0, 0x0, 0x0⟩,
  ⟨0x10030084, 4, 4, 1, 0, 0x0, 0xFFFFFFFF, 0x0, 0x0, 0x0, 0x0⟩,
  ⟨0x10030094, 1, 0, 1, 0, 0x0, 0x0, 0x0, 0x1, 0x0, 0x0⟩]

/-- The registers at 0x10040000 and up (DBG, PWR, SEC). -/
def regTable1004_0 : List RegSpec := [
  ⟨0x10040000, 1, 0, 1, 0, 0x0, 0x0, 0x0, 0x0, 0x0, 0x0⟩,
  ⟨0x10040004, 1, 0, 1, 0, 0x0, 0x0, 0x0, 0xFF000003, 0x0, 0x0⟩,
  ⟨0x10040008, 1, 0, 1, 0, 0x0, 0x0, 0x0, 0x0, 0x0, 0x0⟩,
  ⟨0x1004000C, 1, 0, 1, 0, 0x0, 0x3, 0x0, 0xC0000000, 0x0, 0x0⟩,
  ⟨0x10040010, 1, 0, 1, 0, 0x0, 0x0, 0x0, 0x0, 0x0, 0x0⟩,
  ⟨0x10040014, 1, 0, 1, 0, 0x0, 0x0, 0x0, 0x3, 0x0, 0x0⟩,
  ⟨0x10040018, 1, 0, 1, 0, 0x0, 0x0, 0x0, 0x0, 0x0, 0x0⟩,
  ⟨0x1004001C, 1, 0, 1, 0, 0x0, 0x0, 0x7, 0x0, 0x0, 0x0⟩,
  ⟨0x10040020, 1, 0, 1, 0, 0x0, 0x0, 0x0, 0x7, 0x0, 0x0⟩,
  ⟨0x10040024, 1, 0, 1, 0, 0x1, 0x0, 0x0, 0x0, 0x0, 0x0⟩,
  ⟨0x10040028, 1, 0, 1, 0, 0x0, 0xFFFFFFFF, 0x0, 0x0, 0x0, 0x0⟩,
  ⟨0x1004002C, 1, 0, 1, 0, 0x0, 0xFFFFFFFF, 0x0, 0x0, 0x0, 0x0⟩,
  ⟨0x10040030, 4, 4, 1, 0, 0x0, 0x0, 0x0, 0x0, 0x0, 0x0⟩,
  ⟨0x10040040, 1, 0, 1, 0, 0x0, 0x33, 0x0, 0xE0000000, 0x0, 0x0⟩,
  ⟨0x10040044, 1, 0, 1, 0, 0x0, 0x0, 0x0, 0x0, 0x0, 0x0⟩,
  ⟨0x10040080, 16, 4, 1, 0, 0x0, 0x0, 0x0, 0x0, 0x0, 0x0⟩,
  ⟨0x100400C0, 24, 4, 1, 0, 0x0, 0x0, 0x0, 0xFFFFFFFF, 0x0, 0x0⟩,
  ⟨0x10040100, 24, 4, 1, 0, 0x0, 0x0, 0x0, 0xFFFFFFFF, 0x0, 0x0⟩]

/-- The registers at 0x10050000 and up (TMP). -/
def regTable1005_0 : List RegSpec := [
  ⟨0x10050000, 1, 0, 1, 0, 0x0, 0x0, 0x1E0, 0x0, 0x0, 0x0⟩,
  ⟨0x10050004, 1, 0, 1, 0, 0x0, 0x0, 0x0, 0x1, 0x0, 0x0⟩,
  ⟨0x10050008, 1, 0, 1, 0, 0x7D00A32, 0xFFFFFFFF, 0x0, 0x0, 0x0, 0x0⟩,
  ⟨0x1005000C, 1, 0, 1, 0, 0x640190, 0xFFFFFFFF, 0x0, 0x0, 0x0, 0x0⟩,
  ⟨0x10050010, 1, 0, 1, 0, 0x7F7FFFFF, 0x0, 0x0, 0x0, 0x0, 0x0⟩,
  ⟨0x10050100, 24, 16, 1, 0, 0x47E041A, 0xFFFFFFFF, 0x0, 0x0, 0x0, 0x0⟩,
  ⟨0x10050104, 16, 16, 1, 0, 0x80000014, 0xFFFF, 0x0, 0x0, 0x0, 0x0⟩,
  ⟨0x10050204, 8, 16, 1, 0, 0x14, 0x8000FFFF, 0x0, 0x0, 0x0, 0x0⟩,
  ⟨0x10050108, 24, 16, 1, 0, 0x0, 0x0, 0x0, 0x0, 0x0, 0x0⟩,
  ⟨0x1005010C, 24, 16, 1, 0, 0x0, 0x0, 0x0, 0x0, 0x0, 0x0⟩,
  ⟨0x10050300, 8, 32, 1, 0, 0x0, 0x3F, 0x0, 0x0, 0x0, 0x0⟩,
  ⟨0x10050304, 8, 32, 1, 0, 0x0, 0x3FFF3FFF, 0x0, 0x0, 0x0, 0x0⟩,
  ⟨0x10050308, 8, 32, 4, 4, 0x0, 0x3FFFFFFF, 0x0, 0x0, 0x0, 0x0⟩]

/-- The registers at 0x10100000 and up (COL, HRT). -/
def regTable1010_0 : List RegSpec := [
  ⟨0x10100000, 1, 0, 1, 0, 0x0, 0x0, 0x3F, 0x0, 0x0, 0x0⟩,
  ⟨0x10100004, 1, 0, 1, 0, 0x0, 0x0, 0x0, 0x0, 0x0, 0x0⟩,
  ⟨0x10100008, 1, 0, 1, 0, 0x0, 0x0, 0x0, 0x0, 0x0, 0x0⟩,
  ⟨0x1010000C, 1, 0, 1, 0, 0x0, 0x0, 0x0, 0x0, 0x0, 0x0⟩,
  ⟨0x10100010, 1, 0, 1, 0, 0x0, 0xFFFFFFFF, 0x0, 0x0, 0x0, 0x0⟩,
  ⟨0x10100014, 1, 0, 1, 0, 0x0, 0x0, 0x0, 0x3, 0x0, 0x0⟩,
  ⟨0x10100018, 1, 0, 1, 0, 0x0, 0x0, 0x0, 0x0, 0x0, 0x0⟩,
  ⟨0x10100020, 1, 0, 1, 0, 0x0, 0x0, 0x0, 0x80000000, 0x0, 0x0⟩,
  ⟨0x10100024, 1, 0, 1, 0, 0x0, 0x0, 0x0, 0x0, 0x0, 0x0⟩,
  ⟨0x10100028, 1, 0, 1, 0, 0x3F, 0x0, 0x0, 0x0, 0x0, 0x0⟩,
  ⟨0x10101000, 64, 16, 1, 0, 0x0, 0x0, 0x0, 0x0, 0x0, 0x0⟩,
  ⟨0x10101004, 64, 16, 1, 0, 0x0, 0x0, 0x0, 0x0, 0x0, 0x0⟩,
  ⟨0x10101008, 64, 16, 1, 0, 0x0, 0x0, 0x0, 0x0, 0x0, 0x0⟩]

/-- The registers at 0x10120000 and up (PLC). -/
def regTable1012_0 : List RegSpec := [
  ⟨0x10120000, 1, 0, 1, 0, 0xE, 0xF, 0x0, 0x0, 0x0, 0x0⟩,
  ⟨0x10120004, 1, 0, 1, 0, 0x40400000, 0x0, 0x7C, 0x0, 0x0, 0x0⟩,
  ⟨0x10120008, 1, 0, 1, 0, 0x306, 0xFFF, 0x0, 0x0, 0x0, 0x0⟩,
  ⟨0x1012000C, 1, 0, 1, 0, 0x3E8, 0xFFFF, 0x0, 0x0, 0x0, 0x0⟩,
  ⟨0x10120010, 1, 0, 1, 0, 0x384, 0x1FFFF, 0x0, 0x0, 0x0, 0x0⟩,
  ⟨0x10120014, 1, 0, 1, 0, 0x0, 0x0, 0x0, 0x13F, 0x0, 0x0⟩,
  ⟨0x10120018, 1, 0, 1, 0, 0x0, 0x0, 0x0, 0x0, 0x0, 0x0⟩,
  ⟨0x1012001C, 1, 0, 1, 0, 0xFD2, 0x0, 0x0, 0x0, 0x0, 0x0⟩,
  ⟨0x10120020, 2, 4, 1, 0, 0x0, 0x0, 0x0, 0x0, 0x0, 0x0⟩,
  ⟨0x10120028, 1, 0, 1, 0, 0x0, 0x0, 0x0, 0x0, 0x0, 0x0⟩,
  ⟨0x1012002C, 1, 0, 1, 0, 0x0, 0x0, 0x0, 0x0, 0x0, 0x0⟩,
  ⟨0x10120030, 1, 0, 1, 0, 0x0, 0x0, 0x0, 0x0, 0x0, 0x0⟩,
  ⟨0x10120034, 1, 0, 1, 0, 0x0, 0x0, 0x0, 0x0, 0x0, 0x0⟩,
  ⟨0x10121000, 64, 4, 1, 0, 0xFFFF, 0x0, 0x0, 0x0, 0x0, 0x0⟩]

/-- The registers at 0x10130000 and up (LP). -/
def regTable1013_0 : List RegSpec := [
  ⟨0x10130000, 1, 0, 1, 0, 0x0, 0x80FFFFFF, 0x0, 0x0, 0x0, 0x0⟩,
  ⟨0x10130004, 1, 0, 1, 0, 0x0, 0xFFFFFFFF, 0x0, 0x0, 0x0, 0x0⟩,
  ⟨0x10130008, 1, 0, 1, 0, 0x0, 0x0, 0x7, 0x0, 0x0, 0x0⟩,
  ⟨0x1013000C, 1, 0, 1, 0, 0x0, 0x0, 0x0, 0xFFFF, 0x0, 0x0⟩,
  ⟨0x10130010, 1, 0, 1, 0, 0x0, 0x0, 0x0, 0x0, 0x0, 0x0⟩,
  ⟨0x10130014, 1, 0, 1, 0, 0x0, 0x0, 0x0, 0x0, 0x0, 0x0⟩,
  ⟨0x10130018, 1, 0, 1, 0, 0x0, 0x0, 0x0, 0x0, 0x0, 0x0⟩,
  ⟨0x1013001C, 1, 0, 1, 0, 0x0, 0x0, 0x0, 0x0, 0x0, 0x0⟩,
  ⟨0x10130020, 1, 0, 1, 0, 0x0, 0x0, 0x0, 0x0, 0x0, 0x0⟩,
  ⟨0x10130024, 1, 0, 1, 0, 0x0, 0x0, 0x0, 0x0, 0x0, 0x0⟩]

/-- The registers at 0x101F0000 and up (IMG). -/
def regTable101F_0 : List RegSpec := [
  ⟨0x101F0000, 1, 0, 1, 0, 0x0, 0x4, 0x0, 0xB, 0x0, 0x0⟩,
  ⟨0x101F0004, 1, 0, 1, 0, 0x0, 0x0, 0x180, 0x0, 0x0, 0x0⟩,
  ⟨0x101F0008, 1, 0, 1, 0, 0x0, 0x0, 0x0, 0x0, 0x0, 0x0⟩,
  ⟨0x101F000C, 1, 0, 1, 0, 0x0, 0x0, 0x0, 0x0, 0x0, 0x0⟩,
  ⟨0x101F0010, 1, 0, 1, 0, 0x0, 0x0, 0x0, 0x0, 0x0, 0x0⟩,
  ⟨0x101F0014, 1, 0, 1, 0, 0x0, 0x0, 0x0, 0x0, 0x0, 0x0⟩,
  ⟨0x101F0020, 12, 4, 1, 0, 0x0, 0x0, 0x0, 0x0, 0x0, 0x0⟩]

/-- The registers at 0x10200000 and up (PWM). -/
def regTable1020_0 : List RegSpec := [
  ⟨0x10200000, 1, 0, 1, 0, 0x0, 0x0, 0x3F, 0x0, 0x0, 0x0⟩,
  ⟨0x10200004, 1, 0, 1, 0, 0x0, 0x0, 0x0, 0x0, 0x0, 0x0⟩,
  ⟨0x10200008, 1, 0, 1, 0, 0x0, 0x0, 0x0, 0x0, 0x0, 0x0⟩,
  ⟨0x1020000C, 1, 0, 1, 0, 0x0, 0x0, 0x0, 0x0, 0x0, 0x0⟩,
  ⟨0x10200010, 1, 0, 1, 0, 0x0, 0x0, 0x0, 0x0, 0x0, 0x0⟩,
  ⟨0x10200020, 3, 4, 1, 0, 0x0, 0x0, 0x0, 0x0, 0x0, 0x0⟩,
  ⟨0x10201000, 96, 64, 1, 0, 0x0, 0xFC000000, 0x0, 0x0, 0x0, 0x0⟩,
  ⟨0x10201004, 96, 64, 1, 0, 0x61A80, 0xFFFFFFF, 0x0, 0x0, 0x0, 0x0⟩,
  ⟨0x10201008, 96, 64, 1, 0, 0x0, 0xFFFFFFFF, 0x0, 0x0, 0x0, 0x0⟩,
  ⟨0x1020100C, 96, 64, 1, 0, 0x0, 0xFFFFFFFF, 0x0, 0x0, 0x0, 0x0⟩,
  ⟨0x10201010, 96, 64, 1, 0, 0x0, 0x0, 0x0, 0x7, 0x0, 0x0⟩,
  ⟨0x10201014, 96, 64, 1, 0, 0x0, 0x0, 0x0, 0xFFFFFFFF, 0x0, 0x0⟩,
  ⟨0x10201018, 96, 64, 1, 0, 0x3E8, 0x3FFF3FFF, 0x0, 0x0, 0x0, 0x0⟩,
  ⟨0x1020101C, 96, 64, 1, 0, 0x0, 0x3, 0x0, 0x0, 0x0, 0x0⟩,
  ⟨0x10201020, 96, 64, 1, 0, 0x0, 0xFFFFFFFF, 0x0, 0x0, 0x0, 0x0⟩,
  ⟨0x10201024, 96, 64, 1, 0, 0x640020, 0xFFFF00FF, 0x0, 0x0, 0x0, 0x0⟩,
  ⟨0x10201028, 96, 64, 1, 0, 0x0, 0x0, 0x0, 0x0, 0x0, 0x0⟩,
  ⟨0x1020102C, 96, 64, 1, 0, 0x0, 0x0, 0x0, 0x0, 0x0, 0x0⟩,
  ⟨0x10201030, 96, 64, 1, 0, 0x61A80, 0x0, 0x0, 0x0, 0x0, 0x0⟩,
  ⟨0x10201034, 96, 64, 1, 0, 0x0, 0x0, 0x0, 0x0, 0x0, 0x0⟩,
  ⟨0x10201038, 96, 64, 1, 0, 0x0, 0x0, 0x0, 0x0, 0x0, 0x0⟩]

/-- The registers at 0x10210000 and up (GDP). -/
def regTable1021_0 : List RegSpec := [
  ⟨0x10210000, 1, 0, 1, 0, 0x0, 0x0, 0x1F, 0x0, 0x0, 0x0⟩,
  ⟨0x10210004, 1, 0, 1, 0, 0x0, 0x0, 0xFFFF, 0x0, 0x0, 0x0⟩,
  ⟨0x10210008, 1, 0, 1, 0, 0x0, 0x0, 0x0, 0x0, 0x0, 0x0⟩,
  ⟨0x10210040, 16, 4, 1, 0, 0x0, 0x3F, 0x0, 0x0, 0x0, 0x0⟩,
  ⟨0x10210100, 6, 32, 1, 0, 0x0, 0x0, 0x0, 0x0, 0x0, 0x0⟩,
  ⟨0x10210104, 6, 32, 1, 0, 0x0, 0x0, 0x0, 0x3, 0x0, 0x0⟩,
  ⟨0x10210108, 6, 32, 1, 0, 0x4001, 0x0, 0x0, 0x0, 0x0, 0x0⟩,
  ⟨0x1021010C, 6, 32, 1, 0, 0x0, 0x0, 0x0, 0x0, 0x0, 0x0⟩,
  ⟨0x10210110, 6, 32, 3, 4, 0x0, 0x0, 0x0, 0x0, 0x0, 0x0⟩,
  ⟨0x1021011C, 6, 32, 1, 0, 0x0, 0x0, 0x0, 0x0, 0x0, 0x0⟩,
  ⟨0x10211000, 96, 16, 1, 0, 0xC06407D0, 0xC0FF3FFF, 0x0, 0x0, 0x0, 0x0⟩,
  ⟨0x10211004, 96, 16, 1, 0, 0x0, 0x0, 0x1, 0x0, 0x0, 0x0⟩,
  ⟨0x10211008, 96, 16, 1, 0, 0x0, 0x0, 0x0, 0x1, 0x0, 0x0⟩,
  ⟨0x1021100C, 96, 16, 1, 0, 0x0, 0x0, 0x0, 0x0, 0x0, 0x0⟩,
  ⟨0x10212000, 1, 0, 1, 0, 0x0, 0x1F, 0x0, 0xC0000000, 0x0, 0x0⟩,
  ⟨0x10212004, 1, 0, 1, 0, 0x0, 0x0, 0x70000000, 0x0, 0x0, 0x0⟩,
  ⟨0x10212008, 1, 0, 1, 0, 0xA0014, 0x3FFFFFFF, 0x0, 0x0, 0x0, 0x0⟩,
  ⟨0x1021200C, 1, 0, 1, 0, 0x3F800000, 0xFFFFFFFF, 0x0, 0x0, 0x0, 0x0⟩,
  ⟨0x10212010, 1, 0, 1, 0, 0x42480000, 0xFFFFFFFF, 0x0, 0x0, 0x0, 0x0⟩,
  ⟨0x10212014, 1, 0, 1, 0, 0x42480000, 0xFFFFFFFF, 0x0, 0x0, 0x0, 0x0⟩,
  ⟨0x10212100, 24, 4, 1, 0, 0x0, 0x7330FF3F, 0x0, 0x0, 0x0, 0x0⟩,
  ⟨0x10212180, 24, 4, 1, 0, 0x0, 0x0, 0x0, 0x0, 0x0, 0x0⟩,
  ⟨0x10212200, 24, 4, 1, 0, 0x0, 0x0, 0x0, 0x0, 0x0, 0x0⟩,
  ⟨0x10213000, 1, 0, 1, 0, 0x0, 0x100007F, 0x0, 0x80000000, 0x0, 0x0⟩,
  ⟨0x10213004, 1, 0, 1, 0, 0x0, 0x0, 0x0, 0x0, 0x0, 0x0⟩]

/-- The registers at 0x10220000 and up (SDM). -/
def regTable1022_0 : List RegSpec := [
  ⟨0x10220000, 1, 0, 1, 0, 0x0, 0x0, 0xF, 0x0, 0x0, 0x0⟩,
  ⟨0x10220004, 3, 4, 1, 0, 0x0, 0x0, 0xFFFFFFFF, 0x0, 0x0, 0x0⟩,
  ⟨0x10220010, 1, 0, 1, 0, 0x8000, 0x8000, 0x0, 0x0, 0x0, 0x0⟩,
  ⟨0x10220100, 8, 4, 1, 0, 0x400019, 0x80FF007F, 0x0, 0x0, 0x0, 0x0⟩,
  ⟨0x10221000, 96, 32, 1, 0, 0x810, 0xFFF87FFF, 0x0, 0x0, 0x0, 0x0⟩,
  ⟨0x10221004, 96, 32, 1, 0, 0x3F800000, 0xFFFFFFFF, 0x0, 0x0, 0x0, 0x0⟩,
  ⟨0x10221008, 96, 32, 1, 0, 0x0, 0xFFFFFFFF, 0x0, 0x0, 0x0, 0x0⟩,
  ⟨0x1022100C, 96, 32, 1, 0, 0x0, 0xFFFFFFFF, 0x0, 0x0, 0x0, 0x0⟩,
  ⟨0x10221010, 96, 32, 1, 0, 0x0, 0x0, 0x0, 0x0, 0x0, 0x0⟩]

/-- The registers at 0x10230000 and up (ADC). -/
def regTable1023_0 : List RegSpec := [
  ⟨0x10230000, 1, 0, 1, 0, 0x1, 0x0, 0x7E, 0x0, 0x0, 0x0⟩,
  ⟨0x10230100, 5, 32, 1, 0, 0x400000C8, 0xFC3FFFFF, 0x0, 0x0, 0x0, 0x0⟩,
  ⟨0x10230104, 4, 32, 1, 0, 0x40000, 0x0, 0x0, 0x0, 0x0, 0x0⟩,
  ⟨0x10230184, 1, 0, 1, 0, 0x70000, 0x0, 0x0, 0x0, 0x0, 0x0⟩,
  ⟨0x10230108, 5, 32, 1, 0, 0x0, 0xF, 0x0, 0x80000000, 0x0, 0x0⟩,
  ⟨0x10231000, 5, 256, 64, 4, 0x0, 0x8FFFFFFF, 0x0, 0x0, 0x0, 0x0⟩,
  ⟨0x10232000, 56, 16, 1, 0, 0x3F800000, 0xFFFFFFFF, 0x0, 0x0, 0x0, 0x0⟩,
  ⟨0x10232004, 56, 16, 1, 0, 0x0, 0xFFFFFFFF, 0x0, 0x0, 0x0, 0x0⟩,
  ⟨0x10232008, 56, 16, 1, 0, 0x0, 0x0, 0x0, 0x0, 0x0, 0x0⟩,
  ⟨0x10233000, 1, 0, 1, 0, 0x0, 0x0, 0x0, 0x80000000, 0x0, 0x0⟩,
  ⟨0x10233004, 2, 4, 1, 0, 0x80000000, 0x0, 0x0, 0x0, 0x0, 0x0⟩]

/-- The registers at 0x10240000 and up (CMP). -/
def regTable1024_0 : List RegSpec := [
  ⟨0x10240000, 48, 16, 1, 0, 0x302, 0xE0000F0F, 0x0, 0x0, 0x0, 0x0⟩,
  ⟨0x10240004, 48, 16, 1, 0, 0x1FFF1FFF, 0x3FFF3FFF, 0x0, 0x0, 0x0, 0x0⟩,
  ⟨0x10241000, 2, 4, 1, 0, 0x0, 0x0, 0x0, 0x0, 0x0, 0x0⟩,
  ⟨0x10241008, 2, 4, 1, 0, 0x0, 0x0, 0xFFFFFFFF, 0x0, 0x0, 0x0⟩,
  ⟨0x10241010, 1, 0, 1, 0, 0x0, 0x0, 0x1, 0x0, 0x0, 0x0⟩]

/-- The registers at 0x10250000 and up (ENC, ENCK). -/
def regTable1025_0 : List RegSpec := [
  ⟨0x10250000, 1, 0, 1, 0, 0x0, 0x0, 0x1, 0x0, 0x0, 0x0⟩,
  ⟨0x10250004, 1, 0, 1, 0, 0x0, 0xC0000000, 0x0, 0x0, 0x0, 0x0⟩,
  ⟨0x10250008, 1, 0, 1, 0, 0x10001, 0xFFFFFFFF, 0x0, 0x0, 0x0, 0x0⟩,
  ⟨0x10250100, 2, 128, 1, 0, 0x4140000, 0xFFFE0000, 0x0, 0x0, 0x0, 0x0⟩,
  ⟨0x10250104, 2, 128, 1, 0, 0x8000, 0xFFFFFFFF, 0x0, 0x0, 0x0, 0x0⟩,
  ⟨0x10250108, 2, 128, 1, 0, 0x640000, 0xFFFFFFFF, 0x0, 0x0, 0x0, 0x0⟩,
  ⟨0x1025010C, 2, 128, 1, 0, 0x43480000, 0xFFFFFFFF, 0x0, 0x0, 0x0, 0x0⟩,
  ⟨0x10250110, 2, 128, 1, 0, 0x1401800C, 0xFFFFFFFC, 0x0, 0x0, 0x0, 0x0⟩,
  ⟨0x10250114, 2, 128, 1, 0, 0x7D00FA0, 0xFFFFFFFF, 0x0, 0x0, 0x0, 0x0⟩,
  ⟨0x10250118, 2, 128, 1, 0, 0x0, 0x0, 0xF8, 0x0, 0x0, 0x0⟩,
  ⟨0x1025011C, 2, 128, 1, 0, 0x0, 0x0, 0x0, 0x0, 0x0, 0x0⟩,
  ⟨0x10250120, 2, 128, 1, 0, 0x0, 0x0, 0x0, 0x0, 0x0, 0x0⟩,
  ⟨0x10250124, 2, 128, 1, 0, 0x0, 0x0, 0x0, 0x0, 0x0, 0x0⟩,
  ⟨0x10250128, 2, 128, 1, 0, 0x0, 0x0, 0x0, 0xFFFFFFFF, 0x0, 0x0⟩,
  ⟨0x1025012C, 2, 128, 1, 0, 0x0, 0x0, 0x0, 0x0, 0x0, 0x0⟩,
  ⟨0x10250130, 2, 128, 1, 0, 0x0, 0x0, 0x0, 0x0, 0x0, 0x0⟩,
  ⟨0x10250134, 2, 128, 1, 0, 0x0, 0x0, 0x0, 0x0, 0x0, 0x0⟩,
  ⟨0x10250138, 2, 128, 1, 0, 0x0, 0x0, 0x0, 0x0, 0x0, 0x0⟩,
  ⟨0x1025013C, 2, 128, 1, 0, 0x0, 0x0, 0x0, 0x0, 0x0, 0x0⟩,
  ⟨0x10250140, 2, 128, 1, 0, 0x0, 0x0, 0x0, 0x0, 0x0, 0x0⟩]

/-- The registers at 0x10260000 and up (MTR). -/
def regTable1026_0 : List RegSpec := [
  ⟨0x10260000, 1, 0, 1, 0, 0x0, 0x0, 0x1F, 0x0, 0x0, 0x0⟩,
  ⟨0x10260004, 1, 0, 1, 0, 0x0, 0x0, 0x0, 0xF, 0x0, 0x0⟩,
  ⟨0x10260100, 4, 256, 1, 0, 0x88, 0x830001FF, 0x0, 0x0, 0x0, 0x0⟩,
  ⟨0x10260104, 4, 256, 9, 4, 0x0, 0xFFFFFFFF, 0x0, 0x0, 0x0, 0x0⟩,
  ⟨0x10260128, 4, 256, 1, 0, 0x320005, 0xFF00FF, 0x0, 0x0, 0x0, 0x0⟩,
  ⟨0x1026012C, 4, 256, 1, 0, 0x41200000, 0xFFFFFFFF, 0x0, 0x0, 0x0, 0x0⟩,
  ⟨0x10260130, 4, 256, 1, 0, 0x0, 0xFFFFFFFF, 0x0, 0x0, 0x0, 0x0⟩,
  ⟨0x10260134, 4, 256, 1, 0, 0x0, 0xFFFFFFFF, 0x0, 0x0, 0x0, 0x0⟩,
  ⟨0x10260140, 4, 256, 6, 8, 0x3F800000, 0xFFFFFFFF, 0x0, 0x0, 0x0, 0x0⟩,
  ⟨0x10260144, 4, 256, 6, 8, 0x0, 0x7FFF, 0x0, 0x0, 0x0, 0x0⟩,
  ⟨0x10260170, 4, 256, 1, 0, 0x0, 0x0, 0x0, 0x0, 0x0, 0x0⟩,
  ⟨0x10260174, 4, 256, 1, 0, 0x0, 0x0, 0x0, 0x0, 0x0, 0x0⟩,
  ⟨0x10260178, 4, 256, 1, 0, 0x0, 0x0, 0x0, 0x0, 0x0, 0x0⟩,
  ⟨0x1026017C, 4, 256, 1, 0, 0x0, 0x0, 0x0, 0x0, 0x0, 0x0⟩,
  ⟨0x10260180, 4, 256, 1, 0, 0x0, 0x0, 0x0, 0x0, 0x0, 0x0⟩,
  ⟨0x10260184, 4, 256, 1, 0, 0x0, 0x0, 0x0, 0x0, 0x0, 0x0⟩,
  ⟨0x10260188, 4, 256, 1, 0, 0x0, 0x0, 0x0, 0x0, 0x0, 0x0⟩,
  ⟨0x1026018C, 4, 256, 1, 0, 0x0, 0x0, 0x0, 0x0, 0x0, 0x0⟩,
  ⟨0x10260190, 4, 256, 1, 0, 0x0, 0x0, 0x0, 0x0, 0x0, 0x0⟩,
  ⟨0x10260194, 4, 256, 1, 0, 0x0, 0x0, 0x0, 0x0, 0x0, 0x0⟩,
  ⟨0x102601A0, 4, 256, 1, 0, 0x0, 0x0, 0x0, 0x0, 0x0, 0x0⟩,
  ⟨0x102601A4, 4, 256, 1, 0, 0x0, 0x0, 0x0, 0x0, 0x0, 0x0⟩,
  ⟨0x102601A8, 4, 256, 1, 0, 0x0, 0x0, 0x0, 0x0, 0x0, 0x0⟩,
  ⟨0x102601AC, 4, 256, 1, 0, 0x0, 0x0, 0x0, 0x0, 0x0, 0x0⟩,
  ⟨0x102601B0, 4, 256, 1, 0, 0x0, 0x0, 0x0, 0x0, 0x0, 0x0⟩,
  ⟨0x102601B4, 4, 256, 1, 0, 0x0, 0x0, 0x0, 0x0, 0x0, 0x0⟩,
  ⟨0x102601B8, 4, 256, 1, 0, 0x0, 0x0, 0x0, 0x0, 0x0, 0x0⟩,
  ⟨0x102601C0, 4, 256, 1, 0, 0x0, 0xFFFFFFFF, 0x0, 0x0, 0x0, 0x0⟩,
  ⟨0x102601C4, 4, 256, 1, 0, 0x0, 0xFFFFFFFF, 0x0, 0x0, 0x0, 0x0⟩,
  ⟨0x102601C8, 4, 256, 1, 0, 0x0, 0x0, 0x0, 0x3, 0x0, 0x0⟩]

/-- The registers at 0x10270000 and up (SAF). -/
def regTable1027_0 : List RegSpec := [
  ⟨0x10270000, 1, 0, 1, 0, 0xFF000000, 0x0, 0x0, 0x0, 0x0, 0x0⟩,
  ⟨0x10270004, 1, 0, 1, 0, 0x0, 0x0, 0x0, 0x0, 0x0, 0x0⟩,
  ⟨0x10270008, 1, 0, 1, 0, 0x0, 0x0, 0x0, 0x0, 0x0, 0x0⟩,
  ⟨0x1027000C, 1, 0, 1, 0, 0x0, 0x0, 0x0, 0xF, 0x0, 0x0⟩,
  ⟨0x10270010, 1, 0, 1, 0, 0x0, 0x3F, 0x0, 0x0, 0x0, 0x0⟩,
  ⟨0x10270020, 8, 4, 1, 0, 0x0, 0x0, 0x0, 0xFFFFFFFF, 0x0, 0x0⟩,
  ⟨0x10270040, 1, 0, 1, 0, 0x0, 0xFFFF, 0x0, 0x0, 0x0, 0x0⟩,
  ⟨0x10270044, 1, 0, 1, 0, 0x0, 0xFFFFFFFF, 0x0, 0x0, 0x0, 0x0⟩,
  ⟨0x10270048, 1, 0, 1, 0, 0x0, 0xFFFFFFFF, 0x0, 0x0, 0x0, 0x0⟩,
  ⟨0x1027004C, 1, 0, 1, 0, 0x0, 0x0, 0x0, 0x1, 0x0, 0x0⟩,
  ⟨0x10270050, 1, 0, 1, 0, 0x0, 0x0, 0x0, 0x0, 0x0, 0x0⟩,
  ⟨0x10270054, 1, 0, 1, 0, 0x0, 0x0, 0x0, 0x0, 0x0, 0x0⟩,
  ⟨0x10270058, 1, 0, 1, 0, 0x0, 0x0, 0x0, 0x0, 0x0, 0x0⟩,
  ⟨0x1027005C, 1, 0, 1, 0, 0x0, 0x0, 0x0, 0x0, 0x0, 0x0⟩]

/-- The registers at 0x10300000 and up (LNK). -/
def regTable1030_0 : List RegSpec := [
  ⟨0x10300100, 2, 32, 1, 0, 0xC0080000, 0xF40F0000, 0x0, 0x0, 0x0, 0x0⟩,
  ⟨0x10300140, 2, 32, 1, 0, 0xC0080000, 0xF00F0000, 0x0, 0x0, 0x0, 0x0⟩,
  ⟨0x10300104, 4, 32, 1, 0, 0x0, 0x0, 0x3, 0x0, 0x0, 0x0⟩,
  ⟨0x10300108, 4, 32, 1, 0, 0x0, 0x0, 0x0, 0x0, 0x0, 0x0⟩,
  ⟨0x1030010C, 4, 32, 1, 0, 0x0, 0x0, 0x0, 0x0, 0x0, 0x0⟩]

/-- The registers at 0x10310000 and up (ETH). -/
def regTable1031_0 : List RegSpec := [
  ⟨0x10310100, 2, 1024, 1, 0, 0x30000000, 0xFC000007, 0x0, 0x0, 0x0, 0x0⟩,
  ⟨0x10310104, 2, 1024, 1, 0, 0x0, 0x0, 0x3F, 0x0, 0x0, 0x0⟩,
  ⟨0x10310108, 2, 1024, 1, 0, 0x0, 0xFFFFFFFF, 0x0, 0x0, 0x0, 0x0⟩,
  ⟨0x1031010C, 2, 1024, 1, 0, 0x0, 0xFFFF, 0x0, 0x0, 0x0, 0x0⟩,
  ⟨0x10310110, 2, 1024, 1, 0, 0x5F2, 0x3FFF, 0x0, 0x0, 0x0, 0x0⟩,
  ⟨0x10310114, 2, 1024, 1, 0, 0x0, 0xFFFFFFFF, 0x0, 0x0, 0x0, 0x0⟩,
  ⟨0x10310120, 2, 1024, 8, 8, 0x0, 0xFFFFFFFF, 0x0, 0x0, 0x0, 0x0⟩,
  ⟨0x10310124, 2, 1024, 8, 8, 0x0, 0x8000FFFF, 0x0, 0x0, 0x0, 0x0⟩,
  ⟨0x10310200, 2, 1024, 2, 32, 0x0, 0xFFFFFFFF, 0x0, 0x0, 0x0, 0x0⟩,
  ⟨0x10310204, 2, 1024, 2, 32, 0x0, 0xFFFFFFFF, 0x0, 0x0, 0x0, 0x0⟩,
  ⟨0x10310208, 2, 1024, 2, 32, 0x0, 0xFFFFFFFF, 0x0, 0x0, 0x0, 0x0⟩,
  ⟨0x1031020C, 2, 1024, 2, 32, 0x0, 0x0, 0x0, 0x0, 0x0, 0x0⟩,
  ⟨0x10310210, 2, 1024, 2, 32, 0x0, 0xFFFFFFFF, 0x0, 0x0, 0x0, 0x0⟩,
  ⟨0x10310214, 2, 1024, 2, 32, 0x0, 0x1, 0x0, 0x0, 0x0, 0x0⟩,
  ⟨0x10310280, 2, 1024, 2, 32, 0x0, 0xFFFFFFFF, 0x0, 0x0, 0x0, 0x0⟩,
  ⟨0x10310284, 2, 1024, 2, 32, 0x0, 0xFFFFFFFF, 0x0, 0x0, 0x0, 0x0⟩,
  ⟨0x10310288, 2, 1024, 2, 32, 0x0, 0xFFFFFFFF, 0x0, 0x0, 0x0, 0x0⟩,
  ⟨0x1031028C, 2, 1024, 2, 32, 0x0, 0x0, 0x0, 0x0, 0x0, 0x0⟩,
  ⟨0x10310290, 2, 1024, 2, 32, 0x0, 0xFFFFFFFF, 0x0, 0x0, 0x0, 0x0⟩,
  ⟨0x10310294, 2, 1024, 2, 32, 0x0, 0x1, 0x0, 0x0, 0x0, 0x0⟩,
  ⟨0x10310300, 2, 1024, 1, 0, 0x0, 0x0, 0x0, 0x0, 0x0, 0x0⟩,
  ⟨0x10310304, 2, 1024, 1, 0, 0x0, 0x0, 0x0, 0x0, 0x0, 0x0⟩,
  ⟨0x10310308, 2, 1024, 1, 0, 0x0, 0x0, 0x0, 0x0, 0x0, 0x0⟩,
  ⟨0x1031030C, 2, 1024, 1, 0, 0x0, 0x0, 0x0, 0x0, 0x0, 0x0⟩]

/-- The registers at 0x10320000 and up (FRM, TIM). -/
def regTable1032_0 : List RegSpec := [
  ⟨0x10320000, 1, 0, 1, 0, 0x0, 0x1, 0x0, 0x6, 0x0, 0x0⟩,
  ⟨0x10320004, 1, 0, 1, 0, 0x0, 0x0, 0x3, 0x0, 0x0, 0x0⟩,
  ⟨0x10320008, 1, 0, 1, 0, 0x0, 0x0, 0x0, 0x0, 0x0, 0x0⟩,
  ⟨0x1032000C, 1, 0, 1, 0, 0x0, 0x0, 0x0, 0x0, 0x0, 0x0⟩,
  ⟨0x10320010, 1, 0, 1, 0, 0x0, 0x0, 0x0, 0x0, 0x0, 0x0⟩,
  ⟨0x10320014, 1, 0, 1, 0, 0x0, 0xFFFFFFFF, 0x0, 0x0, 0x0, 0x0⟩,
  ⟨0x10320018, 1, 0, 1, 0, 0x5, 0xFF, 0x0, 0x0, 0x0, 0x0⟩,
  ⟨0x1032001C, 1, 0, 1, 0, 0x0, 0x0, 0x0, 0x0, 0x0, 0x0⟩,
  ⟨0x10320020, 1, 0, 1, 0, 0x5, 0x0, 0x0, 0x0, 0x0, 0x0⟩,
  ⟨0x10320024, 1, 0, 1, 0, 0x0, 0xFFFFFFFF, 0x0, 0x0, 0x0, 0x0⟩,
  ⟨0x10320028, 1, 0, 1, 0, 0x0, 0xFFFFFFFF, 0x0, 0x0, 0x0, 0x0⟩,
  ⟨0x1032002C, 1, 0, 1, 0, 0xBB80006, 0xFFFF000F, 0x0, 0x0, 0x0, 0x0⟩,
  ⟨0x10320100, 4, 32, 1, 0, 0x0, 0xF0000000, 0xC000000, 0x0, 0x0, 0x0⟩,
  ⟨0x10320104, 4, 32, 1, 0, 0x0, 0xFFFFFFFF, 0x0, 0x0, 0x0, 0x0⟩,
  ⟨0x10320108, 4, 32, 1, 0, 0x0, 0xFFFFFFFF, 0x0, 0x0, 0x0, 0x0⟩,
  ⟨0x1032010C, 4, 32, 1, 0, 0x0, 0xFFFFFFFF, 0x0, 0x0, 0x0, 0x0⟩,
  ⟨0x10320110, 4, 32, 1, 0, 0x0, 0xFFFFFFFF, 0x0, 0x0, 0x0, 0x0⟩,
  ⟨0x10320114, 4, 32, 1, 0, 0x0, 0x0, 0x0, 0x0, 0x0, 0x0⟩,
  ⟨0x10320200, 4, 32, 1, 0, 0x0, 0xE0000000, 0x0, 0x0, 0x0, 0x0⟩,
  ⟨0x10320204, 4, 32, 1, 0, 0x0, 0x0, 0x8, 0x80000000, 0x0, 0x0⟩,
  ⟨0x10320208, 4, 32, 1, 0, 0x0, 0x0, 0x0, 0x0, 0x0, 0x0⟩,
  ⟨0x1032020C, 4, 32, 1, 0, 0x0, 0x0, 0x0, 0x0, 0x0, 0x0⟩,
  ⟨0x10320210, 4, 32, 1, 0, 0x0, 0x0, 0x0, 0x0, 0x0, 0x0⟩,
  ⟨0x10321000, 1, 0, 1, 0, 0x2, 0x2, 0x0, 0x5, 0x0, 0x0⟩,
  ⟨0x10321004, 1, 0, 1, 0, 0x1388, 0x0, 0x0, 0x0, 0x0, 0x0⟩,
  ⟨0x10321008, 1, 0, 1, 0, 0x0, 0x0, 0xE4, 0x0, 0x0, 0x0⟩,
  ⟨0x1032100C, 1, 0, 1, 0, 0x0, 0x0, 0x0, 0x0, 0x0, 0x0⟩,
  ⟨0x10321010, 1, 0, 1, 0, 0x0, 0x0, 0x0, 0x0, 0x0, 0x0⟩,
  ⟨0x10321014, 1, 0, 1, 0, 0x0, 0xFFFFFFFF, 0x0, 0x0, 0x0, 0x0⟩,
  ⟨0x10321018, 1, 0, 1, 0, 0x0, 0xFFFFFFFF, 0x0, 0x0, 0x0, 0x0⟩,
  ⟨0x1032101C, 1, 0, 1, 0, 0x0, 0x0, 0x0, 0x0, 0x0, 0x0⟩,
  ⟨0x10321020, 1, 0, 1, 0, 0x64, 0xFFFF, 0x0, 0x0, 0x0, 0x0⟩,
  ⟨0x10321024, 1, 0, 1, 0, 0x0, 0x0, 0x0, 0x0, 0x0, 0x0⟩,
  ⟨0x10321028, 1, 0, 1, 0, 0x0, 0x0, 0x0, 0x0, 0x0, 0x0⟩]

/-- The registers at 0x10330000 and up (TWN). -/
def regTable1033_0 : List RegSpec := [
  ⟨0x10330000, 1, 0, 1, 0, 0x100800, 0x80FFFF00, 0x0, 0x0, 0x0, 0x0⟩,
  ⟨0x10330004, 1, 0, 1, 0, 0x0, 0x0, 0x0, 0x3, 0x0, 0x0⟩,
  ⟨0x10330008, 1, 0, 1, 0, 0x4000000, 0x0, 0x3EF, 0x0, 0x0, 0x0⟩,
  ⟨0x1033000C, 1, 0, 1, 0, 0x0, 0x0, 0x0, 0x0, 0x0, 0x0⟩,
  ⟨0x10330010, 1, 0, 1, 0, 0x0, 0x0, 0x0, 0x0, 0x0, 0x0⟩,
  ⟨0x10330014, 1, 0, 1, 0, 0x0, 0x0, 0x0, 0x0, 0x0, 0x0⟩,
  ⟨0x10330018, 1, 0, 1, 0, 0x0, 0x0, 0x0, 0x0, 0x0, 0x0⟩,
  ⟨0x10330020, 12, 4, 1, 0, 0x0, 0x0, 0x0, 0x0, 0x0, 0x0⟩,
  ⟨0x10330050, 1, 0, 1, 0, 0x0, 0x0, 0x0, 0x0, 0x0, 0x0⟩,
  ⟨0x10330054, 1, 0, 1, 0, 0x0, 0x0, 0x0, 0x0, 0x0, 0x0⟩,
  ⟨0x10330058, 1, 0, 1, 0, 0x1F40, 0xFFFFFFFF, 0x0, 0x0, 0x0, 0x0⟩,
  ⟨0x10330060, 3, 4, 1, 0, 0x0, 0x0, 0xFFFFFFFF, 0x0, 0x0, 0x0⟩,
  ⟨0x1033006C, 3, 4, 1, 0, 0x0, 0x0, 0xFFFFFFFF, 0x0, 0x0, 0x0⟩,
  ⟨0x10330078, 1, 0, 1, 0, 0x0, 0x0, 0x0, 0x0, 0x0, 0x0⟩,
  ⟨0x1033007C, 1, 0, 1, 0, 0x0, 0x0, 0x0, 0x0, 0x0, 0x0⟩,
  ⟨0x10330080, 1, 0, 1, 0, 0x0, 0x0, 0x0, 0x0, 0x0, 0x0⟩,
  ⟨0x10330084, 1, 0, 1, 0, 0x0, 0x0, 0x0, 0x0, 0x0, 0x0⟩,
  ⟨0x10330088, 1, 0, 1, 0, 0x0, 0x0, 0x0, 0x0, 0x0, 0x0⟩,
  ⟨0x1033008C, 1, 0, 1, 0, 0x0, 0x0, 0x0, 0x0, 0x0, 0x0⟩,
  ⟨0x10330090, 1, 0, 1, 0, 0x0, 0x0, 0x0, 0x0, 0x0, 0x0⟩]

/-- The registers at 0x10340000 and up (DDR). -/
def regTable1034_0 : List RegSpec := [
  ⟨0x10340000, 1, 0, 1, 0, 0x0, 0x0, 0x0, 0x0, 0x0, 0x0⟩,
  ⟨0x10340004, 1, 0, 1, 0, 0x18, 0xFF, 0x0, 0x0, 0x0, 0x0⟩]

/-- The registers at 0x10350000 and up (XSP). -/
def regTable1035_0 : List RegSpec := [
  ⟨0x10350000, 1, 0, 1, 0, 0xC80000, 0xFF0000, 0x0, 0x0, 0x0, 0x0⟩,
  ⟨0x10350004, 1, 0, 1, 0, 0x0, 0xFFFFFFFF, 0x0, 0x0, 0x0, 0x0⟩,
  ⟨0x10350008, 1, 0, 1, 0, 0x0, 0x21FFFFFF, 0x40000000, 0x0, 0x0, 0x0⟩,
  ⟨0x10350100, 64, 4, 1, 0, 0x0, 0xFFFFFFFF, 0x0, 0x0, 0x0, 0x0⟩]

/-- The registers at 0x10360000 and up (REC). -/
def regTable1036_0 : List RegSpec := [
  ⟨0x10360000, 1, 0, 1, 0, 0xFF, 0x800000FF, 0x0, 0x60000000, 0x0, 0x0⟩,
  ⟨0x10360004, 1, 0, 1, 0, 0x0, 0x0, 0x7, 0x0, 0x0, 0x0⟩,
  ⟨0x10360008, 1, 0, 1, 0, 0x0, 0xFFFFFFFF, 0x0, 0x0, 0x0, 0x0⟩,
  ⟨0x1036000C, 1, 0, 1, 0, 0x0, 0xFFFFFFFF, 0x0, 0x0, 0x0, 0x0⟩,
  ⟨0x10360010, 1, 0, 1, 0, 0x1, 0x1FFF, 0x0, 0x0, 0x0, 0x0⟩,
  ⟨0x10360014, 1, 0, 1, 0, 0x0, 0xFFFFFFFF, 0x0, 0x0, 0x0, 0x0⟩,
  ⟨0x10360018, 1, 0, 1, 0, 0x0, 0xFFFFFFFF, 0x0, 0x0, 0x0, 0x0⟩,
  ⟨0x1036001C, 1, 0, 1, 0, 0x0, 0x0, 0x0, 0x0, 0x0, 0x0⟩,
  ⟨0x10360020, 1, 0, 1, 0, 0x0, 0x0, 0x0, 0x0, 0x0, 0x0⟩,
  ⟨0x10360024, 1, 0, 1, 0, 0x0, 0x0, 0x0, 0x0, 0x0, 0x0⟩,
  ⟨0x10360028, 1, 0, 1, 0, 0x0, 0x0, 0x0, 0x0, 0x0, 0x0⟩,
  ⟨0x1036002C, 1, 0, 1, 0, 0x0, 0x0, 0x0, 0x0, 0x0, 0x0⟩,
  ⟨0x10360030, 1, 0, 1, 0, 0x0, 0x0, 0x0, 0x0, 0x0, 0x0⟩,
  ⟨0x10360034, 1, 0, 1, 0, 0x0, 0x0, 0x0, 0x0, 0x0, 0x0⟩]

/-- The register rows of the 64 KiB page `p` of the address map (R492). -/
def regTable (p : Nat) : List RegSpec :=
  if p = 0x300 then regTable300_0
  else if p = 0x1000 then regTable1000_0
  else if p = 0x1001 then regTable1001_0
  else if p = 0x1002 then regTable1002_0
  else if p = 0x1003 then regTable1003_0
  else if p = 0x1004 then regTable1004_0
  else if p = 0x1005 then regTable1005_0
  else if p = 0x1010 then regTable1010_0
  else if p = 0x1012 then regTable1012_0
  else if p = 0x1013 then regTable1013_0
  else if p = 0x101F then regTable101F_0
  else if p = 0x1020 then regTable1020_0
  else if p = 0x1021 then regTable1021_0
  else if p = 0x1022 then regTable1022_0
  else if p = 0x1023 then regTable1023_0
  else if p = 0x1024 then regTable1024_0
  else if p = 0x1025 then regTable1025_0
  else if p = 0x1026 then regTable1026_0
  else if p = 0x1027 then regTable1027_0
  else if p = 0x1030 then regTable1030_0
  else if p = 0x1031 then regTable1031_0
  else if p = 0x1032 then regTable1032_0
  else if p = 0x1033 then regTable1033_0
  else if p = 0x1034 then regTable1034_0
  else if p = 0x1035 then regTable1035_0
  else if p = 0x1036 then regTable1036_0
  else []

/-- The row of the register tables that holds an address, if one does. -/
def regSpec? (a : Nat) : Option RegSpec := (regTable (a >>> 16)).find? (·.covers a)

/-- The value a register has after a reset of its block (R414, R508); 0 at an address with no register in the tables. -/
def regReset (a : Nat) : BitVec 32 := match regSpec? a with
  | some r => r.reset
  | none => 0

end Sys2Proof.Machine
end

