-- ==== Sys2Proof/Machine/State.lean ====
section
/-! DEFINITION. Machine/State.lean: the state of the block as plain data. Registers are held by byte address in
`Dev.regs`; everything the spec gives the machine behind its registers and on its pins is held in the typed structures
below, one per block. Instants and durations are in units of 125 ps (R277's edge step): one fabric cycle is 16 units. -/

namespace Sys2Proof.Machine

/-- Why the model stops. No command of this block stops it: every condition the spec calls a fault is an effect on State. -/
inductive Fault where
  /-- Raised by nobody: the spec gives every command of the table an effect. Safe. -/
  | none
  deriving DecidableEq, Repr

/-- Why the model gives a command no meaning. -/
inductive Refusal where
  /-- Raised by an arm of `exec` that has no meaning yet, with the row's mnemonic. Safe: nothing is claimed of it. -/
  | notModelled (mnemonic : String)
  deriving DecidableEq, Repr

/-! ## Device time (R369 to R372) -/

/-- A change of device time that waits for the start of the next PER cycle (R369, R371): the instant of that start, the
offset a step adds, in 2^-32 ns, and the increment from then on. -/
structure TimePend where
  at_ : Nat
  ofs : Int
  inc : Nat
  deriving DecidableEq, Repr

/-- A stretch of device time: the count `base` at the instant `at_` and the increment from then on. -/
structure TimeSeg where
  at_ : Nat
  base : Nat
  inc : Nat
  deriving DecidableEq, Repr

/-- Device time: at the instant `at_` the count was `base` (in 2^-32 ns) and it grows by `inc` in every PER cycle of 40
units, linearly between (R369). `lastCommit` is the instant from which the hold-over time-out counts (R372);
`byHold` says that HOLD caused a hold-over; `fracStaged` is the staged fraction. -/
structure TimeSt where
  at_ : Nat
  base : Nat
  inc : Nat
  pend : Option TimePend
  /-- The stretches of the last millisecond before the present one, newest first. -/
  past : List TimeSeg
  lastCommit : Nat
  byHold : Bool
  fracStaged : Word
  /-- Per trigger: the next instant in ns it waits for, while armed (R375, R376). -/
  trgNext : List Nat
  /-- Per TOUT pin: the instant its pulse ends, 0 when low (R377). -/
  toutEnd : List Nat
  /-- Per capture: the held edges, oldest first, as time in 2^-32 ns and level (R379). -/
  caps : List (List (Nat × Bool))
  deriving DecidableEq, Repr

/-! ## Frame generator (R13 to R30) -/

/-- The frame generator: the instant of the present T0, of the next T0 (the end of Guard), of the first T0 that waits
after a load (R28), the reference time in force and the committed one that waits for a T0 (R30), the staged low word,
the run of frames with |e| ≤ 2 ns (R26), the fc of the last result of the frame (R23), and whether Acquire and Collect of the frame
have ended. -/
structure FrmSt where
  t0 : Nat
  nextT0 : Nat
  firstT0 : Option Nat
  tref : Nat
  trefNew : Option Nat
  loStaged : Word
  alignRun : Nat
  lastFc : Nat
  acqDone : Bool
  colDone : Bool
  /-- The input blocks, by index, that have delivered in this frame (R16). -/
  delivered : List Nat
  /-- The instant of the last T0 of any frame, for the T0 watch of R329. -/
  lastT0 : Nat
  deriving DecidableEq, Repr

/-! ## Anvil (R31 to R40) -/

/-- A request that is on its way to the Anvil: source, the instant of its arrival fc, and the code and data of the log
entry it makes (R34, R441). -/
structure EvReq where
  src : Nat
  arrive : Nat
  code : Nat
  data : List (Nat × Nat)
  deriving DecidableEq, Repr

/-- An event that has arrived and waits for its delivery: sequence number, time stamp in ns, the destinations of its
arrival fc as a bit mask, and the instant of delivery (R35, R39). -/
structure Ev where
  src : Nat
  seq : Nat
  stamp : Nat
  dst : Nat
  due : Nat
  code : Nat
  data : List (Nat × Nat)
  deriving DecidableEq, Repr

/-- The Anvil. -/
structure AnvSt where
  reqs : List EvReq
  evs : List Ev
  lastSeq : Nat
  lastSrc : Nat
  lastTime : Nat
  /-- Hearth trigger latches HT00 to HT31: count and first sequence number (R39). -/
  ht : List (Nat × Nat)
  /-- Their samples at the present T0 (R83). -/
  htSample : List (Nat × Nat)
  /-- Event outputs EVO0 to EVO7: the instant the pulse ends, 0 when low (R39). -/
  evoEnd : List Nat
  derateReq : Bool
  derateIn : Bool
  deriving DecidableEq, Repr

/-! ## Image (R41 to R72) -/

/-- A signal record (R54). -/
structure SigRec where
  typ : Nat
  rate : Nat
  cls : Nat
  tap : Bool
  init : Word
  deriving DecidableEq, Repr

/-- A block record (R55); `trigger` 0xFFFF for none; `ops` are the operation words of a formula block. -/
structure BlkRec where
  id : Nat
  typ : Nat
  ins : List Nat
  outs : List Nat
  rate : Nat
  noShare : Bool
  sheddable : Bool
  trigger : Nat
  pIdx : Nat
  nPar : Nat
  ops : List (Nat × Nat)
  deriving DecidableEq, Repr

/-- A graph: rate table, signal records, block records (R52). -/
structure Graph where
  rates : List (Nat × Nat)
  sigs : List SigRec
  blks : List BlkRec
  deriving DecidableEq, Repr

/-- What a checked image holds. `structBytes` and `safety` are the sections as they stand, for R69 and R400. -/
structure Image where
  periodFc : Nat
  flags : Nat
  tref : Nat
  errlim : Nat
  /-- CHANNEL_MAP: for P00 to P95, bridge (0xFF unused), phase, leg (R49). -/
  chmap : List (Nat × Nat × Nat)
  /-- BRIDGES: QUENCH_RULE and LEG_ALLOWANCE (R50). -/
  bridges : List (Nat × Nat)
  regs : List (Nat × Word)
  graph : Graph
  setA : List Word
  setB : List Word
  activeSet : Nat
  structBytes : List Byte
  safety : List Byte
  hash : List Byte
  gen : Nat
  secVer : Nat
  deriving DecidableEq, Repr

/-- A task: its blocks by index in run order, its rate entry, trigger, NO_SHARE, and the engine that owns it (64 for
none). -/
structure Task where
  blks : List Nat
  rate : Nat
  trig : Nat
  noShare : Bool
  eng : Nat
  deriving DecidableEq, Repr

/-- A placement: the tasks, each engine's tasks in run order, each signal's home (0 local, 1 system SRAM, 2 DDR, 3 written by an input block or by none), and each
engine's planned finish fc (R110 to R112). -/
structure Placement where
  tasks : List Task
  order : List (List Nat)
  home : List Nat
  plan : List Nat
  deriving DecidableEq, Repr

/-- The image loader: the running image and its slot, the image under check or staged, its placement, the frame in which
STAGED was entered, and whether a full load waits for a planned handover (R67, R70, R342). -/
structure ImgSt where
  run : Option Image
  next : Option Image
  nextPlace : Option Placement
  stagedFrm : Nat
  fullWaits : Bool
  /-- The trial of a container: the slot under check. -/
  slot : Nat
  /-- The checks under way are a hot update's (R70). -/
  hot : Bool
  /-- The engines that the trial placement of the checks may use (R67). -/
  trial : List Nat
  deriving DecidableEq, Repr

/-! ## Hearth and collector (R73 to R106) -/

/-- Where a collector word goes (R97). -/
inductive Dest where
  /-- A signal: its copies on other engines and its system-SRAM or DDR home. -/
  | sig (s : Nat)
  /-- The recorder's copy of a tapped signal. -/
  | tap (s : Nat)
  /-- A PWM register of a channel: 0 PER, 1 CMPU, 2 CMPD. -/
  | pwm (n : Nat) (r : Nat)
  /-- An edge list of a channel: one entry. -/
  | edge (n : Nat)
  /-- A protection threshold: 0 SDI limit, 1 comparator HI, 2 comparator LO (R235). -/
  | thresh (d : Nat) (i : Nat)
  /-- A parameter word by set and index (R151). -/
  | par (set : Nat) (i : Nat)
  /-- A swap command (R152). -/
  | swap
  /-- An urgent request for an ADC channel (R235). -/
  | urg
  /-- A word of the identification buffer (R178). -/
  | ident (i : Nat)
  deriving DecidableEq, Repr

/-- A word of a packet. -/
structure PWord where
  dst : Dest
  val : Word
  deriving DecidableEq, Repr

/-- A packet: the engine, block and task that posted it, whether it is a target's in a compare frame (R116), the instant from which its words are
eligible, its words and how many are granted (R97, R98). -/
structure Packet where
  eng : Nat
  blk : Nat
  task : Nat
  shadow : Bool
  elig : Nat
  words : List PWord
  granted : Nat
  deriving DecidableEq, Repr

/-- The results of a block run that has started: outputs to be committed at its end, its packet's words, its new state, an expiry
(R153). -/
structure BlkRes where
  blk : Nat
  outs : List (Nat × Word)
  words : List PWord
  st : List Word
  prev : List Word
  fe : Option (Nat × Word)
  deriving DecidableEq, Repr

/-- A task in progress on an engine: the task, blocks still to run after the present one, the present block's result, the instant it ends, results of
finished blocks, and whether it is a target's run in a compare frame (R116). -/
structure Run where
  task : Nat
  todo : List Nat
  cur : Option BlkRes
  endAt : Nat
  fin : List BlkRes
  shadow : Bool
  deriving DecidableEq, Repr

/-- An engine (R73, R108): tasks due in this frame and not begun, the run in progress, the tasks finished in this frame with their results, the instant
of its last finish, whether a task was late in this frame, whether a task was due, the run of late frames (R120), and what lies behind PLC_ENG and HRT_ENG. -/
structure Eng where
  todo : List Nat
  run : Option Run
  done : List (Nat × List BlkRes)
  finish : Nat
  late : Bool
  hadDue : Bool
  lateRun : Nat
  /-- The last 64 frames, newest first: did FINISH_FC exceed the slow threshold, and has the present count of 16 or more been reported (R122)? -/
  slowHist : List Bool
  slowSeen : Bool
  /-- The instant of the last passed self-test, if any (ST_AGE). -/
  testedAt : Option Nat
  deriving DecidableEq, Repr

/-- A block at run time: committed state words, the previous outputs, mode (1 running, 2 off pending, 3 off, 4 on
pending; R105), and whether it has run since load or switch-on. -/
structure BlkRt where
  st : List Word
  prev : List Word
  mode : Nat
  ran : Bool
  /-- The block's part of its task's checkpoint in the bank of even frames and in that of odd ones: FRM_COUNT and state words; and what the present frame's
  checkpoint has replaced (R103, R114, R115). -/
  bank0 : Option (Nat × List Word)
  bank1 : Option (Nat × List Word)
  bankWas : Option (Nat × List Word)
  /-- The instant of the image load or of the last switch-on (R181). -/
  since : Nat
  deriving DecidableEq, Repr

/-- A FOLLOW_SUP expiry of the present frame: INSTANCE_ID, reaction, e (R153, R154). -/
structure FeExp where
  id : Nat
  reaction : Nat
  err : Word
  task : Nat
  deriving DecidableEq, Repr

/-- The Hearth. -/
structure HrtSt where
  graph : Graph
  setA : List Word
  setB : List Word
  rt : List BlkRt
  /-- Signal values: as the writer's engine holds them, as committed at the copies on other engines and at a system-SRAM or DDR home, and the recorder's copies. -/
  sig : List Word
  copy : List Word
  tap : List Word
  place : Placement
  eng : List Eng
  /-- Blocks whose results other engines see in this frame, each with the instant its commit fc ends (R80, R99). -/
  comm : List (Nat × Nat)
  /-- The tasks due in this frame (R80). -/
  due : List Nat
  /-- The end of the fc of the collector's last cycle (R98). -/
  colAt : Nat
  /-- Sub-rate counters: N and count (R20). -/
  rate : List (Nat × Nat)
  /-- Packets in post order (R97). -/
  posts : List Packet
  colWords : Nat
  /-- Frame flags for the recorder: late, stale, discard (R454). -/
  recFlags : Nat
  feExp : List FeExp
  /-- Tasks that are late in this frame. -/
  lateTasks : List Nat
  /-- The identification buffer of R178, by word index: ten sub-windows of 96 points of four words. -/
  ident : List (Nat × Word)
  deriving DecidableEq, Repr

/-! ## Placer (R107 to R129) -/

/-- A migration (R116): register index, reason, source, target, FRM_COUNT of frame n, stage 1 or 2, and whether the
source failed in frame n + 1 (R119). -/
structure Mig where
  k : Nat
  reason : Nat
  src : Nat
  tgt : Nat
  frame : Nat
  stage : Nat
  noCmp : Bool
  tasks : List Nat
  deriving DecidableEq, Repr

/-- A recovery (R120, R121): failed engine (64 for unplaced tasks), target (64 when packed or not yet chosen), FRM_COUNT of the first run, tasks, whether the
replacement has been chosen, and the checkpoint age. -/
structure Recov where
  failed : Nat
  tgt : Nat
  loadFrm : Nat
  tasks : List Nat
  started : Bool
  age : Nat
  deriving DecidableEq, Repr

/-- A self-test request: engine; reserved by a slow migration that has not ended (R122); made by firmware (R127). -/
structure TestReq where
  eng : Nat
  reserved : Bool
  fw : Bool
  deriving DecidableEq, Repr

/-- The Placer. -/
structure PlcSt where
  migs : List Mig
  recs : List Recov
  queue : List TestReq
  /-- The engine under test and the instant its test ends (R125). -/
  test : Option (Nat × Nat)
  /-- Engine named last by the rotation timer (R126), and the instant the running interval ends. -/
  rotLast : Nat
  rotEnd : Option Nat
  rotPend : Bool
  /-- Engines whose slow migration waits for a T0 (R122). -/
  slowDue : List Nat
  /-- A request whose turn it is, which starts at the next T0 (R126, R128), and requests for engines that are migrating, which are judged afresh when the migration
  ends (R119). -/
  testDue : List TestReq
  testLater : List TestReq
  /-- Per quadrant: the instant since which it has exceeded the others, whether it is hot, and its last excess over the others in 1/30 °C (R123). -/
  hotSince : List (Option Nat)
  hot : List Bool
  excess : List Int
  /-- The instant the thermal migration before ended. -/
  thermEnd : Option Nat
  /-- Loads, by their tasks, whose migration was aborted, with the frame of the abort: no new one for 64 frames (R118). -/
  holdOff : List (List Nat × Nat)
  /-- Unplaced tasks (R121). -/
  unplaced : List Nat
  deriving DecidableEq, Repr

/-! ## Loops (R146 to R154) -/

/-- A pending swap: group and the FRM_COUNT of its boundary; `hot` when it waits for a hot update (R149, R150). -/
structure SwapPend where
  group : Nat
  frame : Nat
  hot : Bool
  deriving DecidableEq, Repr

/-- A staged parameter word: set, index, value, and the FRM_COUNT at whose T0 it applies (R147, R337). -/
structure ParStage where
  set : Nat
  idx : Nat
  val : Word
  frame : Nat
  deriving DecidableEq, Repr

/-- Loop parameters and swaps. `txPar` and `txSwap` are the words, each with the frame at whose T0 it applies, and the commands for the partner's next messages (R337). -/
structure LpSt where
  staged : List ParStage
  swaps : List SwapPend
  txPar : List (Nat × ParamEntry)
  txSwap : List (Nat × Nat)
  /-- Per swap group: the instant of its last swap boundary (R181). -/
  swapAt : List Nat
  deriving DecidableEq, Repr

/-! ## Measurement inputs (R205 to R236) -/

/-- A sigma-delta input: end of its settle mask (0 none), the protection comparator's level,
stream outputs with the instants their windows ended, oldest first, and its run of equal bits: 0 none, 1 ended in this frame, 2 lasting
(R209 to R213). -/
structure SdiCh where
  maskEnd : Nat
  /-- The disturbing moments of the last 200 µs, newest first. -/
  disturb : List Nat
  prot : Bool
  /-- The end of the window of the last stream-mode output since the decimation phase was set (R209). -/
  outAt : Option Nat
  stream : List (Nat × F32 × Bool)
  stuck : Nat
  deriving DecidableEq, Repr

/-- The sigma-delta block: inputs, lost clocks, whether the chip drives the clocks, and the frames the spare pair has
checked its input (R214, R215). -/
structure SdmSt where
  ch : List SdiCh
  clkLost : List Bool
  driven : Bool
  spareFrames : Nat
  /-- The first T0 after the load, at which the decimation phase was set (R209). -/
  decAt : Option Nat
  /-- Per clock: a rising edge of the chip's own divider (R205). -/
  divAt : List Nat
  deriving DecidableEq, Repr

/-- A conversion in progress: slice, bank-local channel, start instant, the entry (64 for urgent), dispatch number, whether in a SYNC
group (with the T0 it belongs to), and whether its result is discarded (R227). -/
structure Conv where
  slice : Nat
  ch : Nat
  start : Nat
  entry : Nat
  num : Nat
  sync : Option Nat
  drop : Bool
  deriving DecidableEq, Repr

/-- A result of a bank: channel, code, over-range, instant it left the bank, SYNC T0 (R222). -/
structure AdcRes where
  ch : Nat
  code : Int
  exceeds : Bool
  left : Nat
  sync : Option Nat
  deriving DecidableEq, Repr

/-- A SAR bank (R217 to R227). -/
structure AdcBank where
  /-- Next entry and conversion within it; starts of the sequencer. -/
  entry : Nat
  rep : Nat
  lastStart : Option Nat
  lastEntryStart : Option Nat
  num : Nat
  nextOut : Nat
  conv : List Conv
  /-- Finished sequencer results that wait for older ones: dispatch number and result. -/
  wait : List (Nat × AdcRes)
  /-- Per slice: the instant since which it is free. -/
  freeAt : List Nat
  /-- Per slice: gain factor, offset in 1/16 LSB, instant of its calibration. -/
  fact : List (Nat × Int × Nat)
  /-- The Darning slice has new factors (R223). -/
  darnReady : Bool
  /-- The slice marked for replacement (R223). -/
  marked : Option Nat
  /-- A SYNC group in progress: its T0 and the conversions left. -/
  group : Option (Nat × Nat)
  /-- The T0 of the last group run that completed, and whether the present T0 has one. -/
  lastGroupT0 : Option Nat
  groupLate : Bool
  results : List AdcRes
  urgRes : List (Nat × Int × Bool)
  urgHeld : Option (Nat × Nat)
  /-- The instant ROT_MS last passed. -/
  rotAt : Nat
  /-- New results since the last delivery, by channel (flags bit 2 of ADC_IN). -/
  fresh : List Nat
  freshUrg : List Nat
  deriving DecidableEq, Repr

/-- The ADC block: the banks, and the instant bank M's calibration ends. -/
structure AdcSt where
  banks : List AdcBank
  mcalEnd : Option Nat
  deriving DecidableEq, Repr

/-- A comparator: raw state and the history of its last samples, newest first (R228, R229), and the decisions it has made in a test that runs on it (R324). -/
structure CmpCh where
  raw : Bool
  hist : List Bool
  tested : Nat
  deriving DecidableEq, Repr

/-! ## Encoders (R237 to R261) -/

/-- A tracking observer (R250): position in 2^-32 counts, speed in 2^-32 counts per second, acceleration, and the instant of the last
update. The number format is a DESIGN CHOICE (log entry 22). -/
structure Observer where
  xh : Int
  wh : Int
  ah : Int
  lastU : Nat
  deriving DecidableEq, Repr

/-- The sample of a channel at the present T0 (R253): position, speed and acceleration as in `Observer`, p, TURNS, an edge-timing run
shorter than 2 steps. -/
structure EncSample where
  x : Int
  w : Int
  a : Int
  p : Word
  turns : Word
  short : Bool
  deriving DecidableEq, Repr

/-- What a write of LOAD found (R241, R260): the PER cycle of the write, its VALUE, and the state before it, on which the steps, the index, the probe and the T0 sample of that
cycle act. -/
structure EncLoad where
  cycle : Nat
  value : Nat
  raw : Word
  pos : Word
  turns : Word
  rev : Bool
  lastUp : Option Bool
  homePend : Bool
  deriving DecidableEq, Repr

/-- An encoder channel: the newest samples of the pins A, B and Z, their filtered levels, the direction of the last step since enable or LOAD, a homing that waits for its index, the observer, the
time stamps of the last count steps (newest first, with direction), the speed at the T0 before the sample's, the T0 sample, the start instant of the transfer in progress with
its idle fault, the instant S of the last transfer, the last good positions with their S, the run of faulty transfers, wrong index and correction since the last delivery, the signal fault
with whether firmware has cleared it and whether the channel has been enabled again since, and the last LOAD (R238 to R260). Counts, turns and flags are registers. -/
structure EncCh where
  pinA : Bool
  pinB : Bool
  pinZ : Bool
  a : Bool
  b : Bool
  z : Bool
  lastUp : Option Bool
  homePend : Bool
  obs : Observer
  steps : List (Nat × Bool)
  prevSpeed : Int
  sample : EncSample
  serStart : Option (Nat × Bool)
  serClk : Option Nat
  serGood : List (Nat × Int)
  serErrRun : Nat
  wrongSince : Bool
  corrSince : Bool
  fault : Bool
  faultAck : Bool
  faultCyc : Bool
  loaded : Option EncLoad
  deriving DecidableEq, Repr

/-- The encoder block: channels, emulation accumulator and levels of EOA, EOB from the instant `eoAt` on with those before it, and the instant EOZ's pulse ends (R256). -/
structure EncSt where
  ch : List EncCh
  acc : Nat
  eoA : Bool
  eoB : Bool
  eoAt : Nat
  eoWas : Bool × Bool
  eozEnd : Nat
  deriving DecidableEq, Repr

/-! ## Metering (R262 to R276) -/

/-- A source sample: device time of its instant in 2^-32 ns, value, and whether it was flagged stuck or disturbed. -/
structure SrcSample where
  time : Nat
  val : F32
  bad : Bool
  deriving DecidableEq, Repr

/-- A metering point: the corrections and thresholds of the cycle in progress (R273), the cycle's sum of powers (exact, in units of
2^-298 W), its sample count and first sample, the last sample formed, whether the present run of cycles ends in timeouts, the last reference voltage, the
VHYST arm, the last good power, a run of gaps, an add that waits for a close: to export, amount, and the PER cycle of the last snapshot (R264 to R271). -/
structure MtrPt where
  corG : List F32
  corD : List Int
  vhyst : F32
  pstart : F32
  pstop : F32
  sumP : Int
  n : Nat
  kStart : Option Nat
  lastK : Option Nat
  timeoutRun : Bool
  prevV : Option F32
  below : Bool
  lastP : Int
  gapRun : Bool
  addPend : Option (Bool × Nat)
  snapAt : Option Nat
  deriving DecidableEq, Repr

/-- The metering block: points, and the source samples of MIN0 to MIN7 and of each SDI, newest first. -/
structure MtrSt where
  pt : List MtrPt
  vsrc : List (List SrcSample)
  isrc : List (List SrcSample)
  deriving DecidableEq, Repr

/-! ## PWM (R277 to R305) -/

/-- A committed set on its way: the instant it presents, and the values it carries (R285). -/
structure PwmSet where
  present : Nat
  per : Option Word
  cmpu : Option Word
  cmpd : Option Word
  deriving DecidableEq, Repr

/-- A committed edge list on its way. -/
structure PwmList where
  present : Nat
  words : List Word
  deriving DecidableEq, Repr

/-- A PWM channel behind its registers (R278 to R298): the present period's boundary, the next one, whether a period has begun, whether the peak of this
period has passed, the instant of the last reload, the shadow set, sets and lists on their way, staged edge words, pending edges (device time in fine units, level),
DT, MINP and PHASE in force, the run of boundaries with |e| ≤ 8, the reference level with the last edge that took effect and a deferred edge (R280), the commands
ahead of the gate protection with the instants of pending turn-ons (R281), and the pair override in force with the one before it and the end of its off interval (R296). -/
structure PwmCh where
  bound : Nat
  next : Nat
  begun : Bool
  peakDone : Bool
  lastReload : Nat
  /-- What was active before the last reload: boundary, PER, CMPU, CMPD. Edges delayed by PHASE mod 8 taps still follow it in the first taps after (R292). -/
  was : Option (Nat × Nat × Word × Word)
  shPer : Word
  shU : Word
  shD : Word
  sets : List PwmSet
  lists : List PwmList
  elStage : List Word
  edges : List (Nat × Bool)
  dt : Nat
  minp : Nat
  phase : Nat
  lockRun : Nat
  level : Bool
  lastEdge : Option Nat
  deferred : Option (Nat × Bool)
  hi : Bool
  lo : Bool
  hiOn : Option Nat
  loOn : Option Nat
  ovr : Nat
  ovrWas : Nat
  ovrOff : Nat
  deriving DecidableEq, Repr
/-! ## Gate protection (R306 to R326) -/

/-- A channel of the gate protection: the FLT pin and the instant it last changed, the full detection instant, whether a fault with it has been
decided, the length of the last filtered low, the end of the blanking window (0 none), the values of BLANK_NS and FLT_FILT in force, the level of the protection
comparator as presented (R310), the commands at the output of the stage, the instant a rule's side turns on (none: not waiting), the instant until which a release
holds the commands off, and the instants each side last went off. Marks and counters are registers. -/
structure GdpCh where
  pinLow : Bool
  pinAt : Nat
  det : Nat
  decided : Bool
  lowAt : Nat
  lowDur : Nat
  winEnd : Nat
  blank : Nat
  filt : Nat
  gHi : Bool
  gLo : Bool
  patAt : Option Nat
  relAt : Nat
  offHi : Nat
  offLo : Nat
  deriving DecidableEq, Repr

/-- A bridge: quench requests on their way (instant of presenting, cause bit), a CLEAR that waits for its T0 (instant it
presents), the instant it was quenched, and the commands held off by off-state diagnostics (R317, R319, R321). -/
structure GdpBr where
  reqs : List (Nat × Nat)
  clear : Option Nat
  quenchedAt : Nat
  diagHold : Bool
  deriving DecidableEq, Repr

/-- Off-state diagnostics in progress (R321): stage 0 settle, 1 taking V0 and VDC, 2 dwell, 3 taking V1; the means taken, the instant the stage began, and
COUNT as it was at the start. -/
structure DiagRun where
  stage : Nat
  count : Nat
  v0 : F32
  vdc : F32
  since : Nat
  deriving DecidableEq, Repr

/-- The gate-protection block: channels, bridges, diagnostics, the currents of TDAC0 to TDAC3 in 0.1 mA, and a test in
progress: kind, index, end. -/
structure GdpSt where
  ch : List GdpCh
  br : List GdpBr
  diag : Option DiagRun
  tdac : List Nat
  test : Option (Nat × Nat × Nat)
  /-- The outputs of BRIDGE_IN at the present T0, per bridge (R315). -/
  brIn : List (List Word)
  deriving DecidableEq, Repr

/-! ## Safety sequencer (R383 to R407) -/

/-- An input pair: accepted levels of its contacts, the instant since which they disagree, its discrepancy fault, the instant both stood in
demand since the fault, and, for a reset pair, the instant both have been held pressed, the instant the first was released, and a reset request (R386 to R388). -/
structure SinPair where
  a : Bool
  b : Bool
  disagreeAt : Option Nat
  demandAt : Option Nat
  bothDemand : Bool
  pressAt : Option Nat
  relAt : Option Nat
  resetReq : Bool
  deriving DecidableEq, Repr

/-- A safety function: the instant its demand began; has it reached its supply cut (R390). -/
structure SafFn where
  demandAt : Option Nat
  cut : Bool
  deriving DecidableEq, Repr

/-- An output: level, instant of its last switch, the end of an off-pulse, and the instant off-pulses are counted from (R393, R394). -/
structure SafOut where
  on : Bool
  switchedAt : Nat
  pulseEnd : Option Nat
  lastPulse : Nat
  deriving DecidableEq, Repr

/-- A staged item: number, value, author (R401). -/
structure SafStage where
  num : Nat
  val : Word
  author : Word
  deriving DecidableEq, Repr

/-- The sequencer: its working copy of the SAFETY section, a new one that applies at the next scan end (R400, R401), inputs, functions,
outputs, staged items, the first change number of a waiting commit, the self-test, unlocking and lockout. -/
structure SafSt where
  vioF : Bool
  copy : List Byte
  next : Option (List Byte)
  nextIsCommit : Bool
  pair : List SinPair
  fn : List SafFn
  out : List SafOut
  staged : List SafStage
  chgFirst : Nat
  selfTested : Bool
  hashEnd : Option Nat
  /-- The password and salt under computation. -/
  hashPw : List Byte
  wrongRun : Nat
  lockoutEnd : Option Nat
  lastStage : Nat
  lastScan : Nat
  onAt : Nat
  /-- The instants from which the background test, the input injection and the clock window count (R395, R396). -/
  bgAt : Nat
  injAt : Nat
  winAt : Nat
  deriving DecidableEq, Repr

/-! ## Keep domain, trouble log, journal, recorder (R436 to R459) -/

/-- A log entry as it stands in the ring: time, sequence, source, code and 16 data bytes (R440). -/
structure LogEntry where
  time : Nat
  seq : Nat
  src : Nat
  code : Nat
  data : List Byte
  deriving DecidableEq, Repr

/-- A burst in progress: the slots it flushes, bytes 0 to 4,063 of its sector as they stood at its start, and LOG_LOST then (R445, R446). -/
structure BurstRun where
  slots : List Nat
  bytes : List Byte
  lost : Nat
  deriving DecidableEq, Repr

/-- The Keep domain. -/
structure KeepSt where
  alive : Bool
  main : Bool
  queue : List LogEntry
  /-- The ring: slot and entry, with the instant it was written and whether it is flushed. -/
  ring : List (Nat × LogEntry)
  /-- Unflushed slots, oldest first, with the instant each was written. -/
  unfl : List (Nat × Nat)
  /-- KT at an instant (R439). -/
  kt : Nat
  ktAt : Nat
  /-- The burst in progress (R446). -/
  burst : Option BurstRun
  /-- The instants of the last entry written into the ring and of the last measurement of the stores (R442, R449). -/
  wroteAt : Option Nat
  storeAt : Option Nat
  flushReq : Bool
  verifyRun : Nat
  retryAt : Option Nat
  lostAtBurst : Nat
  /-- Counters at the loss of the main supplies, its instant, and the harvester's running time (R453). -/
  lossKt : Nat
  refusedAtLoss : Nat
  abortAtLoss : Nat
  harvSince : Option Nat
  harvTime : Nat
  /-- Events to be raised when the fabric runs: cold start, refusals, aborts (R437, R449). -/
  coldPend : Bool
  refusedPend : Bool
  abortPend : Bool
  mainSince : Nat
  storeLow : Bool
  deriving DecidableEq, Repr

/-- The recorder: records written since ARMED, ring index of the next record, records left after the trigger, triggers delivered and
sampled, records waiting to be written (R454 to R457). -/
structure RecSt where
  count : Nat
  idx : Nat
  postLeft : Nat
  trig : Nat
  /-- Triggers delivered in the fc of a T0: they belong to the next sample. -/
  trigNext : Nat
  sampled : Nat
  trigFrame : Bool
  dropped : Bool
  /-- Records formed at the end of Collect and not yet written: FRM_COUNT, T0 in ns, flags, taps. -/
  waiting : List (Nat × Nat × Nat × List Word)
  deriving DecidableEq, Repr

/-! ## Twin (R327 to R352) -/

/-- A Jexper lane as the pair uses it: frames of the partner whose HEARTBEAT arrived on it in the last windows, CAPS sent, received and
acknowledged, its heartbeat lost (R340, R348). -/
structure TwnLane where
  capsRx : Bool
  ackRx : Bool
  beats : List Nat
  missRun : Nat
  lost : Bool
  stageAt : Nat
  capsAt : Nat
  deriving DecidableEq, Repr

/-- A planned handover in progress: T_x frame, cause, whether the partner accepted, and whether this chip is the one that takes over
(R342). -/
structure Handover where
  txFrm : Nat
  cause : Nat
  accepted : Bool
  taker : Bool
  deriving DecidableEq, Repr

/-- The twin block. -/
structure TwnSt where
  lane : List TwnLane
  /-- OWN level driven, and whether SDC pins are driven (R329). -/
  own : Bool
  /-- PEER_OWN edges of the last windows: instants (R330). -/
  peerEdges : List Nat
  emptyRun : Nat
  seenPrev : Bool
  /-- Pair hold, takeover hold (R328, R341). -/
  pairHold : Bool
  takeoverHold : Bool
  tx : Option Nat
  txCause : Nat
  paired : Bool
  ea : Int
  alignRun : Nat
  badAlign : Nat
  /-- The partner as last reported, its last reports, newest first, and the power state and released bridges it last reported as owner (R341). -/
  peer : Option HeartbeatBody
  beats : List HeartbeatBody
  ownerRep : Option (Nat × Nat)
  caps : Option CapsBody
  pairable : Bool
  blocks : List (Nat × Nat)
  blocksTotal : Nat
  mirrored : List Nat
  /-- Sweep as sender: next position; as receiver: words applied, frames taken, complete. -/
  sweepPos : Nat
  sweepSeen : List (Nat × Nat)
  sweepFrames : Nat
  sweepDone : Bool
  /-- Latched own words of frame j and the sent ones, with the frame at whose T0 they correct (R336). -/
  corr : List (Nat × Nat × Nat × Word × Word)
  /-- SEQ of the messages accepted, newest first (R347). -/
  seqs : List Nat
  txSeq : Nat
  handover : Option Handover
  /-- Sets committed in this and the last frames, for RESULT: frame, channel, CMPU, CMPD (R339). -/
  results : List (Nat × Nat × Word × Word)
  xCount : List Nat
  fCount : List Nat
  xMark : List Bool
  fMark : List Bool
  blocksDue : Bool
  /-- The last own T0s: frame and device time in ns; FLT levels sampled at the last T0; a RESULT that waits for the own frame. -/
  t0Hist : List (Nat × Nat)
  fltT0 : Nat
  rxResult : Option (Nat × List (Nat × Word × Word))
  /-- Bridges to which a quench request came during a takeover (R344), and blocks whose newest checkpoint failed its CRC at the last T0 (R336). -/
  txQuench : List Nat
  ckptBad : List Nat
  deriving DecidableEq, Repr

/-! ## Lanes and Ethernet (R348, R353 to R367) -/

/-- A lane of the physical layer: electrical idle of its transmitter, the blocks its last enabling sends before other traffic (R357), and the instant of the last
receiver-detection pulse of its stay in Detect (R355). -/
structure LnkLane where
  txIdle : Bool
  burst : Nat
  pulseAt : Option Nat
  deriving DecidableEq, Repr

/-- A descriptor ring: stopping after a write of RUN = 0 (R366). -/
structure RingSt where
  stopping : Bool
  deriving DecidableEq, Repr

/-- A frame on the wire: ring, its first descriptor and their number, bytes, time-stamp request, interrupt, instant of its first bit. -/
structure TxFrame where
  ring : Nat
  first : Nat
  count : Nat
  bytes : List Byte
  tsReq : Bool
  int : Bool
  start : Nat
  /-- An uncorrectable memory error stood in what the ring read for it (R491). -/
  bad : Bool
  deriving DecidableEq, Repr

/-- An Ethernet port. `pauseEnd`: transmission held by a received pause frame; `pauseDue`: a pause frame waits for the frame on the wire to end (R359, R362). `attn`: the
OR of the enabled attention bits (R367). -/
structure EthPort where
  tx : Option TxFrame
  pauseEnd : Nat
  pauseDue : Bool
  attn : Bool
  ring : List RingSt
  deriving DecidableEq, Repr

/-! ## Clocks, supplies, Temper (R408 to R435) -/

/-- A profile of the Bellows in progress (R418): its target (0 VCO, 1 CPU domain), whose it is (0 boot ROM, 1 firmware, 2 Temper, 3 soft stop), the segments
left, the present one first (END in kHz and RATE word), the number of the present one, and the µs held at its END. -/
structure BlwRun where
  target : Nat
  owner : Nat
  segs : List (Nat × Word)
  seg : Nat
  held : Nat
  deriving DecidableEq, Repr

/-- Clocks: domains stopped by the monitor; the instant from which a lock is possible again; the PLL started, and when; per domain, between stop and restart of a switch, the
first instant at which it can restart (R422); the profile in progress and the instant of the last update of one; the CPU domain's frequency in kHz; the instants of the last
judgement against REFCLK and of the last fall of SRO_OK (R408 to R423). -/
structure ClkSt where
  stopped : Bool
  canLockAt : Option Nat
  started : Bool
  startAt : Nat
  switching : List (Option Nat)
  blw : Option BlwRun
  blwAt : Option Nat
  refFell : Option Nat
  sroFell : Option Nat
  cpuKhz : Nat
  deriving DecidableEq, Repr

/-- A temperature sensor: its readings of the last 10 s with their instants, newest first, in 0.1 °C; WARN and rate excursions in progress (R427, R428). -/
structure TmpSens where
  hist : List (Nat × Int)
  warn : Bool
  rate : Bool
  deriving DecidableEq, Repr

/-- Temper: sensors, the instant STOPPING was entered, shedding at the present T0, the instant since which the conditions of a return to NORMAL hold, the CPU ramped down or on its
way (R429, R430), the values TEMPER_IN delivers (R432), and the instant of the last measurement (R426). -/
structure TmpSt where
  sens : List TmpSens
  last : Option Nat
  since : Nat
  shed : Bool
  coolSince : Option Nat
  throttled : Bool
  inNow : List Word
  inT0 : List Word
  deriving DecidableEq, Repr

/-! ## Security, processors, start-up (R460 to R510) -/

/-- The one-time-programmable fuses (R460 to R468): life-cycle fuses, RETURN_PENDING, key slots (X and Y), revocation, the two counters, the unique
identity, the RETURN fuses, inconsistency of a group. Fuses can only be blown: every field only grows. -/
structure Otp where
  lc : Nat
  retPend : Bool
  keys : List (Option (Nat × Nat))
  revoked : Nat
  fwCnt : Nat
  imgCnt : Nat
  uid : Nat
  err : Bool
  /-- Production values: the 64 entries of the band table (R417), the soft-start and soft-stop profiles (R418): END in kHz and RATE word. -/
  bands : List Word
  startProf : List (Nat × Word)
  stopProf : List (Nat × Word)
  deriving DecidableEq, Repr

/-- Security and debug: shadows of the OTP registers are registers; here a fuse blow in progress (what, until when), the challenge and its expiry, a
verification in progress, the run of failures and the lockout (R467, R474, R475). -/
structure SecSt where
  blow : Option (Nat × Nat × Nat)
  /-- The instant of the last comparison of the shadows with their fuses (R468). -/
  otpAt : Option Nat
  chalExp : Option Nat
  chalUsed : Bool
  verifyAt : Option Nat
  fails : Nat
  lockout : Option Nat
  reqLevel : Nat
  reqKey : Nat
  kstage : List Word
  resp : List Word
  psuEn : Bool
  deriving DecidableEq, Repr

/-- A processor pair: running, instant its watchdog counts from, watchdog on, half reported (R484 to R487). -/
structure CpuPair where
  running : Bool
  wdtFrom : Nat
  wdtHalf : Bool
  /-- SYS_WDT has been written since the reset of the SYS block: EN of type RW1 is fixed (R8, R487). -/
  wdtSet : Bool
  vec : Nat
  deriving DecidableEq, Repr

/-- Processors, interrupt controller and memories: pairs; pending, claimed, enabled interrupts, priorities and thresholds of the PLIC's four contexts; the latched high word
of mtime; machine timer pending; a warm restart due; the xSPI command in progress; the levels of the GPIO pins (R481 to R495). -/
structure CpuSt where
  pair : List CpuPair
  ipend : List Nat
  iclaim : List Nat
  prio : List (Nat × Nat)
  enab : List (Nat × Nat)
  thr : List Nat
  mtimeHi : Word
  /-- Words of 64 bits of memory with an uncorrectable error, and the bytes they held: the error stands until they are written anew (R491). -/
  bad : List (Nat × List Byte)
  mtip : List Bool
  warmAt : Option Nat
  xsp : Option Nat
  gpioLevel : List Bool
  deriving DecidableEq, Repr

/-- Start-up (R496 to R510): PORn and the instant of its rise; the slot and image that secure boot found; step 10 has ended or is skipped (R509); the UART
recovery (R503); the end of the wait for REF_OK (R506); no image has run frames since PORn or a failed load (R541);
the instant since which the PWM pins have carried the ST_SAFE pattern (R424, R498); READY has been reported since PORn. -/
structure SysSt where
  porn : Bool
  pornAt : Nat
  bootSlot : Nat
  bootImage : Option Image
  bootOver : Bool
  uartLast : Option Nat
  recovery : Bool
  refWait : Option Nat
  safe : Bool
  safeAt : Nat
  readied : Bool
  deriving DecidableEq, Repr

/-! ## The device and the whole state -/

/-- The device: registers by byte address (an address is listed only while its value differs from its reset value, in rising order
of addresses), and the typed state of every block. -/
structure Dev where
  regs : List (Nat × Word)
  time : TimeSt
  frm : FrmSt
  anv : AnvSt
  img : ImgSt
  hrt : HrtSt
  plc : PlcSt
  lp : LpSt
  sdm : SdmSt
  adc : AdcSt
  cmp : List CmpCh
  enc : EncSt
  mtr : MtrSt
  pwm : List PwmCh
  gdp : GdpSt
  saf : SafSt
  keep : KeepSt
  rec_ : RecSt
  twn : TwnSt
  lnk : List LnkLane
  eth : List EthPort
  clk : ClkSt
  tmp : TmpSt
  sec : SecSt
  cpu : CpuSt
  sys : SysSt
  /-- What the last command put out: messages for the partner, with the mask of their lanes and their sequence numbers (R346, R351). -/
  sent : List (Nat × Nat × TwinMsg)
  /-- Frames put on the Ethernet wires by the last command: port and bytes (R362). -/
  ethOut : List (Nat × List Byte)
  /-- Bytes sent on UART0 by the boot ROM in the last command (R503). -/
  uartOut : List Byte
  /-- The register bits that hardware has set to 1 in the present cycle, as address and bit (R9). -/
  hwSet : List (Nat × Nat)
  /-- The answer of the last bus write: true if the address answered with an error (R492). -/
  busError : Bool
  /-- The word returned by the last command that reads (MTIME_LO_READ, PLIC_CLAIM, LOG_READ_LATCH). -/
  answer : Word
  /-- The counter of free values. The MODEL's own field, not the spec's (log entry 3). -/
  free : Nat
  deriving DecidableEq, Repr

/-- The state: the model's clock, the waiting commands, the byte memory, the one-time-programmable fuses, and the device. -/
structure State where
  now : Nat
  pending : List Instr
  mem : Memory
  otp : Otp
  dev : Dev
  deriving DecidableEq, Repr

/-! ## Reset -/

/-- Device time is held until the end of step 6 of start-up (R373, R506). -/
def TimeSt.init : TimeSt :=
  { at_ := 0, base := 0, inc := 0, pend := none, past := [], lastCommit := 0, byHold := false, fracStaged := 0,
    trgNext := [0, 0, 0, 0], toutEnd := [0, 0, 0, 0], caps := [[], [], [], []] }

/-- The frame generator before the first load. -/
def FrmSt.init : FrmSt :=
  { t0 := 0, nextT0 := 0, firstT0 := none, tref := 0, trefNew := none, loStaged := 0, alignRun := 0, lastFc := 0,
    acqDone := false, colDone := false, delivered := [], lastT0 := 0 }

/-- The Anvil with nothing on its way. -/
def AnvSt.init : AnvSt :=
  { reqs := [], evs := [], lastSeq := 0, lastSrc := 0, lastTime := 0, ht := List.replicate 32 (0, 0),
    htSample := List.replicate 32 (0, 0), evoEnd := List.replicate 8 0, derateReq := false, derateIn := false }

/-- The loader with no image. -/
def ImgSt.init : ImgSt :=
  { run := none, next := none, nextPlace := none, stagedFrm := 0, fullWaits := false, slot := 0, hot := false, trial := [] }

/-- An engine with no work. -/
def Eng.init : Eng :=
  { todo := [], run := none, done := [], finish := 0, late := false, hadDue := false, lateRun := 0, slowHist := [], slowSeen := false, testedAt := none }

/-- No placement. -/
def Placement.empty : Placement := { tasks := [], order := List.replicate 64 [], home := [], plan := List.replicate 64 0 }

/-- The Hearth with no graph. -/
def HrtSt.init : HrtSt :=
  { graph := { rates := [], sigs := [], blks := [] }, setA := [], setB := [], rt := [], sig := [], copy := [], tap := [],
    place := Placement.empty, eng := List.replicate 64 Eng.init, comm := [], due := [], colAt := 0, rate := [], posts := [], colWords := 0,
    recFlags := 0, feExp := [], lateTasks := [], ident := [] }

/-- The Placer at rest. The rotation timer names E00 first: the engine after 63 modulo 64 (DESIGN CHOICE, log entry 89). -/
def PlcSt.init : PlcSt :=
  { migs := [], recs := [], queue := [], test := none, rotLast := 63, rotEnd := none, rotPend := false, slowDue := [], testDue := [],
    testLater := [],    hotSince := List.replicate 4 none, hot := List.replicate 4 false, excess := List.replicate 4 0, thermEnd := none, holdOff := [], unplaced := [] }

/-- No staged words, no swaps. -/
def LpSt.init : LpSt := { staged := [], swaps := [], txPar := [], txSwap := [], swapAt := List.replicate 16 0 }

/-- A sigma-delta input at reset. -/
def SdiCh.init : SdiCh := { maskEnd := 0, disturb := [], prot := false, outAt := none, stream := [], stuck := 0 }

/-- The sigma-delta block at reset. -/
def SdmSt.init : SdmSt :=
  { ch := List.replicate 96 SdiCh.init, clkLost := List.replicate 8 false, driven := false, spareFrames := 0, decAt := none,
    divAt := List.replicate 8 0 }

/-- A SAR bank of `n` slices at reset. -/
def AdcBank.init (n : Nat) : AdcBank :=
  { entry := 0, rep := 0, lastStart := none, lastEntryStart := none, num := 0, nextOut := 0, conv := [], wait := [],
    freeAt := List.replicate n 0, fact := List.replicate n (0x8000, 0, 0), darnReady := false, marked := none, group := none,
    lastGroupT0 := none, groupLate := false, results := [], urgRes := [], urgHeld := none, rotAt := 0,
    fresh := [], freshUrg := [] }

/-- The ADC block at reset. -/
def AdcSt.init : AdcSt :=
  { banks := [AdcBank.init 5, AdcBank.init 5, AdcBank.init 5, AdcBank.init 5, AdcBank.init 2], mcalEnd := none }

/-- A comparator at reset (R231). -/
def CmpCh.init : CmpCh := { raw := false, hist := [], tested := 0 }

/-- An observer at rest. -/
def Observer.init : Observer := { xh := 0, wh := 0, ah := 0, lastU := 0 }

/-- An encoder channel at reset. -/
def EncCh.init : EncCh :=
  { pinA := false, pinB := false, pinZ := false, a := false, b := false, z := false, lastUp := none, homePend := false, obs := Observer.init, steps := [], prevSpeed := 0,
    sample := { x := 0, w := 0, a := 0, p := 0, turns := 0, short := false }, serStart := none, serClk := none, serGood := [],
    serErrRun := 0, wrongSince := false, corrSince := false, fault := false, faultAck := false, faultCyc := false, loaded := none }

/-- The encoder block at reset. -/
def EncSt.init : EncSt := { ch := [EncCh.init, EncCh.init], acc := 0, eoA := false, eoB := false, eoAt := 0, eoWas := (false, false), eozEnd := 0 }

/-- A metering point at reset. -/
def MtrPt.init : MtrPt :=
  { corG := List.replicate 6 0x3F800000#32, corD := List.replicate 6 0, vhyst := 0x41200000#32, pstart := 0, pstop := 0, sumP := 0, n := 0,
    kStart := none, lastK := none, timeoutRun := true, prevV := none, below := false, lastP := 0, gapRun := false, addPend := none, snapAt := none }

/-- The metering block at reset. -/
def MtrSt.init : MtrSt :=
  { pt := List.replicate 4 MtrPt.init, vsrc := List.replicate 8 [], isrc := List.replicate 96 [] }

/-- A PWM channel at reset. -/
def PwmCh.init : PwmCh :=
  { bound := 0, next := 0, begun := false, peakDone := false, lastReload := 0, was := none, shPer := 0x00061A80#32, shU := 0, shD := 0, sets := [], lists := [],
    elStage := [], edges := [], dt := 1000, minp := 0, phase := 0, lockRun := 0, level := false, lastEdge := none, deferred := none, hi := false,
    lo := false, hiOn := none, loOn := none, ovr := 0, ovrWas := 0, ovrOff := 0 }

/-- A channel of the gate protection at reset. -/
def GdpCh.init : GdpCh :=
  { pinLow := false, pinAt := 0, det := 0, decided := false, lowAt := 0, lowDur := 0, winEnd := 0, blank := 2000, filt := 100,
    gHi := false, gLo := false, patAt := none, relAt := 0, offHi := 0, offLo := 0 }

/-- The gate protection at reset: every bridge quenched with cause 6 (the reset value of GDP_BR_STAT). -/
def GdpSt.init : GdpSt :=
  { ch := List.replicate 96 GdpCh.init, br := List.replicate 6 { reqs := [], clear := none, quenchedAt := 0, diagHold := false },
    diag := none, tdac := [0, 0, 0, 0], test := none, brIn := List.replicate 6 [1, 0, 0, 0, 0, 0x40] }

/-- An input pair at power-on of VIO_F. -/
def SinPair.init : SinPair :=
  { a := false, b := false, disagreeAt := none, demandAt := none, bothDemand := false, pressAt := none, relAt := none, resetReq := false }

/-- The safety sequencer at power-on of VIO_F: UNCONFIGURED, every function demanded, every output off. -/
def SafSt.init : SafSt :=
  { vioF := true, copy := [], next := none, nextIsCommit := false, pair := List.replicate 8 SinPair.init,
    fn := List.replicate 8 { demandAt := none, cut := false },
    out := List.replicate 4 { on := false, switchedAt := 0, pulseEnd := none, lastPulse := 0 }, staged := [], chgFirst := 0,
    selfTested := false, hashEnd := none, hashPw := [], wrongRun := 0, lockoutEnd := none, lastStage := 0, lastScan := 0, onAt := 0, bgAt := 0, injAt := 0, winAt := 0 }

/-- The Keep domain after a cold start. -/
def KeepSt.init : KeepSt :=
  { alive := true, main := true, queue := [], ring := [], unfl := [], kt := 0, ktAt := 0, burst := none, wroteAt := none, storeAt := none,
    flushReq := false, verifyRun := 0, retryAt := none, lostAtBurst := 0, lossKt := 0, refusedAtLoss := 0,
    abortAtLoss := 0, harvSince := none, harvTime := 0, coldPend := true, refusedPend := false, abortPend := false, mainSince := 0,
    storeLow := false }

/-- The recorder at reset. -/
def RecSt.init : RecSt :=
  { count := 0, idx := 0, postLeft := 0, trig := 0, trigNext := 0, sampled := 0, trigFrame := false, dropped := false, waiting := [] }

/-- A lane before detection. -/
def TwnLane.init : TwnLane := { capsRx := false, ackRx := false, beats := [], missRun := 0, lost := true, stageAt := 0, capsAt := 0 }

/-- The twin block at reset: SYNCING, OWN low. -/
def TwnSt.init : TwnSt :=
  { lane := [TwnLane.init, TwnLane.init], own := false, peerEdges := [], emptyRun := 0, seenPrev := true, pairHold := false,
    takeoverHold := false, tx := none, txCause := 0, paired := false, ea := 0, alignRun := 0, badAlign := 0, peer := none, beats := [], ownerRep := none,
    caps := none, pairable := false, blocks := [], blocksTotal := 0, mirrored := [], sweepPos := 0, sweepSeen := [],
    sweepFrames := 0, sweepDone := false, corr := [], seqs := [], txSeq := 0, handover := none, results := [],
    xCount := List.replicate 96 0, fCount := List.replicate 96 0, xMark := List.replicate 96 false, fMark := List.replicate 96 false,
    blocksDue := true, t0Hist := [], fltT0 := 0, rxResult := none, txQuench := [], ckptBad := [] }

/-- A lane of the physical layer at reset: electrical idle. -/
def LnkLane.init : LnkLane := { txIdle := true, burst := 0, pulseAt := none }

/-- An Ethernet port at reset: rings stopped. -/
def EthPort.init : EthPort :=
  { tx := none, pauseEnd := 0, pauseDue := false, attn := false, ring := List.replicate 4 { stopping := false } }

/-- Clocks at the rise of PORn: nothing runs on the PLL. -/
def ClkSt.init : ClkSt :=
  { stopped := false, canLockAt := none, started := false, startAt := 0, switching := List.replicate 5 none, blw := none, blwAt := none, refFell := none,
    sroFell := none, cpuKhz := 25000 }

/-- Temper at reset. -/
def TmpSt.init : TmpSt :=
  { sens := List.replicate 24 { hist := [], warn := false, rate := false }, last := none, since := 0, shed := false, coolSince := none, throttled := false,
    inNow := [0, 0, 0x7F7FFFFF], inT0 := [0, 0, 0x7F7FFFFF] }

/-- OTP as shipped: BLANK, nothing programmed (R460). -/
def Otp.init : Otp :=
  { lc := 0, retPend := false, keys := [none, none, none, none], revoked := 0, fwCnt := 0, imgCnt := 0, uid := 0, err := false,
    bands := List.replicate 64 0x80578258#32, startProf := [(4000000, 0x64#32)], stopProf := [(3600000, 0x64#32)] }

/-- Security at reset. -/
def SecSt.init : SecSt :=
  { blow := none, otpAt := none, chalExp := none, chalUsed := true, verifyAt := none, fails := 0, lockout := none, reqLevel := 0, reqKey := 0,
    kstage := List.replicate 24 0, resp := List.replicate 24 0, psuEn := true }

/-- A processor pair held in reset. -/
def CpuPair.init : CpuPair := { running := false, wdtFrom := 0, wdtHalf := false, wdtSet := false, vec := 0 }

/-- Processors at reset: pair MP0 runs the boot ROM (SYS_CPU_STAT's reset value). -/
def CpuSt.init : CpuSt :=
  { pair := [{ CpuPair.init with running := true }, CpuPair.init], ipend := [], iclaim := [], prio := [], enab := [], thr := [0, 0, 0, 0], mtimeHi := 0, bad := [],
    mtip := [false, false], warmAt := none, xsp := none, gpioLevel := List.replicate 32 false }

/-- Start-up at the rise of PORn. -/
def SysSt.init : SysSt :=
  { porn := true, pornAt := 0, bootSlot := 0, bootImage := none, bootOver := false, uartLast := none, recovery := false,
    refWait := none, safe := true, safeAt := 0, readied := false }

/-- The device at reset: no register differs from its reset value. -/
def Dev.init : Dev :=
  { regs := [], time := TimeSt.init, frm := FrmSt.init, anv := AnvSt.init, img := ImgSt.init, hrt := HrtSt.init, plc := PlcSt.init,
    lp := LpSt.init, sdm := SdmSt.init, adc := AdcSt.init, cmp := List.replicate 48 CmpCh.init, enc := EncSt.init, mtr := MtrSt.init,
    pwm := List.replicate 96 PwmCh.init, gdp := GdpSt.init, saf := SafSt.init, keep := KeepSt.init, rec_ := RecSt.init, twn := TwnSt.init,
    lnk := List.replicate 4 LnkLane.init, eth := [EthPort.init, EthPort.init], clk := ClkSt.init, tmp := TmpSt.init, sec := SecSt.init,
    cpu := CpuSt.init, sys := SysSt.init, sent := [], ethOut := [], uartOut := [], hwSet := [], busError := false, answer := 0, free := 0 }

/-- The machine right after reset: PORn has risen, the boot ROM has not acted; the Keep domain is cold; nothing waits. -/
def State.reset : State := { now := 0, pending := [], mem := [], otp := Otp.init, dev := Dev.init }

end Sys2Proof.Machine
end

