-- ==== Sys2Proof/Machine/Ops.lean ====
section
/-! DEFINITION. Machine/Ops.lean: the shared operations: registers, device time, requests to the Anvil, log entries, and how a
command's effect becomes the next state. -/

namespace Sys2Proof.Machine

/-! ### Registers -/

/-- Value of the register at an address: its listed value, else its reset value (R8, R508). -/
def regRead : List (Nat × Word) → Nat → Word
  | [], a => regReset a
  | (k, v) :: r, a => if a = k then v else regRead r a

/-- A value put into the list at its place. -/
def regPut : List (Nat × Word) → Nat → Word → List (Nat × Word)
  | [], a, v => [(a, v)]
  | (k, w) :: r, a, v =>
    if a < k then (a, v) :: (k, w) :: r
    else if a = k then (a, v) :: r
    else (k, w) :: regPut r a v

/-- The register list with one value changed; a value equal to the reset value is not listed. -/
def regWrite (l : List (Nat × Word)) (a : Nat) (v : Word) : List (Nat × Word) :=
  if v = regReset a then l.filter (fun p => p.1 != a) else regPut l a v

/-- The canonical form of the register list from address `lo` on. -/
def regOkFrom : Nat → List (Nat × Word) → Bool
  | _, [] => true
  | lo, (k, v) :: r => decide (lo ≤ k) && (v != regReset k) && regOkFrom (k + 1) r

/-- Value of a register. -/
def Dev.rd (d : Dev) (a : Nat) : Word := regRead d.regs a
/-- The device with a register written by hardware. -/
def Dev.wr (d : Dev) (a : Nat) (v : Word) : Dev := { d with regs := regWrite d.regs a v }
/-- A field of a register as a number. -/
def Dev.fld (d : Dev) (a hi lo : Nat) : Nat := Sys2Proof.Machine.fld (d.rd a) hi lo
/-- A bit of a register. -/
def Dev.bit (d : Dev) (a i : Nat) : Bool := tbit (d.rd a) i
/-- The device with a field of a register set. -/
def Dev.setF (d : Dev) (a hi lo v : Nat) : Dev := d.wr a (setFld (d.rd a) hi lo v)
/-- The device with a bit of a register set by hardware. A bit set to 1 is noted for the present cycle (R9). -/
def Dev.setB (d : Dev) (a i : Nat) (b : Bool) : Dev :=
  { d.wr a (setBit (d.rd a) i b) with hwSet := if b then (a, i) :: d.hwSet else d.hwSet }
/-- A counter field increased by one, saturating at its maximum. -/
def Dev.inc (d : Dev) (a hi lo : Nat) : Dev := d.setF a hi lo (satInc (d.fld a hi lo) (hi + 1 - lo))
/-- A register that holds a number. -/
def Dev.wrN (d : Dev) (a v : Nat) : Dev := d.wr a (BitVec.ofNat 32 v)
/-- A counter field increased by one that wraps. -/
def Dev.incWrap (d : Dev) (a hi lo : Nat) : Dev := d.setF a hi lo (d.fld a hi lo + 1)
/-- A 64-bit quantity in a LO and a HI register. -/
def Dev.rd64 (d : Dev) (lo hi : Nat) : Nat := (d.rd lo).toNat + 2 ^ 32 * (d.rd hi).toNat
/-- A 64-bit quantity written into a LO and a HI register. -/
def Dev.wr64 (d : Dev) (lo hi v : Nat) : Dev := (d.wrN lo v).wrN hi (v / 2 ^ 32)
/-- Drop every register of a range for which `keep` is false, so that it reads its reset value (R67, R414). -/
def Dev.resetRange (d : Dev) (lo hi : Nat) (keep : Nat → Bool) : Dev :=
  { d with regs := d.regs.filter (fun p => decide (p.1 < lo) || decide (hi ≤ p.1) || keep p.1) }

/-- The value a bus write of `v` leaves in a register that held `old`, by the access types of its fields (R8): RW fields take the written
bits, RWL fields while their lock is 0, a 1 clears a W1C bit; everything else stays. -/
def RegSpec.merge (r : RegSpec) (lock : Bool) (old v : Word) : Word :=
  let m := r.rw ||| (if lock then 0 else r.rwl)
  ((old &&& ~~~m) ||| (v &&& m)) &&& ~~~(v &&& r.w1c)

/-- The written word without the bits of the register that hardware has set in the present cycle: a 1 written to such a W1C bit does not
clear it (R9). -/
def Dev.heldBits (d : Dev) (a : Nat) (r : RegSpec) (v : Word) : Word :=
  d.hwSet.foldl (fun v p => if p.1 = a && tbit r.w1c p.2 then setBit v p.2 false else v) v

/-- The device after a bus write of a register's plain fields; an address without a register changes nothing here. -/
def Dev.rw (d : Dev) (a : Nat) (v : Word) : Dev :=
  match regSpec? a with
  | none => d
  | some r => d.wr a (r.merge (d.bit Reg.ANV_CTRL 0) (d.rd a) (d.heldBits a r v))

/-- A register write with effect only where a condition holds. -/
def onlyIf (c : Bool) (f : Dev → Dev) (d : Dev) : Dev := if c then f d else d

/-! ### Units of time -/

/-- Units of 125 ps in a fabric cycle of 2 ns. -/
def uFc : Nat := 16
/-- Units in a PWM clock of 1 ns. -/
def uNs : Nat := 8
/-- Units in a PER cycle of 5 ns. -/
def uPer : Nat := 40
/-- Units in a microsecond. -/
def uUs : Nat := 8000
/-- Units in a millisecond. -/
def uMs : Nat := 8000000
/-- Units in a second. -/
def uS : Nat := 8000000000

/-- The instant at which a bus write that completes at `x` presents: the 4th PWM clock after it (R285, R317). -/
def presentAt (x : Nat) : Nat := x / uNs * uNs + 4 * uNs

/-! ### Device time (R369) -/

/-- The count of a stretch that began at `at_` with `base` and grows by `inc` in every PER cycle, linearly within it (R369). -/
def runTime (base at_ inc x : Nat) : Nat := base + inc * (x - at_) / uPer

/-- The count of an earlier stretch at an instant: the newest stretch that had begun; before the oldest one known, that one's start. -/
def pastTime : List TimeSeg → Nat → Nat
  | [], _ => 0
  | q :: r, x => if q.at_ ≤ x || r.isEmpty then runTime q.base q.at_ q.inc x else pastTime r x

/-- Device time in 2^-32 ns at an instant: the count grows by INC in every PER cycle, linearly within it. A waiting change
counts from the start of its PER cycle; an instant before the last change that took effect lies in an earlier stretch. -/
def TimeSt.at2 (t : TimeSt) (x : Nat) : Nat :=
  match t.pend with
  | some p =>
    if p.at_ ≤ x then
      runTime ((((runTime t.base t.at_ t.inc p.at_ : Nat) : Int) + p.ofs) % 2 ^ 96).toNat p.at_ p.inc x
    else if x < t.at_ && !t.past.isEmpty then pastTime t.past x else runTime t.base t.at_ t.inc x
  | none => if x < t.at_ && !t.past.isEmpty then pastTime t.past x else runTime t.base t.at_ t.inc x

/-- The stretches that reach beyond an instant, newest first. -/
def keepPast (lo : Nat) : List TimeSeg → List TimeSeg
  | [] => []
  | q :: r => if q.at_ ≤ lo then [q] else q :: keepPast lo r

/-- A waiting change whose PER cycle has begun becomes part of the count. -/
def TimeSt.settle (t : TimeSt) (x : Nat) : TimeSt :=
  match t.pend with
  | none => t
  | some p =>
    if x < p.at_ then t
    else
      { t with at_ := p.at_, base := ((((runTime t.base t.at_ t.inc p.at_ : Nat) : Int) + p.ofs) % 2 ^ 96).toNat, inc := p.inc, pend := none
               past := keepPast (p.at_ - uMs) ({ at_ := t.at_, base := t.base, inc := t.inc } :: t.past) }

/-- An instant that no run reaches: a change of device time waits for it while the PER domain stands still. -/
def never : Nat := 2 ^ 200

/-- The start of the next PER cycle after an instant. -/
def nextPer (x : Nat) : Nat := (x / uPer + 1) * uPer

/-- Device time in 2^-32 ns. -/
def Dev.time2 (d : Dev) (x : Nat) : Nat := d.time.at2 x
/-- Device time in whole ns: the count without its fraction (R369, R374; log entry 87). -/
def Dev.ns (d : Dev) (x : Nat) : Nat := d.time.at2 x / 2 ^ 32
/-- Device time in fine units of 125 ps, rounded to the nearest (R544). -/
def Dev.fine (d : Dev) (x : Nat) : Nat := (roundDiv (d.time.at2 x * 8 : Nat) (2 ^ 32)).toNat

/-! ### Domains -/

/-- The fabric and the PER and PWM domains run: PORn is high, the main supplies are present and the clock monitor has not
stopped the domains (R412, R425). -/
def Dev.runs (d : Dev) : Bool := d.sys.porn && d.keep.main && !d.clk.stopped

/-- The root gate above a gate (R423), which is also the number of its domain (R421). -/
def gateRoot (g : Nat) : Nat :=
  if g = 5 || g = 6 then 0 else if g = 7 || g = 8 then 1 else if 9 ≤ g ∧ g ≤ 13 then 3 else if g = 14 then 4 else g

/-- What a gate serves has its clock: the gate and the one above it are on (R423), and the domain is not within a switch of its source or divider (R422). -/
def Dev.clocked (d : Dev) (g : Nat) : Bool :=
  d.bit Reg.CLK_GATE g && d.bit Reg.CLK_GATE (gateRoot g) && (nth none d.clk.switching (gateRoot g)).isNone

/-- What a gate serves runs: its domain is not stopped with the others (R412), and it has its clock. -/
def Dev.runsIn (d : Dev) (g : Nat) : Bool := d.runs && d.clocked g

/-- The Anvil accepts events: the fabric domain is neither stopped with the others (R412), nor within a switch of its source or divider
(R422), nor gated off (R38, R423). -/
def Dev.accepts (d : Dev) : Bool := d.runsIn 0

/-- Only while the domains run. -/
def Dev.live (d : Dev) (f : Dev → Dev) : Dev := if d.runs then f d else d
/-- Only while what a gate serves runs. -/
def Dev.liveIn (d : Dev) (g : Nat) (f : Dev → Dev) : Dev := if d.runsIn g then f d else d

/-! ### Requests to the Anvil (R33, R34) -/

/-- The fc boundaries that a request takes to arrive, by its origin (R34). -/
inductive Origin where
  /-- Fabric-clock blocks. -/
  | fabric
  /-- PWM clock domain. -/
  | pwm
  /-- PER, CPU and CMPCK domains; the blocks that neither R34 nor R421 names, the twin block, the lanes and the image loader among them, count as
  peripherals (DEDUCED, log entry 87). -/
  | per
  /-- Pins and unclocked paths (FLT, SIN, TIN, the clock monitor), after their own filter. -/
  | pin
  deriving DecidableEq, Repr

/-- The latency of an origin in fc. -/
def Origin.fc : Origin → Nat
  | .fabric => 1
  | .pwm => 2
  | .per => 2
  | .pin => 3

/-- The instant at which a request that rises at `x` arrives: the k-th fc boundary strictly after it (R34). -/
def arrivalOf (o : Origin) (x : Nat) : Nat := (x / uFc + o.fc) * uFc

/-- Raise a source's request at an instant, with the code and data items of its log entry. While the fabric domain is stopped the
Anvil accepts nothing (R38). Two requests of one source that arrive in one fc make one event (R33). -/
def Dev.raise (d : Dev) (o : Origin) (x src code : Nat) (data : List (Nat × Nat)) : Dev :=
  if !d.accepts then d
  else if d.anv.reqs.any (fun r => r.src == src && r.arrive == arrivalOf o x) then d
  else { d with anv := { d.anv with reqs := d.anv.reqs ++ [{ src := src, arrive := arrivalOf o x, code := code, data := data }] } }

/-! ### Processor state and memory errors (R488, R491) -/

/-- The device with its processor state changed. -/
def Dev.setCpu (d : Dev) (f : CpuSt → CpuSt) : Dev := { d with cpu := f d.cpu }
/-- An interrupt becomes pending; a request of one that is pending is merged (R488). -/
def Dev.irq (d : Dev) (id : Nat) : Dev :=
  d.setCpu fun c => if c.ipend.contains id then c else { c with ipend := insertBy (fun i => i) id c.ipend }

/-- The first 64-bit word with an uncorrectable error in a range of memory: it stands while the word holds what it held when the error was found. -/
def Dev.badIn (d : Dev) (m : Memory) (a n : Nat) : Option Nat :=
  (d.cpu.bad.find? (fun w => decide (w.1 < a + n) && decide (a < w.1 + 8) && m.bytes w.1 8 == w.2)).map (·.1)

/-- An uncorrectable error at an address: counted, its address taken, interrupt 260 (R491). -/
def Dev.memUe (d : Dev) (a : Nat) : Dev :=
  ((d.inc Reg.MEM_ECC 15 8).wr64 Reg.MEM_UE_ADDR_LO Reg.MEM_UE_ADDR_HI (a % 2 ^ 64)).irq 260

/-! ### Log entries (R440 to R442) -/

/-- Data items packed into 16 bytes from byte 0 upwards, each little-endian in its size (R441). -/
def packData (items : List (Nat × Nat)) : List Byte :=
  let bs := items.flatMap (fun p => leBytes p.1 p.2)
  (bs ++ List.replicate 16 0#8).take 16

/-- The Keep time count at an instant: it follows device time while the main supplies are present, and the Keep oscillator
without them (R439). -/
def Dev.ktNow (d : Dev) (x : Nat) : Nat := if d.keep.main then d.keep.kt else d.keep.kt + (x - d.keep.ktAt) / uNs

/-- An entry enters the queue of 512, or is lost (R442). -/
def Dev.logPut (d : Dev) (x : Nat) (e : LogEntry) : Dev :=
  if d.keep.queue.length < 512 then { d with keep := { d.keep with queue := d.keep.queue ++ [e] } }
  else
    let first := !d.bit Reg.LOG_STAT 1
    let d := (d.inc Reg.LOG_LOST 31 0).setB Reg.LOG_STAT 1 true
    if first then d.raise .per x 248 0xE100 [(4, d.fld Reg.LOG_LOST 31 0)] else d

/-- A direct entry of a block of a class (R440): its time is device time, or KT without main supplies; its sequence the next
event's number, or all ones without main supplies. -/
def Dev.logDirect (d : Dev) (x cls code : Nat) (data : List (Nat × Nat)) : Dev :=
  if !d.keep.alive then d
  else d.logPut x
    { time := if d.keep.main then d.ns x else d.ktNow x
      seq := if d.keep.main then (d.rd Reg.ANV_SEQ).toNat else 0xFFFFFFFF
      src := 0x8000 + cls, code := code, data := packData data }

/-! ### Fuses (R460 to R468) -/

/-- A fuse group to be blown. -/
inductive Fuse where
  /-- The life cycle moves forward to a state. -/
  | lifeCycle (n : Nat)
  /-- RETURN_PENDING. -/
  | retPending
  /-- A key slot is programmed with X and Y. -/
  | key (slot x y : Nat)
  /-- A key slot is revoked. -/
  | revoke (slot : Nat)
  /-- The firmware counter is raised to a value. -/
  | fwCnt (n : Nat)
  /-- The image counter is raised to a value. -/
  | imgCnt (n : Nat)
  deriving DecidableEq, Repr

/-- Fuses can only be blown: every group only grows (R460). -/
def Otp.blow (o : Otp) : Fuse → Otp
  | .lifeCycle n => { o with lc := Nat.max o.lc n }
  | .retPending => { o with retPend := true }
  | .key s x y => { o with keys := upd o.keys s (fun k => match k with | none => some (x, y) | some p => some p) }
  | .revoke s => { o with revoked := o.revoked ||| 2 ^ s }
  | .fwCnt n => { o with fwCnt := Nat.max o.fwCnt n }
  | .imgCnt n => { o with imgCnt := Nat.max o.imgCnt n }

/-! ### The effect of a command -/

/-- What a command does: the device it leaves, the bytes it stores, the fuses it blows. -/
structure Effect where
  dev : Dev
  cells : List Host.Cell
  fuses : List Fuse
  deriving DecidableEq, Repr

/-- The answer of a meaning. -/
abbrev Out := Host.Outcome State Fault Refusal

/-- The state in which a command that comes at `t` finds the block: the model's clock never runs backward, a waiting change of
device time whose PER cycle has begun has taken effect, the outputs of the command before are gone, and what hardware set in an earlier PER cycle
can be cleared again (R9; the cycle is a PER cycle of 5 ns, DESIGN CHOICE, log entry 87). -/
def State.arrive (s : State) (t : Nat) : State :=
  { s with
    now := Nat.max s.now t
    dev := { s.dev with
      time := s.dev.time.settle (Nat.max s.now t), sent := [], ethOut := [], uartOut := [], busError := false,
      hwSet := if s.now / uPer = Nat.max s.now t / uPer then s.dev.hwSet else [] } }

/-- The next state of a command: its device, its stores into memory and its fuses. -/
def State.commit (s : State) (e : Effect) : State :=
  { s with mem := s.mem.writeCells e.cells, otp := e.fuses.foldl Otp.blow s.otp, dev := e.dev }

/-- A command at `t` with a full effect. -/
def actE (t : Nat) (s : State) (f : State → Effect) : Out := .next ((s.arrive t).commit (f (s.arrive t)))

/-- A command at `t` that changes the device only. `f` is given the instant and the device. -/
def act (t : Nat) (s : State) (f : Nat → Dev → Dev) : Out :=
  actE t s (fun s1 => { dev := f s1.now s1.dev, cells := [], fuses := [] })

/-- The next free value's number, and the device that has used it. -/
def Dev.fresh (d : Dev) : Nat × Dev := (d.free, { d with free := d.free + 1 })

end Sys2Proof.Machine
end

