-- ==== Sys2Proof/Machine/Frame.lean ====
section
/-! DEFINITION. Machine/Frame.lean: the frame generator: its phases, the alignment of T0 with device time, and the commands of its
registers (R13 to R30). The T0 itself, at which every block acts, stands in Machine/FrameT0.lean. -/

namespace Sys2Proof.Machine

/-- The frame period P in fc (R13). -/
def Dev.P (d : Dev) : Nat := d.fld Reg.FRM_PERIOD 14 0
/-- Frames run (FRM_STAT.RUNNING). -/
def Dev.running (d : Dev) : Bool := d.bit Reg.FRM_STAT 3
/-- FRM_COUNT. -/
def Dev.frame (d : Dev) : Nat := (d.rd Reg.FRM_COUNT).toNat
/-- The distance of a frame count from an earlier one, modulo 2^32. -/
def frmSince (now k : Nat) : Nat := (now + 2 ^ 32 - k % 2 ^ 32) % 2 ^ 32
/-- The later of two frame counts that lie close together, over the wrap of FRM_COUNT. -/
def laterFrm (a b : Nat) : Nat := if frmSince a b < 2 ^ 31 then a else b
/-- FRM_CTRL.ALIGN_EN. -/
def Dev.alignEn (d : Dev) : Bool := d.bit Reg.FRM_CTRL 1
/-- The fc of the present frame at an instant. -/
def Dev.fcOf (d : Dev) (x : Nat) : Nat := (x - d.frm.t0) / uFc
/-- The instant at which an fc of the present frame begins. -/
def Dev.fcAt (d : Dev) (k : Nat) : Nat := d.frm.t0 + k * uFc
/-- The power state (PWR_STAT.STATE, R469). -/
def Dev.power (d : Dev) : Nat := d.fld Reg.PWR_STAT 2 0
/-- RUN_ARMED. -/
def Dev.armed (d : Dev) : Bool := d.power == 2
/-- The pair state (TWN_STAT.PAIR, R327). -/
def Dev.pair (d : Dev) : Nat := d.fld Reg.TWN_STAT 31 29
/-- The chip is owner (TWN_STAT.OWNER). -/
def Dev.owner (d : Dev) : Bool := d.bit Reg.TWN_STAT 28
/-- An image runs (IMG_STAT.LOADED). -/
def Dev.loaded (d : Dev) : Bool := d.bit Reg.IMG_STAT 4

/-! ### Ready to arm (R471, R507, R510) -/

/-- The cause for which ARM is refused, 0 for none (R471). -/
def Dev.armCause (d : Dev) : Nat :=
  if d.pair != 1 && d.pair != 2 then 1
  else if !d.loaded || !d.running || d.fld Reg.IMG_STAT 3 0 == 4 then 2
  else if d.fld Reg.DBG_STAT 31 30 == 2 then 3
  else if d.fld Reg.SEC_LC 1 0 == 0 || d.fld Reg.SEC_LC 1 0 == 3 then 4
  else if d.fld Reg.TMP_STAT 2 0 == 3 then 5
  else 0

/-- SYS_BOOT.READY (R507). -/
def Dev.ready (d : Dev) : Bool := d.bit Reg.SYS_BOOT 30 && d.armCause == 0

/-- SYS_BOOT.STEP once step 10 has ended: 11 with a pair state other than SYNCING, 12 with DIAG_OK, 13 with READY (R499). -/
def Dev.stepNote (d : Dev) : Dev :=
  let to_ (d : Dev) (from_ : Nat) (c : Bool) : Dev := if d.fld Reg.SYS_BOOT 3 0 = from_ && c then d.setF Reg.SYS_BOOT 3 0 (from_ + 1) else d
  let d := to_ d 10 (d.pair != 0)
  let d := to_ d 11 (d.bit Reg.SYS_BOOT 30)
  to_ d 12 d.ready

/-- Milliseconds since the rise of PORn, saturating in 16 bits. -/
def Dev.bootMs (d : Dev) (x : Nat) : Nat := Nat.min ((x - d.sys.pornAt) / uMs) 0xFFFF

/-- The first READY since PORn: READY_MS and a log entry (R510). -/
def Dev.readyNote (d : Dev) (x : Nat) : Dev :=
  let d := d.stepNote
  if d.sys.readied || !d.ready then d
  else
    let d := (d.setF Reg.SYS_BOOT_MS 15 0 (d.bootMs x)).logDirect x 14 0xE300 [(2, d.bootMs x), (1, d.fld Reg.SYS_BOOT 27 27)]
    { d with sys := { d.sys with readied := true } }

/-- The phase of the frame at an fc: 0 Acquire, 1 Compute, 2 Collect, 3 Guard (R14). -/
def phaseOf (p fc : Nat) : Nat :=
  if fc < 900 then 0 else if fc + 600 < p then 1 else if fc + 88 < p then 2 else 3

/-- FRM_STAT.PHASE at an instant. -/
def Dev.phaseAt (d : Dev) (x : Nat) : Nat := if d.running then phaseOf d.P (d.fcOf x) else 0

/-- The alignment error of a device time, both in 2^-32 ns: its distance from the nearest aligned instant `t_ref + j * 2P` ns, from −P ns to below P ns;
exactly midway the later instant counts (R25). -/
def alignErr (time2 tref p : Nat) : Int :=
  let r := ((time2 : Int) - ((tref * 2 ^ 32 : Nat) : Int)) % ((2 * p * 2 ^ 32 : Nat) : Int)
  if r < ((p * 2 ^ 32 : Nat) : Int) then r else r - ((2 * p * 2 ^ 32 : Nat) : Int)

/-- An error in 2^-32 ns as a whole number of ns (R544). -/
def errNs (e : Int) : Int := roundDiv e (2 ^ 32)

/-- The correction c of Guard: e / 2 ns rounded (R544), limited to ±2 (R25). -/
def guardCorr (e : Int) : Int := clampI (-2) 2 (roundDiv e (2 ^ 33))

/-- The fc from an instant of device time (in 2^-32 ns) to the first aligned instant at or after it. -/
def fcToAligned (time2 tref p : Nat) : Nat :=
  let m : Int := 2 * p * 2 ^ 32
  let r := (((tref : Int) * 2 ^ 32 - (time2 : Int)) % m).toNat
  ceilDiv r (2 ^ 33)

/-- CLR_LAT (R23): FRM_LAT.MAX_FC clears. -/
def execClrLat (t : Nat) (s : State) : Out :=
  act t s fun _ d => d.live fun d => d.setF Reg.FRM_LAT 15 0 0

/-- A write of ALIGN_EN (R26, R29): written to 0, ALIGNED becomes 0 without an event; written from 0 to 1, the run of 16 frames starts
afresh. -/
def Dev.wrAlignEn (d : Dev) (en : Bool) : Dev :=
  let was := d.alignEn
  let d := d.setB Reg.FRM_CTRL 1 en
  if was && !en then { d.setB Reg.FRM_STAT 4 false with frm := { d.frm with alignRun := 0 } }
  else if !was && en then { d with frm := { d.frm with alignRun := 0 } }
  else d

/-- ALIGN_EN_WRITE (R26, R29). -/
def execAlignEnWrite (t : Nat) (en : Bool) (s : State) : Out := act t s fun _ d => d.live fun d => d.wrAlignEn en

/-- A write of FRM_PHASE_LO (R30): the low word is staged. -/
def Dev.wrPhaseLo (d : Dev) (v : Word) : Dev :=
  let d := d.wr Reg.FRM_PHASE_LO v
  { d with frm := { d.frm with loStaged := v } }

/-- FRM_PHASE_LO_WRITE (R30). -/
def execFrmPhaseLoWrite (t : Nat) (v : Word) (s : State) : Out := act t s fun _ d => d.live fun d => d.wrPhaseLo v

/-- A write of FRM_PHASE_HI (R30): both words are committed; the new t_ref applies from the next T0. -/
def Dev.wrPhaseHi (d : Dev) (v : Word) : Dev :=
  let d := d.wr Reg.FRM_PHASE_HI v
  { d with frm := { d.frm with trefNew := some (d.frm.loStaged.toNat + 2 ^ 32 * v.toNat) } }

/-- FRM_PHASE_HI_WRITE (R30). -/
def execFrmPhaseHiWrite (t : Nat) (v : Word) (s : State) : Out := act t s fun _ d => d.live fun d => d.wrPhaseHi v

/-- A write of 1 to HARD_ALIGN (R27): Guard of the present frame is extended to the first aligned instant at least 88 fc after Collect; refused in
RUN_ARMED; without effect while no frames run. A t_ref that FRM_PHASE_HI has committed applies from the next T0, so the aligned instant is one of the t_ref in
force (DEDUCED from R30, log entry 87). -/
def Dev.hardAlign (d : Dev) : Dev :=
  if !d.running then d
  else if d.armed then d.setB Reg.FRM_STAT 6 true
  else
    let least := d.fcAt d.P
    let ext := Nat.min (fcToAligned (d.time2 least) d.frm.tref d.P) (d.P - 1)
    { d with frm := { d.frm with nextT0 := least + ext * uFc } }

/-- HARD_ALIGN (R27). -/
def execHardAlign (t : Nat) (s : State) : Out := act t s fun _ d => d.live fun d => d.hardAlign

end Sys2Proof.Machine
end

