-- ==== Sys2Proof/Machine/Sdm.lean ====
section
/-! DEFINITION. Machine/Sdm.lean: the sigma-delta inputs: data and protection filters, settle masks, supervision of the bitstreams and the
spare filter pair (R205 to R216). -/

namespace Sys2Proof.Machine

/-- Sums of every `n` consecutive terms: one stage of a sinc filter. -/
def boxcar (n : Nat) (l : List Int) : List Int :=
  (List.range (l.length + 1 - n)).map (fun i => ((l.drop i).take n).foldl (· + ·) 0)

/-- A bit of 1 counts as +1 and a bit of 0 as −1 (R206). -/
def bitVal (b : Bool) : Int := if b then 1 else -1

/-- The sum of a sinc3 filter of ratio `n` over 3n − 2 bits (R207). -/
def sinc3 (n : Nat) (bits : List Bool) : Int := (boxcar n (boxcar n (boxcar n (bits.map bitVal)))).headD 0

/-- The sum of a sinc2 filter of ratio `m` over 2m − 1 bits (R210). -/
def sinc2 (m : Nat) (bits : List Bool) : Int := (boxcar m (boxcar m (bits.map bitVal))).headD 0

/-- CLK of an input. -/
def Dev.sdiClk (d : Dev) (n : Nat) : Nat := d.fld (Reg.SDM_CH_CFG n) 28 26
/-- EN of an input. -/
def Dev.sdiEn (d : Dev) (n : Nat) : Bool := d.bit (Reg.SDM_CH_CFG n) 31
/-- DOSR of an input. -/
def Dev.sdiN (d : Dev) (n : Nat) : Nat := d.fld (Reg.SDM_CH_CFG n) 14 6
/-- POSR of an input. -/
def Dev.sdiM (d : Dev) (n : Nat) : Nat := d.fld (Reg.SDM_CH_CFG n) 5 0
/-- The bit time T of an input in units: DIV PWM clocks of 1 ns (R208). -/
def Dev.sdiT (d : Dev) (n : Nat) : Nat := d.fld (Reg.SDM_CLK_CFG (d.sdiClk n)) 6 0 * uNs
/-- The settle time S = (2M + 3) T in units (R211). -/
def Dev.sdiS (d : Dev) (n : Nat) : Nat := (2 * d.sdiM n + 3) * d.sdiT n

/-- An input. -/
def Dev.sdi (d : Dev) (n : Nat) : SdiCh := nth SdiCh.init d.sdm.ch n
/-- The device with one input changed. -/
def Dev.setSdi (d : Dev) (n : Nat) (f : SdiCh → SdiCh) : Dev := { d with sdm := { d.sdm with ch := updN 96 SdiCh.init d.sdm.ch n f } }

/-- The delivered value GAIN × (x − OFFSET) of a filter sum over its full scale (R207). The normalised output is rounded to FP32 once. -/
def Dev.sdiValue (d : Dev) (n : Nat) (sum : Int) (full : Nat) : F32 :=
  Fp.mul (d.rd (Reg.SDM_CH_GAIN n)) (Fp.sub (Fp.ofRat sum full) (d.rd (Reg.SDM_CH_OFFSET n)))

/-- SDM_STAT.SETTLE: an input is masked (R211). -/
def Dev.sdmSettle (d : Dev) (x : Nat) : Dev := d.setB Reg.SDM_STAT 4 (d.sdm.ch.any (fun c => decide (x < c.maskEnd)))

/-- The settle mask of an input starts (R211): its protection comparator is inactive for S. -/
def Dev.sdiMask (d : Dev) (x n : Nat) : Dev :=
  let s := d.sdiS n
  (d.setSdi n (fun c =>
    { c with maskEnd := x + s, disturb := x :: c.disturb.filter (fun m => decide (x ≤ m + 200 * uUs)), prot := false, outAt := none })).sdmSettle x

/-- The masks of every enabled input on a clock start. -/
def Dev.sdcMask (d : Dev) (x c : Nat) : Dev :=
  (List.range 96).foldl (fun d n => if d.sdiEn n && d.sdiClk n == c then d.sdiMask x n else d) d

/-- The masks of every enabled input start: every clock switches between the chip's divider and the pin (R205, R211). -/
def Dev.sdmDrive (d : Dev) (x : Nat) (on : Bool) : Dev :=
  if d.sdm.driven == on then d
  else
    let d := { d with sdm := { d.sdm with driven := on, clkLost := if on then List.replicate 8 false else d.sdm.clkLost } }
    (List.range 8).foldl (fun d c => if d.bit (Reg.SDM_CLK_CFG c) 31 then d.sdcMask x c else d) d

/-- Is an input's clock lost (R214)? -/
def Dev.sdiLost (d : Dev) (n : Nat) : Bool := nth false d.sdm.clkLost (d.sdiClk n)

/-- The centre of the frame-mode output for a T0 (R208): of the 3N − 2 bits, as near to T0 as the sample instants allow, a sample instant where their number is odd, else the
midpoint between two. The samples follow the rising edges of the chip's own divider by SAMPLE_DLY; the phase of a received clock is open. -/
def Dev.sdiCentre (d : Dev) (n t0 : Nat) : Nat :=
  let t := d.sdiT n
  if d.sdm.driven then
    let a := nth 0 d.sdm.divAt (d.sdiClk n) + d.fld (Reg.SDM_CH_CFG n) 25 19 * uNs + (if d.sdiN n % 2 = 0 then t / 2 else 0)
    ((a : Int) + roundDiv ((t0 : Int) - a) t * t).toNat
  else t0 - t / 2 + Sys2Proof.Config.sdiCentre n t0 % (t / uNs + 1) * uNs

/-- Does the window that ends at `e` contain a disturbing moment (R211)? -/
def Dev.sdiDisturbed (d : Dev) (n e : Nat) : Bool :=
  let w := (3 * d.sdiN n - 2) * d.sdiT n
  (d.sdi n).disturb.any (fun m => decide (e ≤ m + w) && decide (m ≤ e))

/-- The chip's own divider of a clock starts anew (R205): its first rising edge comes within a period, at a phase the spec leaves open (log entry 92). -/
def Dev.divStart (d : Dev) (x c : Nat) : Dev :=
  let at_ := x + Sys2Proof.Config.sdcStart c x % Nat.max 1 (d.fld (Reg.SDM_CLK_CFG c) 6 0) * uNs
  { d with sdm := { d.sdm with divAt := updN 8 0 d.sdm.divAt c (fun _ => at_) } }

/-- The level of the chip's own divider of a clock: each period of DIV PWM clocks is high for ⌈DIV/2⌉ of them (R205); low before its first rising edge. -/
def Dev.divLevel (d : Dev) (x c : Nat) : Bool :=
  let div := d.fld (Reg.SDM_CLK_CFG c) 6 0
  let a := nth 0 d.sdm.divAt c
  d.bit (Reg.SDM_CLK_CFG c) 31 && decide (a ≤ x) && decide ((x - a) % (div * uNs) < ceilDiv div 2 * uNs)

/-- May an output window of a stream-mode input end at `x` (R209)? After an output every N bits; the first one after the phase was set has its centre within half a bit of
the first T0 and a multiple of N bits. On a received clock N bits have passed within one bit of N × T by the chip's own clock; before a first T0 the phase is open
(DEDUCED, log entry 92). -/
def Dev.streamDue (d : Dev) (x n : Nat) : Bool :=
  let t := d.sdiT n
  let nt := d.sdiN n * t
  match (d.sdi n).outAt, d.sdm.decAt with
  | some l, _ => if d.sdm.driven then decide (l < x) && decide ((x - l) % nt = 0) else decide (l + nt ≤ x + t)
  | none, none => true
  | none, some t0 =>
    let off := ((2 * x : Int) - ((3 * d.sdiN n - 3) * t + 2 * t0 : Nat)) % (2 * nt : Nat)
    decide (off ≤ t) || decide ((2 * nt : Nat) - off ≤ t)

/-- A list of source samples with one more, newest first. Samples older than 400 µs are dropped: an interpolation at t_k + 200 µs reaches back
at most 280 µs and 60 µs more (R263, R264). -/
def srcPut (l : List SrcSample) (q : SrcSample) : List SrcSample := q :: l.takeWhile (fun r => decide (q.time ≤ r.time + 400000 * 2 ^ 32))

/-- A source sample of an SDI input for the metering points, at its centre (R262). -/
def Dev.mtrSdi (d : Dev) (n centre : Nat) (v : F32) (bad : Bool) : Dev :=
  { d with mtr := { d.mtr with isrc := updN 96 [] d.mtr.isrc n (fun l => srcPut l { time := d.time2 centre, val := v, bad := bad }) } }

/-- A source sample of a bank M channel for the metering points, at its start instant (R262). -/
def Dev.mtrMin (d : Dev) (ch start : Nat) (v : F32) : Dev :=
  { d with mtr := { d.mtr with vsrc := updN 8 [] d.mtr.vsrc ch (fun l => srcPut l { time := d.time2 start, val := v, bad := false }) } }

/-- The bits of a window are not all equal: a run of equal bits that came before has ended in it. -/
def bitsChange (bits : List Bool) : Bool := bits.any (· == true) && bits.any (· == false)

/-- A mismatch of the spare pair with the input it checks (R215): it takes the input's place for good. -/
def Dev.spareMismatch (d : Dev) (x n : Nat) : Dev :=
  if !d.bit Reg.SDM_SPARE 15 || d.bit Reg.SDM_SPARE 31 || d.fld Reg.SDM_SPARE 6 0 != n || !d.sdiEn n then d
  else ((d.setB Reg.SDM_SPARE 31 true).setB Reg.SDM_STAT 3 true).raise .pwm x 239 0xC107 [(1, n)]

/-- SDI_STREAM_OUTPUT (R209, R215): a stream-mode output over the 3N − 2 bits that end now; it is kept for the frame and offered to the
metering points at its centre. The spare pair compares it unless it is disturbed. -/
def execSdiStreamOutput (t : Nat) (n : Fin 96) (w : SdiWindow) (s : State) : Out :=
  act t s fun x d => d.liveIn 8 fun d =>
    let n := n.val
    if !d.sdiEn n || !d.bit (Reg.SDM_CH_CFG n) 29 || d.sdiLost n || !d.streamDue x n then d
    else
      let v := d.sdiValue n (sinc3 (d.sdiN n) w.bits) (d.sdiN n ^ 3)
      let bad := d.sdiDisturbed n x
      let centre := x - (3 * d.sdiN n - 3) * d.sdiT n / 2
      let d := d.setSdi n (fun c => { c with stream := (c.stream ++ [(x, v, bad)]).drop (c.stream.length - 63), outAt := some x })
      let d := d.mtrSdi n centre v (bad || (d.sdi n).stuck != 0)
      let d := d.setSdi n (fun c => { c with stuck := if c.stuck = 2 && bitsChange w.bits then 1 else c.stuck })
      if w.spareDiffers && !bad then d.spareMismatch x n else d

/-- The protection comparator of an input (R210): |GAIN × (y − OFFSET)| > PLIM, while PROT_EN is 1, the input enabled and not masked, and its clock
not lost (R214). -/
def Dev.sdiProt (d : Dev) (x n : Nat) (bits : List Bool) : Bool :=
  d.sdiEn n && d.bit (Reg.SDM_CH_CFG n) 30 && !decide (x < (d.sdi n).maskEnd) && !d.sdiLost n &&
    Fp.gt (Fp.abs (d.sdiValue n (sinc2 (d.sdiM n) bits) (d.sdiM n ^ 2))) (d.rd (Reg.SDM_CH_PLIM n))

/-- SDC_CLOCK_LOSS (R214): in STANDBY a received, enabled clock shows no rising edge for 1 µs. The comparators of its inputs become inactive. -/
def execSdcClockLoss (t : Nat) (c : Fin 8) (s : State) : Out :=
  act t s fun x d => d.liveIn 8 fun d =>
    if d.pair == 3 && d.bit (Reg.SDM_CLK_CFG c.val) 31 && !d.sdm.driven && !nth false d.sdm.clkLost c.val then
      let d := { d with sdm := { d.sdm with clkLost := updN 8 false d.sdm.clkLost c.val (fun _ => true) } }
      let d := (List.range 96).foldl (fun d n => if d.sdiClk n == c.val then d.setSdi n (fun h => { h with prot := false }) else d) d
      (d.setB Reg.SDM_STAT 2 true).raise .pwm x 233 0xC101 [(1, c.val)]
    else d

/-- SDC_CLOCK_RETURN (R211): the first edge after a loss starts the settle mask of the inputs on that clock. -/
def execSdcClockReturn (t : Nat) (c : Fin 8) (s : State) : Out :=
  act t s fun x d => d.liveIn 8 fun d =>
    if nth false d.sdm.clkLost c.val then
      let d := { d with sdm := { d.sdm with clkLost := updN 8 false d.sdm.clkLost c.val (fun _ => false) } }
      d.sdcMask x c.val
    else d

/-- STUCK_BITSTREAM (R213): an enabled input delivers STUCK_LEN equal bits. -/
def execStuckBitstream (t : Nat) (n : Fin 96) (s : State) : Out :=
  act t s fun x d => d.liveIn 8 fun d =>
    let n := n.val
    if !d.sdiEn n || d.fld (Reg.SDM_CLK_CFG (d.sdiClk n)) 23 16 == 0 then d
    else
      let d := (d.setB (Reg.SDM_FAULT (n / 32)) (n % 32) true).setB Reg.SDM_STAT 1 true
      let d := d.setSdi n (fun c => { c with stuck := 2 })
      d.raise .pwm x 232 0xC100 [(1, n), (1, d.sdiClk n)]

/-- The enabled input after `n` in ascending number, modulo 96. -/
def Dev.nextSdi (d : Dev) (n : Nat) : Option Nat := ((List.range 96).map (fun i => (n + 1 + i) % 96)).find? d.sdiEn

/-- SPARE_FILTER_MOVE (R215): after 256 frames on an input, or when that input is no longer enabled, the spare pair moves to the next enabled input; not while EN is 0 or once
it has replaced an input's filters. -/
def execSpareFilterMove (t : Nat) (s : State) : Out :=
  act t s fun _ d => d.liveIn 8 fun d =>
    if !d.bit Reg.SDM_SPARE 15 || d.bit Reg.SDM_SPARE 31 || (d.sdiEn (d.fld Reg.SDM_SPARE 6 0) && decide (d.sdm.spareFrames < 256)) then d
    else match d.nextSdi (d.fld Reg.SDM_SPARE 6 0) with
      | none => d
      | some m => { d.setF Reg.SDM_SPARE 6 0 m with sdm := { d.sdm with spareFrames := 0 } }

/-- SETTLE_MASK_END (R211): the settle time has passed. -/
def execSettleMaskEnd (t : Nat) (n : Fin 96) (s : State) : Out :=
  act t s fun x d => d.liveIn 8 fun d =>
    (d.setSdi n.val (fun c => if c.maskEnd ≤ x then { c with maskEnd := 0 } else c)).sdmSettle x

/-- What an SDI input delivers to the frame (R208, R209): in frame mode the output over the given bits, in stream mode the newest output whose
window ended by T0 + 1,560 ns. The flags are those of R232. -/
def Dev.sdiSample (d : Dev) (n : Nat) (bits : List Bool) : Option (F32 × Nat × Bool) :=
  if !d.sdiEn n || d.sdiLost n then none
  else
    let c := d.sdi n
    let sub := b2n (d.bit Reg.SDM_SPARE 31 && d.fld Reg.SDM_SPARE 6 0 == n)
    let st := b2n (c.stuck != 0)
    if d.bit (Reg.SDM_CH_CFG n) 29 then
      match (c.stream.filter (fun p => decide (p.1 ≤ d.frm.t0 + 1560 * uNs))).getLast? with
      | none => none
      | some p => some (p.2.1, st + 2 * b2n p.2.2 + 4 * sub, p.2.2)
    else
      let bad := d.sdiDisturbed n (d.sdiCentre n d.frm.t0 + (3 * d.sdiN n - 3) * d.sdiT n / 2)
      some (d.sdiValue n (sinc3 (d.sdiN n) bits) (d.sdiN n ^ 3), st + 2 * b2n bad + 4 * sub, bad)

/-- A delivery ends the stuck flag of a run that ended in the frame (R213): in frame mode the window's bits show it. -/
def Dev.sdiTaken (d : Dev) (n : Nat) (bits : List Bool) : Dev :=
  let stream := d.bit (Reg.SDM_CH_CFG n) 29
  d.setSdi n (fun c => { c with stuck := if c.stuck = 1 || (!stream && bitsChange bits) then 0 else c.stuck })

/-- At a T0 the spare pair has checked its enabled input for one more frame (R215). The first T0 after a load sets the decimation phase (R209). -/
def Dev.sdmT0 (d : Dev) (t0 : Nat) (first : Bool) : Dev :=
  let d := if first then { d with sdm := { d.sdm with decAt := some t0, ch := d.sdm.ch.map (fun c => { c with outAt := none }) } } else d
  if d.bit Reg.SDM_SPARE 15 && !d.bit Reg.SDM_SPARE 31 && d.sdiEn (d.fld Reg.SDM_SPARE 6 0) then
    { d with sdm := { d.sdm with spareFrames := d.sdm.spareFrames + 1 } }
  else d

end Sys2Proof.Machine
end

