-- ==== Sys2Proof/Machine/Adc.lean ====
section
/-! DEFINITION. Machine/Adc.lean: the SAR banks A to D and M: sequencer, SYNC groups, Darning rotation, bank M calibration and urgent
requests (R216 to R227). -/

namespace Sys2Proof.Machine

/-- Units of a conversion: 200 ns (R217). -/
def convTime : Nat := 200 * uNs

/-- A bank. -/
def Dev.bank (d : Dev) (b : Nat) : AdcBank := nth (AdcBank.init 5) d.adc.banks b
/-- The device with one bank changed. -/
def Dev.setBank (d : Dev) (b : Nat) (f : AdcBank → AdcBank) : Dev := { d with adc := { d.adc with banks := updN 5 (AdcBank.init 5) d.adc.banks b f } }
/-- Channels of a bank (R217). -/
def adcChans (b : Nat) : Nat := if b < 4 then 12 else 8
/-- Slices of a bank (R217). -/
def adcSlices (b : Nat) : Nat := if b < 4 then 5 else 2
/-- Global number of a bank's channel (R217). -/
def adcChan (b ch : Nat) : Nat := 12 * b + ch
/-- The bank of a global channel. -/
def adcBankOf (c : Nat) : Nat := if c < 48 then c / 12 else 4
/-- The Darning slice, 7 for none. -/
def Dev.darning (d : Dev) (b : Nat) : Nat := d.fld (Reg.ADC_SLICE b) 18 16
/-- FAULTED of a slice. -/
def Dev.sliceFaulted (d : Dev) (b s : Nat) : Bool := d.bit (Reg.ADC_SLICE b) (19 + s)
/-- A bank has a faulted slice. -/
def Dev.bankFaulted (d : Dev) (b : Nat) : Bool := d.fld (Reg.ADC_SLICE b) 23 19 != 0
/-- The slices of a bank in service. -/
def Dev.inService (d : Dev) (b : Nat) : List Nat :=
  (List.range (adcSlices b)).filter (fun s => s != d.darning b && !d.sliceFaulted b s)
/-- Spacing s in ns for k slices in service (R219). -/
def spacingNs (k : Nat) : Nat := ceilDiv (ceilDiv 200 k) 10 * 10
/-- SEQ_EN of a bank. -/
def Dev.seqEn (d : Dev) (b : Nat) : Bool := d.bit (Reg.ADC_CTRL b) 31
/-- LEN of a bank's table. -/
def Dev.seqLen (d : Dev) (b : Nat) : Nat := d.fld (Reg.ADC_CTRL b) 21 16

/-- An entry of a sequencer table: SYNC, CH, REPEAT, DELAY. -/
structure SeqEntry where
  sync : Bool
  ch : Nat
  rep : Nat
  delay : Nat
  deriving DecidableEq, Repr

/-- Entry of a register word. -/
def seqEntryOf (w : Word) : SeqEntry := { sync := tbit w 31, ch := fld w 27 24, rep := fld w 23 16, delay := fld w 15 0 }
/-- Entry `e` of a bank's table. -/
def Dev.seqEntry (d : Dev) (b e : Nat) : SeqEntry := seqEntryOf (d.rd (Reg.ADC_SEQ b e))
/-- Entries 0 to LEN of a bank. -/
def Dev.seqTable (d : Dev) (b : Nat) : List SeqEntry := (List.range (d.seqLen b + 1)).map (d.seqEntry b)

/-- The SYNC group that starts at the head of a table tail: the run of entries with SYNC = 1 (R220). -/
def syncRun (l : List SeqEntry) : List SeqEntry := l.takeWhile (·.sync)
/-- Number G of a group's conversions (R220). -/
def groupSize (l : List SeqEntry) : Nat := sumOf (l.map (fun e => e.rep + 1))
/-- Number of SYNC groups of a table. -/
def groupCount : Bool → List SeqEntry → Nat
  | _, [] => 0
  | prev, e :: r => (if e.sync && !prev then 1 else 0) + groupCount e.sync r
/-- No element of a list of numbers occurs twice. -/
def noDup : List Nat → Bool
  | [] => true
  | x :: xs => !xs.contains x && noDup xs

/-- The conditions of R216 on a table that runs. -/
def seqTableOk (b : Nat) (l : List SeqEntry) : Bool :=
  let g := l.filter (·.sync)
  l.all (fun e => decide (e.ch < adcChans b)) && decide (groupCount false l ≤ 1) && noDup (g.map (·.ch)) &&
    g.dropLast.all (fun e => e.delay == 0) && decide ((groupSize g - 1) * spacingNs (if b < 4 then 4 else 2) ≤ 3040)

/-- The conditions of R216 on one bank: on ROT_MS while its rotation is enabled (bank M takes no part in rotation, R225), on its table while it runs. -/
def Dev.adcBankOk (d : Dev) (b : Nat) : Bool :=
  (b == 4 || !d.bit (Reg.ADC_CTRL b) 30 || (decide (10 ≤ d.fld (Reg.ADC_CTRL b) 15 0) && decide (d.fld (Reg.ADC_CTRL b) 15 0 ≤ 10000)))
    && (!d.seqEn b || seqTableOk b (d.seqTable b))

/-- Conversions of a bank on a slice. -/
def AdcBank.busy (k : AdcBank) (s : Nat) : Bool := k.conv.any (fun c => c.slice == s)
/-- The in-service slice that has been free longest, ties to the lower number (R219). -/
def Dev.freeSlice (d : Dev) (b : Nat) : Option Nat :=
  minBy? (fun s => nth 0 (d.bank b).freeAt s) ((d.inService b).filter (fun s => !(d.bank b).busy s))

/-- Spacing s of a bank in units. -/
def Dev.spacing (d : Dev) (b : Nat) : Nat := spacingNs (d.inService b).length * uNs

/-- A conversion of the present entry starts on a slice; the sequencer moves on. -/
def Dev.seqStart (d : Dev) (b x slice : Nat) (sync : Option Nat) : Dev :=
  let k := d.bank b
  let e := d.seqEntry b k.entry
  let endOf := decide (e.rep ≤ k.rep)
  d.setBank b fun k =>
    { k with
      conv := k.conv ++ [{ slice := slice, ch := e.ch, start := x, entry := k.entry, num := k.num, sync := sync, drop := false }]
      num := k.num + 1, lastStart := some x
      entry := if endOf then (if k.entry < d.seqLen b then k.entry + 1 else 0) else k.entry
      rep := if endOf then 0 else k.rep + 1
      lastEntryStart := if endOf then some x else k.lastEntryStart }

/-- May a sequencer start happen now under the spacing and delay rules (R219)? -/
def Dev.spacingOk (d : Dev) (b x : Nat) : Bool :=
  let k := d.bank b
  let s := d.spacing b
  (match k.lastStart with | none => true | some l => decide (l + s ≤ x)) &&
    (k.rep != 0 || (match k.lastEntryStart with
      | none => true
      | some l => decide (l + s + (d.seqEntry b k.entry).delay * 10 * uNs ≤ x)))

/-- An urgent conversion of a bank-local channel starts on a slice (R226). -/
def Dev.urgGo (d : Dev) (x b ch sl : Nat) : Dev :=
  d.setBank b fun k => { k with conv := { slice := sl, ch := ch, start := x, entry := 64, num := 0, sync := none, drop := false } :: k.conv, urgHeld := none }

/-- The held urgent request starts if it may (R226): 10 ns after its arrival, outside a SYNC group and, on bank M, a calibration, it takes a free slice; else it aborts the
conversion that started most recently, which starts again after it on the same slice. -/
def Dev.urgStart (d : Dev) (x b : Nat) : Dev :=
  let k := d.bank b
  match k.urgHeld with
  | none => d
  | some (ch, at_) =>
    if x < at_ + 10 * uNs || k.group != none || (b == 4 && d.adc.mcalEnd != none) then d
    else match d.freeSlice b with
      | some sl => d.urgGo x b ch sl
      | none =>
        match minBy? (fun c => x - c.start) (k.conv.filter (fun c => decide (c.start ≤ x))) with
        | none => d
        | some c =>
          (d.setBank b (fun k => { k with conv := k.conv.map (fun q => if q == c then { q with start := x + convTime } else q) })).urgGo x b ch c.slice

/-- The instant of a group's next conversion (R220): s after the last one, or the moment a slice became free where none was free then. -/
def Dev.groupDue (d : Dev) (b x sl : Nat) : Bool :=
  match (d.bank b).lastStart with
  | none => true
  | some l => x == Nat.max (l + d.spacing b) (nth 0 (d.bank b).freeAt sl)

/-- ADC_CONVERSION_START (R219, R220, R226): the sequencer's next conversion, outside a SYNC group or at its instant within one that has started, on the slice free
longest. An urgent request that is due takes its slice before. -/
def execAdcConversionStart (t : Nat) (b : Fin 5) (s : State) : Out :=
  act t s fun x d => d.liveIn 9 fun d =>
    let b := b.val
    let d := d.urgStart x b
    let k := d.bank b
    let e := d.seqEntry b k.entry
    if !d.seqEn b || !d.spacingOk b x then d
    else match d.freeSlice b with
      | none => d
      | some sl =>
        match e.sync, k.group with
        | false, none => d.seqStart b x sl none
        | false, some (_, 0) => d.seqStart b x sl none
        | true, some (t0, left) =>
          if left = 0 || !d.groupDue b x sl then d
          else (d.seqStart b x sl (some t0)).setBank b (fun k => { k with group := some (t0, left - 1) })
        | _, _ => d

/-- Is the sequencer of a bank at the head of its SYNC group, which has not started? -/
def Dev.atGroup (d : Dev) (b : Nat) : Bool :=
  let k := d.bank b
  d.seqEn b && (d.seqEntry b k.entry).sync && k.rep == 0 && k.group == none

/-- SYNC_GROUP_START (R220, R226): an urgent request that is due takes its slice before. At t_s = T0′ − (G − 1) × s / 2 of the coming T0 the group's first conversion starts; the others follow at
every s. DEDUCED (log entry 20): an instant within one PER cycle of t_s counts as t_s. -/
def execSyncGroupStart (t : Nat) (b : Fin 5) (s : State) : Out :=
  act t s fun x d => d.liveIn 9 fun d =>
    let b := b.val
    let d := d.urgStart x b
    let k := d.bank b
    let g := groupSize (syncRun ((d.seqTable b).drop k.entry))
    let half := (g - 1) * d.spacing b / 2
    let near (t0 : Nat) : Bool := decide (x ≤ t0 - half + uPer) && decide (t0 - half ≤ x + uPer)
    let t0 := if near d.frm.t0 then d.frm.t0 else d.frm.nextT0
    if !d.atGroup b || !d.spacingOk b x || !d.running || !near t0 then d
    else match d.freeSlice b with
      | none => d
      | some sl => (d.seqStart b x sl (some t0)).setBank b (fun k => { k with group := some (t0, g - 1) })

/-- The corrected code of a raw code by a slice's factors, saturated to 14 bits (R218). DEDUCED (log entry 21): (raw − OFS/16) ×
GAIN/0x8000, rounded. -/
def correctCode (gain : Nat) (ofs raw : Int) : Int :=
  clampI (-8192) 8191 (roundDiv ((16 * raw - ofs) * (gain : Int)) (16 * 0x8000))

/-- The delivered value GAIN × (code − OFFSET) of a mean code (R218, R222). -/
def Dev.adcValue (d : Dev) (c : Nat) (sum : Int) (n : Nat) : F32 :=
  Fp.mul (d.rd (Reg.ADC_CH_GAIN c)) (Fp.sub (Fp.ofRat sum n) (d.rd (Reg.ADC_CH_OFFSET c)))

/-- The data word of a result. -/
def adcDataWord (code : Int) (exceeds sync urg : Bool) : Nat :=
  2 ^ 31 + b2n exceeds * 2 ^ 30 + b2n sync * 2 ^ 29 + b2n urg * 2 ^ 28 + ofSigned 14 code

/-- The kept results with one more: of every channel the newest 64. -/
def keepRes (l : List AdcRes) (r : AdcRes) : List AdcRes :=
  r :: (((l.filter (fun q => q.ch == r.ch)).take 63) ++ l.filter (fun q => q.ch != r.ch))

/-- A SYNC frame of a bank is missed (R221). -/
def Dev.syncMiss (d : Dev) (x b n : Nat) : Dev := (d.setB Reg.ADC_STAT 4 true).raise .per x 238 0xC106 [(1, b), (4, n)]

/-- A sequencer result leaves the bank (R219, R221). -/
def Dev.adcLeave (d : Dev) (b x : Nat) (r : AdcRes) : Dev :=
  let d := d.wrN (Reg.ADC_CH_DATA (adcChan b r.ch)) (adcDataWord r.code r.exceeds (r.sync != none) false)
  d.setBank b fun k => { k with results := keepRes k.results { r with left := x }, fresh := if k.fresh.contains r.ch then k.fresh else r.ch :: k.fresh }

/-- Results leave in the order of their dispatch as long as the next one is there (R219). -/
def Dev.adcDrain : Nat → Nat → Nat → Dev → Dev
  | 0, _, _, d => d
  | fuel + 1, b, x, d =>
    let k := d.bank b
    match k.wait.find? (fun p => p.1 == k.nextOut) with
    | none => d
    | some p =>
      let d := d.setBank b (fun k => { k with wait := k.wait.filter (fun q => q.1 != p.1), nextOut := k.nextOut + 1 })
      Dev.adcDrain fuel b x (d.adcLeave b x p.2)

/-- The end of a SYNC group, when none of its conversions is left (R220, R221). -/
def Dev.groupEnd (d : Dev) (b x : Nat) : Dev :=
  let k := d.bank b
  match k.group with
  | some (t0, 0) =>
    if k.conv.any (fun c => c.sync == some t0) || k.wait.any (fun p => p.2.sync == some t0) then d
    else
      let late := decide (t0 + 880 * uFc < x)
      let d := d.setBank b (fun k => { k with group := none, lastGroupT0 := some t0, groupLate := late })
      if late then d.syncMiss x b 1 else d
  | _ => d

/-- OVR of a conversion (R218). -/
def Dev.adcOver (d : Dev) (x b ch : Nat) : Dev :=
  let was := d.bit Reg.ADC_STAT 1
  let d := d.setB Reg.ADC_STAT 1 true
  if was then d else d.raise .per x 234 0xC102 [(1, b), (1, adcChan b ch)]

/-- A swap: the Darning slice replaces a slice, which becomes the Darning slice `to` (7 for none). -/
def Dev.adcSwap (d : Dev) (b x to_ : Nat) : Dev :=
  let dn := d.darning b
  let d := (d.setF (Reg.ADC_SLICE b) 18 16 to_).incWrap (Reg.ADC_SLICE b) 15 0
  d.setBank b fun k => { k with marked := none, darnReady := false, freeAt := updN (if b = 4 then 2 else 5) 0 k.freeAt dn (fun _ => x) }

/-- The swap of the marked slice with its cross-check (R224): more than 6 LSB of mean difference over 16 conversions makes both slices
convert the reference 16 times; a mean more than 6 LSB from 7,373 is a fault. Without the check there is no swap: the mark stays. -/
def Dev.darningSwap (d : Dev) (b x s : Nat) (chk : Option DarningCheck) : Dev :=
  let dn := d.darning b
  let bad (sum : Int) : Bool := decide ((sum - 16 * 7373).natAbs > 96)
  let fault (d : Dev) (l : List Nat) : Dev := l.foldl (fun d q => d.setB (Reg.ADC_SLICE b) (19 + q) true) (d.setB Reg.ADC_STAT 2 true)
  let ev (d : Dev) (cause : Nat) : Dev := d.raise .per x 235 0xC103 [(1, b), (1, s), (1, cause)]
  let stop (d : Dev) : Dev := (d.setF (Reg.ADC_SLICE b) 18 16 7).setBank b (fun k => { k with marked := none, darnReady := false })
  match chk with
  | none => d
  | some c =>
    if c.diffSum ≤ 96 then d.adcSwap b x s
    else match bad c.leaveRef, bad c.darnRef with
      | true, false => ev ((fault d [s]).adcSwap b x 7) 0
      | false, true => ev (stop (fault d [dn])) 1
      | true, true => ev (stop (fault d [s, dn])) 2
      | false, false => ev (d.adcSwap b x s) 3

/-- A result of a completed conversion is written: an urgent one at once, the sequencer's in the order of their dispatch (R219, R226). -/
def Dev.adcResult (d : Dev) (x b : Nat) (c : Conv) (code : Int) (exceeds : Bool) : Dev :=
  if c.entry = 64 then
    let d := d.wrN (Reg.ADC_CH_DATA (adcChan b c.ch)) (adcDataWord code exceeds false true)
    d.setBank b fun k => { k with urgRes := assocSet c.ch (code, exceeds) k.urgRes, freshUrg := if k.freshUrg.contains c.ch then k.freshUrg else c.ch :: k.freshUrg }
  else
    let r : AdcRes := { ch := c.ch, code := code, exceeds := exceeds, left := x, sync := c.sync }
    (Dev.adcDrain 64 b x (d.setBank b (fun k => { k with wait := k.wait ++ [(c.num, r)] }))).groupEnd b x

/-- ADC_CONVERSION_DONE (R218, R219, R223, R224, R226): the conversion on slice `sl` that has run for 200 ns completes. PEND stays while a request is held or converts. The
marked slice is swapped at a completion of any kind after which no conversion stands on it (DESIGN CHOICE, log entry 92: R223 does not speak of an aborted conversion
that waits to start again on the slice). -/
def execAdcConversionDone (t : Nat) (b : Fin 5) (sl : Nat) (raw : Int) (exceeds : Bool) (check : Option DarningCheck) (s : State) : Out :=
  act t s fun x d => d.liveIn 9 fun d =>
    let b := b.val
    match (d.bank b).conv.find? (fun c => c.slice == sl && decide (c.start + convTime ≤ x)) with
    | none => d
    | some c =>
      let f := nth (0x8000, 0, 0) (d.bank b).fact sl
      let code := correctCode f.1 f.2.1 raw
      let d := d.setBank b (fun k => { k with conv := k.conv.erase c, freeAt := updN (if b = 4 then 2 else 5) 0 k.freeAt sl (fun _ => x) })
      let d := d.setB (Reg.ADC_URG b) 15 ((d.bank b).urgHeld != none || (d.bank b).conv.any (fun q => q.entry == 64))
      let d :=
        if c.drop then d
        else
          let d := if exceeds then d.adcOver x b c.ch else d
          let d := if b = 4 then d.mtrMin c.ch c.start (d.adcValue (adcChan b c.ch) code 1) else d
          d.adcResult x b c code exceeds
      if (d.bank b).marked == some sl && d.bit (Reg.ADC_CTRL b) 30 && (d.bank b).group == none && !(d.bank b).busy sl then d.darningSwap b x sl check else d

/-- The factors of a calibration: GAIN and OFS from the sums of 256 conversions of the short and of the reference (R223, R225). DEDUCED (log
entry 21): the shorted input reads 0 and the reference 7,373 when corrected. -/
def calFactors (zero ref : Int) : Nat × Int :=
  let span := ref - zero
  (if span ≤ 0 then 0xFFFF else (clampI 0 0xFFFF (roundDiv (0x8000 * 7373 * 256) span.toNat)).toNat, clampI (-32768) 32767 (roundDiv zero 16))

/-- DARNING_CALIBRATION_DONE (R223): the Darning slice has new factors. -/
def execDarningCalibrationDone (t : Nat) (b : Fin 4) (zero ref : Int) (s : State) : Out :=
  act t s fun x d => d.liveIn 9 fun d =>
    let b := b.val
    if !d.bit (Reg.ADC_CTRL b) 30 || d.darning b == 7 then d
    else
      let f := calFactors zero ref
      d.setBank b fun k => { k with fact := updN (if b = 4 then 2 else 5) (0x8000, 0, 0) k.fact (d.darning b) (fun _ => (f.1, f.2, x)), darnReady := true }

/-- ROT_MS of a bank in units (R223). -/
def Dev.rotTime (d : Dev) (b : Nat) : Nat := d.fld (Reg.ADC_CTRL b) 15 0 * 1000 * uUs

/-- The multiple of ROT_MS that passed last by `x` (R223). The multiples count from the start of the rotation: the rise of PORn, or the last write that set ROT_EN or changed
ROT_MS (DESIGN CHOICE, log entry 92). -/
def Dev.rotLast (d : Dev) (b x : Nat) : Nat :=
  let base := Nat.max (d.bank b).rotAt d.sys.pornAt
  base + (x - base) / Nat.max 1 (d.rotTime b) * d.rotTime b

/-- DARNING_ROTATION_DUE (R223): at a multiple of ROT_MS the in-service slice longest without calibration is marked. -/
def execDarningRotationDue (t : Nat) (b : Fin 4) (s : State) : Out :=
  act t s fun x d => d.liveIn 9 fun d =>
    let b := b.val
    let m := d.rotLast b x
    if !d.bit (Reg.ADC_CTRL b) 30 || m ≤ Nat.max (d.bank b).rotAt d.sys.pornAt then d
    else
      let d := d.setBank b (fun k => { k with rotAt := m })
      if d.darning b == 7 || d.bankFaulted b || !(d.bank b).darnReady then d
      else d.setBank b fun k => { k with marked := minBy? (fun q => (nth (0, 0, 0) k.fact q).2.2) (d.inService b) }

/-- A start of bank M's calibration (R225): refused while a metering point is enabled, bank M's sequencer runs or a calibration runs. -/
def Dev.mcalStart (d : Dev) (x : Nat) : Dev :=
    if (List.range 4).any (fun m => d.bit (Reg.MTR_MP_CFG m) 31) || d.seqEn 4 || d.bit Reg.ADC_MCAL 0 then d.setB Reg.ADC_STAT 5 true
    else { d.setB Reg.ADC_MCAL 0 true with adc := { d.adc with mcalEnd := some (x + 1800 * uUs) } }

/-- MCAL_START (R225). -/
def execMcalStart (t : Nat) (s : State) : Out := act t s fun x d => d.live fun d => d.mcalStart x

/-- The end of bank M's calibration (R225): DONE, or FAIL with source 236 where a gain factor lies outside 0x7000 to 0x9000 or an offset
exceeds 64 LSB. -/
def Dev.mcalDone (d : Dev) (x : Nat) (f : List (Nat × Int)) : Dev :=
  if d.adc.mcalEnd == none then d
  else
    let ok (p : Nat × Int) : Bool := decide (0x7000 ≤ p.1) && decide (p.1 ≤ 0x9000) && decide (p.2.natAbs ≤ 1024)
    let good := f.all ok
    let d := { d with adc := { d.adc with mcalEnd := none } }
    let d := ((d.setB Reg.ADC_MCAL 0 false).setB Reg.ADC_MCAL 1 good).setB Reg.ADC_MCAL 2 (!good)
    let put (d : Dev) (i : Nat) : Dev :=
      let p := nth (0x8000, 0) f i
      (d.wrN (Reg.ADC_M_FACT i) (p.1 * 2 ^ 16 + ofSigned 16 p.2)).setBank 4 (fun k => { k with fact := updN 2 (0x8000, 0, 0) k.fact i (fun _ => (p.1, p.2, x)) })
    let d := put (put d 0) 1
    if good then d.setB Reg.ADC_STAT 0 false
    else
      let i := if ok (nth (0, 0) f 0) then 1 else 0
      let p := nth (0, 0) f i
      d.raise .per x 236 0xC104 [(1, i), (2, p.1), (2, ofSigned 16 p.2)]

/-- An urgent request for a bank-local channel (R226): held, merged with the held one, or dropped. -/
def Dev.urgReq (d : Dev) (x b ch : Nat) : Dev :=
  match (d.bank b).urgHeld with
  | none => (d.setBank b (fun k => { k with urgHeld := some (ch, x) })).setB (Reg.ADC_URG b) 15 true
  | some (c, _) =>
    if c = ch then d
    else ((d.inc (Reg.ADC_URG b) 23 16).setB Reg.ADC_STAT 3 true).raise .per x 237 0xC105 [(1, b), (1, adcChan b ch)]

/-- URGENT_REQUEST (R226): a write of 1 to REQ requests CH. -/
def execUrgentRequest (t : Nat) (b : Fin 5) (s : State) : Out :=
  act t s fun x d => d.live fun d => d.urgReq x b.val (d.fld (Reg.ADC_URG b.val) 3 0)

/-- URGENT_CONVERSION_START (R226): the held request starts. -/
def execUrgentConversionStart (t : Nat) (b : Fin 5) (s : State) : Out := act t s fun x d => d.liveIn 9 fun d => d.urgStart x b.val

/-- SEQ_EN falls (R227): conversions in progress finish with their results discarded; a SYNC group cut short is missed. -/
def Dev.seqStop (d : Dev) (x b : Nat) : Dev :=
  let k := d.bank b
  let d := d.setBank b fun k =>
    { k with conv := k.conv.map (fun c => if c.entry = 64 then c else { c with drop := true }), wait := [], nextOut := k.num, group := none,
             entry := 0, rep := 0, lastEntryStart := none }
  if k.group != none then d.syncMiss x b 1 else d

/-- A write of a bank's CTRL register (R216, R225, R227): LEN does not change while SEQ_EN is 1, bank M needs a calibration, and every
condition of R216 holds after it, or the write is refused. -/
def Dev.wrAdcCtrl (d : Dev) (ld : Bool) (x b : Nat) (v : Word) : Dev :=
  let a := Reg.ADC_CTRL b
  let d1 := d.rw a v
  let was := d.seqEn b
  let lenChg := was && d1.seqLen b != d.seqLen b
  let uncal := b == 4 && !was && d1.seqEn b && d.bit Reg.ADC_STAT 0
  if !ld && (lenChg || uncal || !d1.adcBankOk b) then d.setB Reg.ADC_STAT 6 true
  else
    let d1 := if d1.bit a 30 && (!d.bit a 30 || d1.fld a 15 0 != d.fld a 15 0) then d1.setBank b (fun k => { k with rotAt := x }) else d1
    if was && !d1.seqEn b then d1.seqStop x b
    else if !was && d1.seqEn b then d1.setBank b (fun k => { k with entry := 0, rep := 0, group := none, lastEntryStart := none, nextOut := k.num })
    else d1

/-- ADC_SEQ_EN_WRITE (R227). -/
def execAdcSeqEnWrite (t : Nat) (b : Fin 5) (v : Word) (s : State) : Out :=
  act t s fun x d => d.live fun d => d.wrAdcCtrl false x b.val v

/-- A write of an entry of a bank's table (R216, R227): refused while SEQ_EN is 1. -/
def Dev.wrAdcSeq (d : Dev) (ld : Bool) (b e : Nat) (v : Word) : Dev :=
  if !ld && d.seqEn b then d.setB Reg.ADC_STAT 6 true else d.rw (Reg.ADC_SEQ b e) v

/-- At a T0 the groups of the banks whose T0 this is not are missed (R221). -/
def Dev.adcT0 (d : Dev) (t0 : Nat) : Dev :=
  (List.range 5).foldl (fun d b =>
    let k := d.bank b
    let has := d.seqEn b && (d.seqTable b).any (·.sync)
    let ran := (match k.group with | some (g, _) => g == t0 | none => false) || k.lastGroupT0 == some t0 ||
      (d.atGroup b && groupSize (syncRun ((d.seqTable b).drop k.entry)) == 1)
    if has && !ran then d.syncMiss t0 b 1 else d) d

/-- Does a channel stand in a SYNC entry of its bank's table (R222)? -/
def Dev.inSync (d : Dev) (b ch : Nat) : Bool := (d.seqTable b).any (fun e => e.sync && e.ch == ch)

/-- What ADC_IN delivers for a channel (R221, R222, R232): x if there is one, u if there is one, and the flags. In a frame without a complete group run the channels of a SYNC
group deliver nothing. -/
def Dev.adcSample (d : Dev) (c : Nat) : Option (F32 × Nat) × Option F32 × Nat :=
  let b := adcBankOf c
  let ch := c - 12 * b
  let k := d.bank b
  let own := k.results.filter (fun r => r.ch == ch)
  let sync := d.inSync b ch
  let xs := if sync then own.filter (fun r => r.sync == some d.frm.t0)
    else (own.filter (fun r => r.sync == none && decide (r.left ≤ d.frm.t0 + 1600 * uNs))).take 1
  let ready := !sync || (k.lastGroupT0 == some d.frm.t0 && !k.groupLate)
  let x := if xs.isEmpty || !ready then none
    else some (d.adcValue c (xs.foldl (fun a r => a + r.code) 0) xs.length, b2n (xs.any (·.exceeds)))
  let u := if ready then (assocGet ch k.urgRes).map (fun p => d.adcValue c p.1 1) else none
  let exceeds := match x with | some p => p.2 | none => 0
  let uOver := k.freshUrg.contains ch && (match assocGet ch k.urgRes with | some p => p.2 | none => false)
  let flags := b2n (exceeds != 0 || uOver) + 2 * b2n (sync && x.isSome) + 4 * b2n (!k.fresh.contains ch) + 8 * b2n (k.freshUrg.contains ch) + 16 * b2n (d.bankFaulted b)
  (x, u, flags)

/-- A delivery has taken a channel's new results. -/
def Dev.adcTaken (d : Dev) (c : Nat) : Dev :=
  let b := adcBankOf c
  let ch := c - 12 * b
  d.setBank b fun k => { k with fresh := k.fresh.filter (· != ch), freshUrg := k.freshUrg.filter (· != ch) }

end Sys2Proof.Machine
end

