-- ==== Sys2Proof/Machine/Anvil.lean ====
section
/-! DEFINITION. Machine/Anvil.lean: arrival, numbering and snapshot of events (R33 to R39). Delivery to the destinations stands in
Machine/Deliver.lean. -/

namespace Sys2Proof.Machine

/-- The request that arrives next: the earliest, and in one fc the lowest source (R36). -/
def nextReq (rs : List EvReq) : Option EvReq := minBy? (fun r => r.arrive * 256 + r.src) rs

/-- The destinations of a source as a mask, from ANV_SRC_DST0 to DST2 (R39). -/
def Dev.dstMask (d : Dev) (n : Nat) : Nat :=
  (d.rd (Reg.ANV_SRC_DST0 n)).toNat + 2 ^ 32 * (d.rd (Reg.ANV_SRC_DST1 n)).toNat + 2 ^ 64 * d.fld (Reg.ANV_SRC_DST2 n) 9 0

/-- The arrival of a request: discarded if its source is disabled (R33); else it takes the next sequence number and its time stamp,
and its destinations are those of its arrival fc (R35, R39). -/
def Dev.arriveReq (d : Dev) (r : EvReq) : Dev :=
  let d1 := { d with anv := { d.anv with reqs := d.anv.reqs.erase r } }
  if !d.bit (Reg.ANV_SRC_CFG r.src) 0 then d1
  else
    let seq := (d.rd Reg.ANV_SEQ).toNat
    let stamp := d.ns r.arrive
    let e : Ev := { src := r.src, seq := seq, stamp := stamp, dst := d.dstMask r.src, due := r.arrive + 2 * uFc, code := r.code, data := r.data }
    let d2 := d1.incWrap Reg.ANV_SEQ 31 0
    { d2 with anv := { d2.anv with evs := d2.anv.evs ++ [e], lastSeq := seq, lastSrc := r.src, lastTime := stamp } }

/-- EVENT_ARRIVAL (R35): the request whose arrival fc has come first arrives, while the fabric domain runs (R38). -/
def execEventArrival (t : Nat) (s : State) : Out :=
  act t s fun x d =>
    match nextReq d.anv.reqs with
    | none => d
    | some r => if d.accepts && decide (r.arrive ≤ x) then d.arriveReq r else d

/-- EVO_PULSE_END (R39): 50 fc after the last delivery the pin returns low. -/
def execEvoPulseEnd (t : Nat) (k : Fin 8) (s : State) : Out :=
  act t s fun x d =>
    { d with anv := { d.anv with evoEnd := updN 8 0 d.anv.evoEnd k.val (fun e => if e ≤ x then 0 else e) } }

/-- A write of ANV_CTRL.SNAP (R35): sequence number, source and time stamp of the last event are copied in one cycle. -/
def Dev.anvSnap (d : Dev) : Dev :=
    ((d.wrN Reg.ANV_LAST_SEQ d.anv.lastSeq).wrN Reg.ANV_LAST_SRC d.anv.lastSrc).wr64 Reg.ANV_LAST_TLO Reg.ANV_LAST_THI d.anv.lastTime

/-- ANV_SNAP (R35). -/
def execAnvSnap (t : Nat) (s : State) : Out := act t s fun _ d => d.live fun d => d.anvSnap

end Sys2Proof.Machine
end

