-- ==== Sys2Proof/Machine/Enc.lean ====
section
/-! DEFINITION. Machine/Enc.lean: the two encoder channels: counting, index, serial transfers, speed paths, probes and emulation
(R237 to R261). -/

namespace Sys2Proof.Machine

/-- π in 2^-60. -/
def pi60 : Nat := 3622009729038561421

/-- An encoder channel. -/
def Dev.encCh (d : Dev) (k : Nat) : EncCh := nth EncCh.init d.enc.ch k
/-- The device with one encoder channel changed. -/
def Dev.setEnc (d : Dev) (k : Nat) (f : EncCh → EncCh) : Dev := { d with enc := { d.enc with ch := updN 2 EncCh.init d.enc.ch k f } }
/-- EN of a channel. -/
def Dev.encEn (d : Dev) (k : Nat) : Bool := d.bit (Reg.ENCK_CFG k) 31
/-- Serial mode. -/
def Dev.encSerial (d : Dev) (k : Nat) : Bool := d.bit (Reg.ENCK_CFG k) 30
/-- IDXMODE. -/
def Dev.encIdxMode (d : Dev) (k : Nat) : Nat := d.fld (Reg.ENCK_CFG k) 26 25
/-- WRAP. -/
def Dev.encWrap (d : Dev) (k : Nat) : Nat := (d.rd (Reg.ENCK_WRAP k)).toNat
/-- The raw count r. -/
def Dev.encR (d : Dev) (k : Nat) : Nat := (d.rd (Reg.ENCK_RAW k)).toNat
/-- The reported position p. -/
def Dev.encP (d : Dev) (k : Nat) : Nat := (d.rd (Reg.ENCK_POS k)).toNat
/-- The turn counter. -/
def Dev.encTurns (d : Dev) (k : Nat) : Int := toSigned 32 (d.rd (Reg.ENCK_TURNS k)).toNat
/-- The extended position x = TURNS × WRAP + p (R239). -/
def Dev.encX (d : Dev) (k : Nat) : Int := d.encTurns k * (d.encWrap k : Int) + (d.encP k : Int)

/-- A difference of counts within one revolution, from −⌊WRAP/2⌋ to WRAP − 1 − ⌊WRAP/2⌋ (R239). -/
def encDiff (wrap : Nat) (v : Int) : Int :=
  let h : Int := (wrap / 2 : Nat)
  (v + h) % (wrap : Int) - h

/-- p and TURNS take an extended position. -/
def Dev.setEncX (d : Dev) (k : Nat) (x : Int) : Dev :=
  let w : Int := d.encWrap k
  (d.wrN (Reg.ENCK_POS k) (x % w).toNat).wrN (Reg.ENCK_TURNS k) (ofSigned 32 (x / w))

/-- The observer position moves by a change of x (R241, R243). -/
def Dev.encObsMove (d : Dev) (k : Nat) (dx : Int) : Dev := d.setEnc k fun c => { c with obs := { c.obs with xh := c.obs.xh + dx * 2 ^ 32 } }

/-- Event j of a channel (R261). -/
def Dev.encEvent (d : Dev) (x k j : Nat) (data : List (Nat × Nat)) : Dev := d.raise .per x (152 + 4 * k + j) (0x3100 + 16 * k + j) data

/-- The signal fault of a channel sets (R257). -/
def Dev.encFault (d : Dev) (x k cause : Nat) : Dev :=
  let was := d.bit (Reg.ENCK_STAT k) 3
  let d := (d.setB (Reg.ENCK_STAT k) 3 true).setEnc k (fun c => { c with fault := true, faultAck := false, faultCyc := false })
  if was then d else d.encEvent x k 2 [(1, cause)]

/-- A write of a channel's STAT register: FAULT stays 1 until firmware has cleared it and the channel has been disabled and enabled again (R257). -/
def Dev.wrEncStat (d : Dev) (k : Nat) (v : Word) : Dev :=
  let a := Reg.ENCK_STAT k
  let d1 := d.rw a v
  if !d.bit a 3 || d1.bit a 3 then d1
  else if (d.encCh k).faultCyc then d1.setEnc k (fun c => { c with fault := false })
  else (d1.setB a 3 true).setEnc k (fun c => { c with faultAck := true })

/-- The glitch filter (R238): a new level is accepted once the newest `n` samples (newest first) all show it. -/
def filterLevel (n : Nat) (samples : List Bool) (was : Bool) : Bool :=
  let run := samples.take n
  if run.length < n then was else if run.all (· == true) then true else if run.all (· == false) then false else was

/-- Samples that the glitch filter of a channel takes: FILT + 1 (R238). -/
def Dev.encFilt (d : Dev) (k : Nat) : Nat := d.fld (Reg.ENCK_CFG k) 19 17 + 1

/-- The emulated levels of A and B at an instant (R256). -/
def Dev.emuLevels (d : Dev) (x : Nat) : Bool × Bool := if x < d.enc.eoAt then d.enc.eoWas else (d.enc.eoA, d.enc.eoB)

/-- The emulation of a count step of its source (R256): the accumulator gains N; at M the outputs make one quadrature transition in the
direction of the step, in the next PER sample. -/
def Dev.emuStep (d : Dev) (x k : Nat) (up : Bool) : Dev :=
  if !d.bit Reg.ENC_EMU 31 || b2n (d.bit Reg.ENC_EMU 30) != k then d
  else
    let m := d.fld Reg.ENC_EMU_RATIO 15 0
    let acc := d.enc.acc + d.fld Reg.ENC_EMU_RATIO 31 16
    if acc < m then { d with enc := { d.enc with acc := acc } }
    else
      let flipA := (d.enc.eoA == d.enc.eoB) == up
      { d with enc := { d.enc with acc := acc - m, eoAt := (x / uPer + 1) * uPer, eoWas := d.emuLevels x, eoA := if flipA then !d.enc.eoA else d.enc.eoA, eoB := if flipA then d.enc.eoB else !d.enc.eoB } }

/-- One count step (R239, R240): r moves, a reversal is noted, p follows with its hysteresis, TURNS follows p. -/
def Dev.encStep (d : Dev) (x k : Nat) (up : Bool) : Dev :=
  let w := d.encWrap k
  let dir : Int := if up then 1 else -1
  let r := (((d.encR k : Int) + dir) % (w : Int)).toNat
  let rev := d.bit (Reg.ENCK_STAT k) 1 || (d.encCh k).lastUp == some (!up)
  let e := encDiff w ((r : Int) - (d.encP k : Int))
  let dp : Int := if !rev then dir else if e > 1 then e - 1 else if e < -1 then e + 1 else 0
  let d := d.setEncX k (d.encX k + dp)
  let d := ((d.wrN (Reg.ENCK_RAW k) r).setB (Reg.ENCK_STAT k) 1 rev).setB (Reg.ENCK_STAT k) 0 (!up)
  let now := d.ns x
  (d.setEnc k fun c => { c with lastUp := some up, steps := ((now, up) :: c.steps).take 64 }).emuStep x k up

/-- A correction moves r, p, TURNS and the observer together by −c (R243). -/
def Dev.encCorrect (d : Dev) (k : Nat) (c : Int) : Dev :=
  let w : Int := d.encWrap k
  let d := d.setEncX k (d.encX k - c)
  let d := (d.wrN (Reg.ENCK_RAW k) (((d.encR k : Int) - c) % w).toNat).encObsMove k (-c)
  d.setEnc k fun e => { e with corrSince := true }

/-- An accepted index of the emulation's source resets the accumulator and pulses EOZ (R256). -/
def Dev.emuIndex (d : Dev) (x k : Nat) : Dev :=
  if !d.bit Reg.ENC_EMU 31 || b2n (d.bit Reg.ENC_EMU 30) != k then d
  else { d with enc := { d.enc with acc := 0, eozEnd := x + 20 * uNs } }

/-! ### Speed paths (R248 to R252) -/

/-- The gain number 2π × BW × tu in 2^-60, tu in units of 125 ps. -/
def obsGain (bw : F32) (tu : Nat) : Nat :=
  let n := 2 * pi60 * Fp.mant bw * tu
  let e := Fp.ex bw
  (roundDiv (n * 2 ^ e.toNat : Nat) (uS * 2 ^ (-e).toNat)).toNat

/-- One update of the tracking observer with measurement `m` in 2^-32 counts, or without one (R250). -/
def obsUpdate (bw : F32) (o : Observer) (x : Nat) (m : Option Int) : Observer :=
  let tu := x - o.lastU
  let w := obsGain bw tu
  let xp := o.xh + roundDiv (o.wh * (tu : Int)) uS
  let e := match m with | some v => v - xp | none => 0
  let wh := o.wh + roundDiv ((w : Int) * w * e * uS) (2 ^ 120 * tu)
  let acc := roundDiv ((wh - o.wh) * uS) tu
  { xh := xp + roundDiv (2 * (w : Int) * e) (2 ^ 60), wh := wh, ah := o.ah + roundDiv ((w : Int) * (acc - o.ah)) (2 ^ 60 + w), lastU := x }

/-- Does the channel's speed path use the observer (R248)? -/
def Dev.encObserved (d : Dev) (k : Nat) : Bool := decide (d.encWrap k ≤ 65536)

/-- OBSERVER_UPDATE (R250): every Tu = 200 ns of an incremental channel. -/
def execObserverUpdate (t : Nat) (k : Fin 2) (s : State) : Out :=
  act t s fun x d => d.liveIn 10 fun d =>
    let k := k.val
    let due := (d.encCh k).obs.lastU + 200 * uNs
    if !d.encEn k || d.encSerial k || !d.encObserved k || x < due then d
    else d.setEnc k fun c => { c with obs := obsUpdate (d.rd (Reg.ENCK_BW k)) c.obs due (some (d.encX k * 2 ^ 32)) }

/-- The run of steps that edge timing takes: the newest of one direction within SPD_TO_MS (R251). -/
def edgeRun (steps : List (Nat × Bool)) (now tout : Nat) : List (Nat × Bool) :=
  match steps with
  | [] => []
  | p :: _ => steps.takeWhile (fun q => q.2 == p.2 && decide (now ≤ q.1 + tout))

/-- Speed by edge timing, in 2^-32 counts per second; true when the run is shorter than 2 steps (R251). -/
def edgeSpeed (steps : List (Nat × Bool)) (now tout : Nat) : Int × Bool :=
  let run := edgeRun steps now tout
  match run.head?, run.getLast? with
  | some p, some q =>
    if run.length < 2 then (0, true)
    else
      let v := roundDiv (((run.length - 1 : Nat) : Int) * 2 ^ 32 * 1000000000) (p.1 - q.1)
      (if p.2 then v else -v, false)
  | _, _ => (0, true)

/-- Speed of a serial channel by the signed difference of its last two good positions (R239, R252). -/
def serialSpeed (wrap : Nat) (good : List (Nat × Int)) : Int :=
  match good with
  | p :: q :: _ => roundDiv (encDiff wrap (p.2 - q.2) * 2 ^ 32 * uS) (p.1 - q.1)
  | _ => 0

/-- The present speed of a channel's speed path. -/
def Dev.encSpeed (d : Dev) (x k : Nat) : Int :=
  let c := d.encCh k
  if d.encObserved k then c.obs.wh
  else if d.encSerial k then serialSpeed (d.encWrap k) c.serGood
  else (edgeSpeed c.steps (d.ns x) (d.fld (Reg.ENCK_IDX k) 31 16 * 1000000)).1

/-- A count rate in 2^-32 as FP32 radians: 2π × v / WRAP (R249). -/
def Dev.encRad (d : Dev) (k : Nat) (v : Int) : F32 := Fp.ofRat (2 * (pi60 : Int) * v) (2 ^ 92 * d.encWrap k)

/-- The sample of a channel for a T0 (R249 to R253). -/
def Dev.encSampleAt (d : Dev) (t0 k : Nat) : EncSample :=
  let c := d.encCh k
  let o := c.obs
  let dt : Int := (t0 : Int) - (o.lastU : Int)
  let p := d.rd (Reg.ENCK_POS k)
  let tn := d.rd (Reg.ENCK_TURNS k)
  let diff (w : Int) : Int := roundDiv ((w - c.prevSpeed) * 500000000) d.P
  if d.encObserved k then { x := o.xh + roundDiv (o.wh * dt) uS, w := o.wh, a := o.ah, p := p, turns := tn, short := false }
  else if d.encSerial k then
    let w := serialSpeed (d.encWrap k) c.serGood
    let x := match c.serGood with
      | [] => d.encX k * 2 ^ 32
      | g :: _ => g.2 * 2 ^ 32 + roundDiv (w * ((t0 : Int) - (g.1 : Int))) uS
    { x := x, w := w, a := diff w, p := p, turns := tn, short := false }
  else
    let e := edgeSpeed c.steps (d.ns t0) (d.fld (Reg.ENCK_IDX k) 31 16 * 1000000)
    { x := d.encX k * 2 ^ 32, w := e.1, a := diff e.1, p := p, turns := tn, short := e.2 }

/-- A channel's sample for a T0 is taken, and the speed register takes it (R253). A channel with EN = 0 holds its counts, with speed and acceleration 0 (R258); an edge-timing
channel then has no run (DEDUCED, log entry 93). -/
def Dev.encTake (d : Dev) (t0 k : Nat) : Dev :=
  let smp : EncSample :=
    if d.encEn k then d.encSampleAt t0 k
    else { x := d.encX k * 2 ^ 32, w := 0, a := 0, p := d.rd (Reg.ENCK_POS k), turns := d.rd (Reg.ENCK_TURNS k), short := !d.encObserved k && !d.encSerial k }
  (d.setEnc k fun c => { c with sample := smp }).wr (Reg.ENCK_SPEED k) (d.encRad k smp.w)

/-! ### The order within a PER sample (R260) -/

/-- LOAD acts (R241): r and p are VALUE, TURNS 0, the reversal state clears, the observer moves along. What it found is kept for the rest of the PER cycle. -/
def Dev.encLoad (d : Dev) (x k v : Nat) : Dev :=
  let c := d.encCh k
  let found : EncLoad :=
    { cycle := x / uPer, value := v, raw := d.rd (Reg.ENCK_RAW k), pos := d.rd (Reg.ENCK_POS k), turns := d.rd (Reg.ENCK_TURNS k)
      rev := d.bit (Reg.ENCK_STAT k) 1, lastUp := c.lastUp, homePend := c.homePend }
  let found := match c.loaded with | some l => if l.cycle = x / uPer then { l with value := v } else found | none => found
  let dx : Int := (v : Int) - d.encX k
  let d := ((d.wrN (Reg.ENCK_RAW k) v).wrN (Reg.ENCK_POS k) v).wrN (Reg.ENCK_TURNS k) 0
  ((d.setB (Reg.ENCK_STAT k) 1 false).encObsMove k dx).setEnc k (fun c => { c with lastUp := none, homePend := true, loaded := some found })

/-- The state that a LOAD found comes back. -/
def Dev.encUnload (d : Dev) (k : Nat) (l : EncLoad) : Dev :=
  let was := d.encX k
  let d := ((d.wr (Reg.ENCK_RAW k) l.raw).wr (Reg.ENCK_POS k) l.pos).wr (Reg.ENCK_TURNS k) l.turns
  ((d.setB (Reg.ENCK_STAT k) 1 l.rev).encObsMove k (d.encX k - was)).setEnc k (fun c => { c with lastUp := l.lastUp, homePend := l.homePend })

/-- What happens to a channel in a PER sample acts before a LOAD of that sample (R260). -/
def Dev.encBefore (d : Dev) (x k : Nat) (f : Dev → Dev) : Dev :=
  match (d.encCh k).loaded with
  | some l => if l.cycle = x / uPer then (f (d.encUnload k l)).encLoad x k l.value else f d
  | none => f d

/-- A count step or an index acts before the T0 sample and a LOAD of its PER sample (R260). -/
def Dev.encCount (d : Dev) (x k : Nat) (f : Dev → Dev) : Dev :=
  d.encBefore x k fun d =>
    let d := f d
    if d.running && x / uPer == d.frm.t0 / uPer && !d.encSerial k then d.encTake d.frm.t0 k else d

/-- At T0 the channels are sampled (R253, R260): a serial channel that is enabled when its transfer is in. -/
def Dev.encT0 (d : Dev) (t0 : Nat) : Dev :=
  (List.range 2).foldl (fun d k =>
    let d := d.setEnc k fun c => { c with prevSpeed := c.sample.w }
    if d.encEn k && d.encSerial k then d else d.encBefore t0 k (fun d => d.encTake t0 k)) d

/-! ### Counting and the index (R238 to R244) -/

/-- New filtered levels of A and B (R238): both changed at once is an illegal transition. -/
def Dev.encLevels (d : Dev) (x k : Nat) (a b : Bool) : Dev :=
  let c := d.encCh k
  let ca := c.a != a
  let cb := c.b != b
  let d1 := d.setEnc k (fun c => { c with a := a, b := b })
  let mul := d.fld (Reg.ENCK_CFG k) 28 27
  if ca && cb then d1.encFault x k 0
  else
    let counts := if mul = 0 then ca || cb else if mul = 1 then ca else ca && a
    let fwd := if ca then a != b else a == b
    if counts then d1.encStep x k (fwd != d.bit (Reg.ENCK_CFG k) 29) else d1

/-- ENC_COUNT_STEP (R238): the newest samples of the pins A and B, newest first. Their levels pass the glitch filter. A disabled channel samples nothing (R258): only its filter
follows the pins. -/
def execEncCountStep (t : Nat) (k : Fin 2) (a b : List Bool) (s : State) : Out :=
  act t s fun x d =>
    let k := k.val
    (d.setEnc k (fun c => { c with pinA := a.headD c.pinA, pinB := b.headD c.pinB })).liveIn 10 fun d =>
      let c := d.encCh k
      let fa := filterLevel (d.encFilt k) a c.a
      let fb := filterLevel (d.encFilt k) b c.b
      if !d.encEn k || d.encSerial k then d.setEnc k (fun c => { c with a := fa, b := fb }) else d.encCount x k (fun d => d.encLevels x k fa fb)

/-- The filtered Z of an enabled incremental channel rises with index count c = r (R242 to R244). -/
def Dev.encIndexAt (d : Dev) (x k : Nat) : Dev :=
  let mode := d.encIdxMode k
  let r := d.encR k
  let c := encDiff (d.encWrap k) r
  let st := Reg.ENCK_STAT k
  if mode = 0 then d
  else if mode = 2 && (d.encCh k).homePend then
    let d := (((d.encCorrect k r).setB st 2 true).setF st 31 24 0).setEnc k (fun e => { e with homePend := false })
    (d.encEvent x k 1 [(1, 0), (4, r)]).emuIndex x k
  else if c.natAbs ≤ d.fld (Reg.ENCK_IDX k) 7 0 then
    let d := d.setF st 31 24 0
    let d := if c = 0 then d else ((d.encCorrect k c).setB st 4 true).encEvent x k 1 [(1, 1), (4, ofSigned 32 c)]
    d.emuIndex x k
  else
    let same := d.fld st 31 24 != 0 && (d.rd (Reg.ENCK_IDXERR k)).toNat == r
    let run := if same then satInc (d.fld st 31 24) 8 else 1
    let d := ((d.wrN (Reg.ENCK_IDXERR k) r).setB st 5 true).setF st 31 24 run
    let d := (d.setEnc k fun e => { e with wrongSince := true }).encEvent x k 0 [(4, r), (1, run)]
    let n := d.fld (Reg.ENCK_IDX k) 15 8
    if 2 ≤ n && run = n then
      (((d.encCorrect k c).setF st 31 24 0).setB st 4 true).encEvent x k 1 [(1, 2), (4, ofSigned 32 c)] |>.emuIndex x k
    else d

/-- ENC_INDEX (R238, R242): the newest samples of the pin Z, newest first. When its filtered level rises an enabled incremental channel treats the index. -/
def execEncIndex (t : Nat) (i : EncSamplesZ) (s : State) : Out :=
  act t s fun x d =>
    let k := i.k.val
    (d.setEnc k (fun c => { c with pinZ := i.z.headD c.pinZ })).liveIn 10 fun d =>
      let was := (d.encCh k).z
      let fz := filterLevel (d.encFilt k) i.z was
      let d := d.setEnc k (fun c => { c with z := fz })
      if !fz || was || !d.encEn k || d.encSerial k then d else d.encCount x k (fun d => d.encIndexAt x k)

/-- Is a channel's position valid: enabled, referenced and free of a signal fault (R253)? -/
def Dev.encOk (d : Dev) (k : Nat) : Bool := d.encEn k && d.bit (Reg.ENCK_STAT k) 2 && !(d.encCh k).fault

/-- Has a serial channel a good transfer for the present T0? -/
def Dev.encSerFresh (d : Dev) (k : Nat) : Bool :=
  let lead := d.fld (Reg.ENCK_SERT k) 15 0 * uNs
  match (d.encCh k).serGood with
  | [] => false
  | g :: _ => decide (g.1 + lead ≤ d.frm.t0 + uPer) && decide (d.frm.t0 ≤ g.1 + lead + uPer)

/-- What ENC_IN delivers: θm, wm, am, p, turns, ok, flags (R249, R253). -/
def Dev.encOut (d : Dev) (k : Nat) : List Word :=
  let c := d.encCh k
  let m := c.sample
  let flags := b2n c.fault + 2 * b2n (!d.bit (Reg.ENCK_STAT k) 2) + 4 * b2n c.wrongSince + 8 * b2n c.corrSince +
    16 * b2n (d.encSerial k && !d.encSerFresh k) + 32 * b2n m.short
  let ang := m.x % ((d.encWrap k : Int) * 2 ^ 32)
  let en := d.encEn k
  [d.encRad k ang, if en then d.encRad k m.w else 0, if en then d.encRad k m.a else 0, m.p, m.turns, BitVec.ofNat 32 (b2n (d.encOk k)), BitVec.ofNat 32 flags]

/-- What a channel delivers; a serial channel is sampled now, its transfer for this T0 being in (R247). -/
def Dev.encDeliver (d : Dev) (k : Nat) : List Word × Dev :=
  let d := if d.encEn k && d.encSerial k then d.encTake d.frm.t0 k else d
  (d.encOut k, d)

/-- An ENC_IN block has taken a channel's delivery: wrong indices and corrections count anew (R253). -/
def Dev.encTaken (d : Dev) (k : Nat) : Dev := d.setEnc k fun c => { c with wrongSince := false, corrSince := false }

/-! ### Serial transfers (R245, R246) -/

/-- Is `x` the instant S = T0 − LEAD_NS of a T0 whose transfer has not started (R245)? T0s after the next one are counted with the nominal period; an instant within one PER
cycle of S counts as S (DEDUCED, log entry 93). -/
def Dev.serialDue (d : Dev) (x k : Nat) : Bool :=
  let e := x + d.fld (Reg.ENCK_SERT k) 15 0 * uNs + uPer
  let near (t : Nat) : Bool := decide (t ≤ e) && decide ((e - t) % (d.P * uFc) ≤ 2 * uPer)
  (if d.running then near (if d.frm.nextT0 ≤ e then d.frm.nextT0 else d.frm.t0) else match d.frm.firstT0 with | some t => near t | none => false) &&
    (match (d.encCh k).serClk with | some s => decide (s + d.P * uFc / 2 < x) | none => true)

/-- Bits B of a transfer: position, status, parity (R245). -/
def Dev.serialBits (d : Dev) (k : Nat) : Nat :=
  d.fld (Reg.ENCK_SER k) 17 12 + d.fld (Reg.ENCK_SER k) 11 9 + b2n (d.bit (Reg.ENCK_SER k) 8)

/-- The earliest instant at which the last bit of a transfer is sampled: DLY × 5 ns after the (B + 1)th rising edge, which comes B periods and the low part of a period
after S (R245). How long the clock is low in a period the rule does not say; it is at least one PER cycle. -/
def Dev.serialEnd (d : Dev) (k s : Nat) : Nat := s + (d.serialBits k * d.fld (Reg.ENCK_SER k) 31 24 + 1 + d.fld (Reg.ENCK_SER k) 23 18) * uPer

/-- The level of ENCk_CLK (R237, R245): high in incremental mode and at rest; in a transfer B + 1 periods of DIV PER cycles from its first falling edge at S, each low for a part
the spec leaves open. -/
def Dev.encClk (d : Dev) (x k : Nat) : Bool :=
  let div := d.fld (Reg.ENCK_SER k) 31 24
  match (d.encCh k).serClk with
  | none => true
  | some s =>
    !d.encEn k || !d.encSerial k || decide (x < s) || decide (s + (d.serialBits k + 1) * div * uPer ≤ x) ||
      decide (1 + Sys2Proof.Config.encLow div % (div - 1) ≤ (x - s) / uPer % div)

/-- SERIAL_TRANSFER_START (R245): the first falling edge of the clock, at S; `idle` is the level of the data line in the sample before. -/
def execSerialTransferStart (t : Nat) (k : Fin 2) (idle : Bool) (s : State) : Out :=
  act t s fun x d => d.liveIn 10 fun d =>
    if d.encEn k.val && d.encSerial k.val && d.serialDue x k.val then d.setEnc k.val (fun c => { c with serStart := some (x, !idle), serClk := some x }) else d

/-- The number that bits spell, most significant first. -/
def msbNat (bs : List Bool) : Nat := bs.foldl (fun a b => 2 * a + b2n b) 0

/-- Gray decoding: each bit is the parity of the bits above it and itself. -/
def grayDecode (bs : List Bool) : List Bool := ((bs.foldl (fun (p : Bool × List Bool) b => let v := p.1 != b; (v, v :: p.2)) (false, [])).2).reverse

/-- SERIAL_TRANSFER_DONE (R245, R246, R250): the transfer's bits are in. -/
def execSerialTransferDone (t : Nat) (k : Fin 2) (bits : List Bool) (s : State) : Out :=
  act t s fun x d => d.liveIn 10 fun d =>
    let k := k.val
    match (d.encCh k).serStart with
    | none => d
    | some (st, idleBad) =>
      if x < d.serialEnd k st then d else
      let a := Reg.ENCK_SER k
      let np := d.fld a 17 12
      let ns := d.fld a 11 9
      let par := d.bit a 8
      let pos := bits.take np
      let stat := (bits.drop np).take ns
      let parBad := par && (bits.take (np + ns + 1)).foldl (fun p b => p != b) false
      let errBad := d.bit a 6 && decide (0 < ns) && stat.headD false
      let bw := d.rd (Reg.ENCK_BW k)
      let d := d.setEnc k (fun c => { c with serStart := none })
      if !d.encEn k || !d.encSerial k then d
      else if idleBad || parBad || errBad then
        let d := d.inc (Reg.ENCK_STAT k) 23 8
        let d := d.setEnc k fun c => { c with serErrRun := c.serErrRun + 1, obs := obsUpdate bw c.obs st none }
        if (d.encCh k).serErrRun = d.fld a 5 2 then d.encFault x k 1 else d
      else
        let w := d.encWrap k
        let r := msbNat (if d.bit a 7 then grayDecode pos else pos) % w
        let first := !d.bit (Reg.ENCK_STAT k) 2
        let d := if first then d.setEncX k r else d.setEncX k (d.encX k + encDiff w ((r : Int) - (d.encP k : Int)))
        let d := (d.wrN (Reg.ENCK_RAW k) r).setB (Reg.ENCK_STAT k) 2 true
        let xv := d.encX k
        d.setEnc k fun c => { c with serErrRun := 0, serGood := ((st, (r : Int)) :: c.serGood).take 2, obs := obsUpdate bw c.obs st (some (xv * 2 ^ 32)) }

/-! ### Probe, load, configuration -/

/-- The probe latches p, speed and device time together (R254). -/
def Dev.probeLatch (d : Dev) (x k : Nat) : Dev :=
  let p := d.rd (Reg.ENCK_POS k)
  let d := ((d.wr (Reg.ENCK_PRB_POS k) p).wr (Reg.ENCK_PRB_SPD k) (d.encRad k (d.encSpeed x k))).wr64 (Reg.ENCK_PRB_TLO k) (Reg.ENCK_PRB_THI k) (d.ns x)
  (d.setB (Reg.ENCK_STAT k) 6 true).encEvent x k 3 [(4, p.toNat)]

/-- PROBE_EDGE (R254): an edge at the pin TIN that PRB_SEL selects is latched unless the probe is full. -/
def execProbeEdge (t : Nat) (k : Fin 2) (e : PinEdge) (s : State) : Out :=
  act t s fun x d => d.liveIn 10 fun d =>
    let k := k.val
    let st := Reg.ENCK_STAT k
    let active := d.bit (Reg.ENCK_CFG k) (if e.rising then 20 else 21)
    if !d.encEn k || !d.bit (Reg.ENCK_CFG k) 24 || d.fld (Reg.ENCK_CFG k) 23 22 != e.pin.val || !active then d
    else if d.bit st 6 then d.setB st 7 true
    else d.encBefore x k (fun d => d.probeLatch x k)

/-- A write of LOAD (R241, R259): VALUE must be below WRAP; of a loader record the loader checks that afterwards (`Dev.recsOk`). -/
def Dev.wrEncLoad (d : Dev) (ld : Bool) (x k v : Nat) : Dev := if !ld && decide (d.encWrap k ≤ v) then d.setB Reg.ENC_STAT 0 true else d.encLoad x k v

/-- ENC_LOAD (R241). -/
def execEncLoad (t : Nat) (k : Fin 2) (v : Word) (s : State) : Out :=
  act t s fun x d => d.live fun d => d.wrEncLoad false x k.val v.toNat

/-- A finite FP32 at most n/m. -/
def fpLeRat (x : F32) (n m : Nat) : Bool :=
  Fp.isFinite x && decide (Fp.smant x * (2 ^ (Fp.ex x).toNat : Nat) * (m : Int) ≤ ((n * 2 ^ (-(Fp.ex x)).toNat : Nat) : Int))

/-- The conditions under which a channel may be enabled (R247, R250, R259). -/
def Dev.encValid (d : Dev) (k : Nat) : Bool :=
  let w := d.encWrap k
  let bw := d.rd (Reg.ENCK_BW k)
  let ser := d.encSerial k
  let a := Reg.ENCK_SER k
  let np := d.fld a 17 12
  let b := np + d.fld a 11 9 + b2n (d.bit a 8)
  let len := (b + 1) * d.fld a 31 24 * 5
  let lead := d.fld (Reg.ENCK_SERT k) 15 0
  decide (1 ≤ w) && decide (w ≤ 2 ^ 31) && decide (d.fld (Reg.ENCK_CFG k) 19 17 ≤ 6) &&
    Fp.le Fp.one bw && fpLeRat bw 20000 1 && (if ser then fpLeRat bw 15900000 (2 * d.P) else true) &&
    (!ser || (decide (d.fld a 23 18 * 5 + len ≤ lead + 1500) && decide (len + d.fld (Reg.ENCK_SERT k) 31 16 ≤ d.P * 2) && decide (w ≤ 2 ^ np)))

/-- A write of a channel's CFG register (R257 to R259). -/
def Dev.wrEncCfg (d : Dev) (ld : Bool) (x k : Nat) (v : Word) : Dev :=
  let a := Reg.ENCK_CFG k
  let d1 := d.rw a v
  let was := d.encEn k
  let en := d1.encEn k
  if !ld && ((was && d1.fld a 30 0 != d.fld a 30 0) || (!was && en && !d1.encValid k)) then d.setB Reg.ENC_STAT 0 true
  else if !was && en then
    let st := Reg.ENCK_STAT k
    let d1 := ((d1.wrN (Reg.ENCK_RAW k) 0).wrN (Reg.ENCK_POS k) 0).wrN (Reg.ENCK_TURNS k) 0
    let d1 := ((d1.setB st 1 false).setF st 31 24 0).setB st 2 (d1.encIdxMode k != 2 && !d1.encSerial k)
    let flt := d1.bit st 3 && !(d.encCh k).faultAck
    let d1 := d1.setB st 3 flt
    d1.setEnc k fun c =>
      { c with faultCyc := flt, faultAck := false, loaded := none, lastUp := none, homePend := true, obs := { xh := 0, wh := 0, ah := 0, lastU := x }, steps := [], prevSpeed := 0,
               sample := EncCh.init.sample, serStart := none, serClk := none, serGood := [], serErrRun := 0, fault := flt }
  else d1

/-- ENC_ENABLE_WRITE (R258, R259). -/
def execEncEnableWrite (t : Nat) (k : Fin 2) (v : Word) (s : State) : Out :=
  act t s fun x d => d.live fun d => d.wrEncCfg false x k.val v

/-- A write of another register of a channel (R259): WRAP, BW, SER and SERT do not change while EN is 1, REALIGN_N is not 1. -/
def Dev.wrEncOther (d : Dev) (ld : Bool) (k a : Nat) (v : Word) : Dev :=
  let isIdx := a == Reg.ENCK_IDX k
  let fixed := a == Reg.ENCK_WRAP k || a == Reg.ENCK_BW k || a == Reg.ENCK_SER k || a == Reg.ENCK_SERT k
  if !ld && ((fixed && d.encEn k && (d.rw a v).rd a != d.rd a) || (isIdx && natBits v.toNat 15 8 == 1)) then d.setB Reg.ENC_STAT 0 true else d.rw a v

/-- The conditions of R259 on the emulation. -/
def Dev.emuOk (d : Dev) : Bool :=
  let n := d.fld Reg.ENC_EMU_RATIO 31 16
  let m := d.fld Reg.ENC_EMU_RATIO 15 0
  !d.bit Reg.ENC_EMU 31 || !(decide (m < n) || n == 0 || m == 0 || d.encSerial (b2n (d.bit Reg.ENC_EMU 30)))

/-- A write of ENC_EMU (R256, R259). -/
def Dev.wrEncEmu (d : Dev) (ld : Bool) (v : Word) : Dev :=
  let d1 := d.rw Reg.ENC_EMU v
  let en := d1.bit Reg.ENC_EMU 31
  if !ld && !d1.emuOk then d.setB Reg.ENC_STAT 0 true
  else if en && !d.bit Reg.ENC_EMU 31 then
    { d1 with enc := { d1.enc with acc := 0, eoA := (d1.encCh 0).pinA, eoB := (d1.encCh 0).pinB, eoAt := 0, eozEnd := 0 } }
  else d1

/-- ENC_EMU_WRITE (R256). -/
def execEncEmuWrite (t : Nat) (v : Word) (s : State) : Out :=
  act t s fun _ d => d.live fun d => d.wrEncEmu false v

/-- A write of ENC_EMU_RATIO: refused while the emulation runs (R259). -/
def Dev.wrEncRatio (d : Dev) (ld : Bool) (v : Word) : Dev :=
  if !ld && d.bit Reg.ENC_EMU 31 then d.setB Reg.ENC_STAT 0 true else d.rw Reg.ENC_EMU_RATIO v

/-- The channels at a reset of the block: the levels at the pins stay as they are outside. -/
def EncSt.keepPins (e : EncSt) : EncSt := { EncSt.init with ch := e.ch.map (fun c => { EncCh.init with pinA := c.pinA, pinB := c.pinB, pinZ := c.pinZ, a := c.a, b := c.b, z := c.z }) }

end Sys2Proof.Machine
end

