-- ==== Sys2Proof/Machine/Eth.lean ====
section
/-! DEFINITION. Machine/Eth.lean: the two plant Ethernet ports: reception, transmission, descriptor rings and attention (R359 to R367). -/

namespace Sys2Proof.Machine

/-- System SRAM or DDR (R492). -/
def isRam (a : Nat) : Bool := (decide (0x08000000 ≤ a) && decide (a < 0x08800000)) || (decide (0x800000000 ≤ a) && decide (a < 0xA00000000))

/-- The cells of a byte string that lie in RAM. -/
def ramCells (a : Nat) (bs : List Byte) : List Host.Cell := (cellsAt a bs).filter (fun c => isRam c.1)

/-- Addresses of a ring's registers: base address, LEN, HEAD, TAIL, CTRL. -/
structure RingRegs where
  lo : Nat
  hi : Nat
  len : Nat
  head : Nat
  tail : Nat
  ctrl : Nat
  deriving DecidableEq, Repr

/-- The registers of a ring. -/
def ringRegs (p : Nat) (tx : Bool) (r : Nat) : RingRegs :=
  if tx then ⟨Reg.ETH_P_TXR_BASE_LO p r, Reg.ETH_P_TXR_BASE_HI p r, Reg.ETH_P_TXR_LEN p r, Reg.ETH_P_TXR_HEAD p r, Reg.ETH_P_TXR_TAIL p r, Reg.ETH_P_TXR_CTRL p r⟩
  else ⟨Reg.ETH_P_RXR_BASE_LO p r, Reg.ETH_P_RXR_BASE_HI p r, Reg.ETH_P_RXR_LEN p r, Reg.ETH_P_RXR_HEAD p r, Reg.ETH_P_RXR_TAIL p r, Reg.ETH_P_RXR_CTRL p r⟩

/-- LINK of a port. -/
def Dev.ethLink (d : Dev) (p : Nat) : Bool := d.bit (Reg.ETH_P_STAT p) 31
/-- The port runs 1000BASE-X. -/
def Dev.eth1g (d : Dev) (p : Nat) : Bool := d.bit (Reg.ETH_P_STAT p) 30
/-- A port. -/
def Dev.port (d : Dev) (p : Nat) : EthPort := nth EthPort.init d.eth p
/-- The device with one port changed. -/
def Dev.setPort (d : Dev) (p : Nat) (f : EthPort → EthPort) : Dev := { d with eth := updN 2 EthPort.init d.eth p f }
/-- The ring runs: RUN is 1 and it has not stopped. -/
def Dev.ringRuns (d : Dev) (r : RingRegs) : Bool := d.bit r.ctrl 0 && !d.bit r.ctrl 1
/-- Address of a descriptor. -/
def Dev.descAddr (d : Dev) (r : RingRegs) (i : Nat) : Nat := d.rd64 r.lo r.hi + 16 * i
/-- The index after one. -/
def Dev.ringNext (d : Dev) (r : RingRegs) (i : Nat) : Nat := if i + 1 < (d.rd r.len).toNat then i + 1 else 0
/-- Device time of a transmission of `n` bytes at the port's rate, in units: 0.8 ns or 8 ns for a byte. -/
def Dev.ethUnits (d : Dev) (p n : Nat) : Nat := if d.eth1g p then n * 64 else n * 64 / 10

/-- CLK_STAT.LC_LOCK: the lane PLL is locked (R420). -/
def Dev.lcLock (d : Dev) : Bool := d.bit Reg.CLK_STAT 27
/-- A lane is dark: its transmitter is in electrical idle whatever its traffic (R357, R420). -/
def Dev.laneDark (d : Dev) (l : Nat) : Bool := !d.bit (Reg.LNK_LN_CFG l) 31 || !d.lcLock || d.power == 0 || d.power == 4
/-- PRBS of a lane: its generator and checker run (R358). -/
def Dev.lanePrbs (d : Dev) (l : Nat) : Nat := d.fld (Reg.LNK_LN_CFG l) 29 28
/-- A lane's transmitter carries its coded stream: it is not dark, and no raw pattern replaces the stream (R357, R358). -/
def Dev.laneCarries (d : Dev) (l : Nat) : Bool := !d.laneDark l && d.lanePrbs l == 0
/-- A frame leaves a port through its lane; on a lane that does not carry it, it is lost. -/
def Dev.frameOut (d : Dev) (p : Nat) (bs : List Byte) : Dev := if d.laneCarries (2 + p) then { d with ethOut := d.ethOut ++ [(p, bs)] } else d

/-- The attention bits are looked at (R367): the event is raised when their enabled OR rises. -/
def Dev.ethAttn (d : Dev) (x p : Nat) : Dev :=
  let on := (d.fld (Reg.ETH_P_STAT p) 2 0) &&& (d.fld (Reg.ETH_P_CTRL p) 2 0) != 0
  let was := (d.port p).attn
  let d := d.setPort p fun q => { q with attn := on }
  if on && !was then d.raise .per x (204 + p) (0x8110 + p) [(1, d.fld (Reg.ETH_P_STAT p) 2 0)] else d

/-- A ring stops on a descriptor that it does not own (R364). -/
def Dev.ringErr (d : Dev) (x p ri : Nat) (r : RingRegs) : Dev :=
  ((d.setB r.ctrl 1 true).setB (Reg.ETH_P_STAT p) 4 true).raise .per x 206 (0x8120 + p) [(1, p), (1, ri), (2, (d.rd r.head).toNat)]

/-- Sum of a stamp in ns and a signed 16-bit offset (R365). -/
def stampNs (ns ofs : Nat) : Nat := (((ns : Int) + toSigned 16 ofs) % 2 ^ 64).toNat

/-! ### Reception (R361, R363, R365) -/

/-- Number of VLAN tags, at most two, and the EtherType behind them. -/
def ethType (bs : List Byte) : Nat × Nat :=
  let ty (o : Nat) : Nat := beNat ((bs.drop o).take 2)
  let tag (v : Nat) : Bool := v == 0x8100 || v == 0x88A8
  if !tag (ty 12) then (0, ty 12) else if !tag (ty 16) then (1, ty 16) else (2, ty 20)

/-- Receive ring 0 takes PTP frames: EtherType 0x88F7, or IPv4 UDP to port 319 or 320 (R361). -/
def isPtp (bs : List Byte) : Bool :=
  let t := ethType bs
  let o := 14 + 4 * t.1
  let ihl := (bs.getD o 0).toNat % 16 * 4
  let port := beNat ((bs.drop (o + ihl + 2)).take 2)
  t.2 == 0x88F7 || (t.2 == 0x0800 && (bs.getD o 0).toNat / 16 == 4 && (bs.getD (o + 9) 0).toNat == 17 && (port == 319 || port == 320))

/-- Is a destination address accepted (R361)? -/
def Dev.ethAccept (d : Dev) (p : Nat) (bs : List Byte) : Bool :=
  let da := leAt bs 0 6
  let mac (lo hi : Nat) : Nat := (d.rd lo).toNat + 2 ^ 32 * d.fld hi 15 0
  d.bit (Reg.ETH_P_CTRL p) 26 || da == 2 ^ 48 - 1 || da == mac (Reg.ETH_P_MAC_LO p) (Reg.ETH_P_MAC_HI p) ||
    (List.range 8).any (fun i => d.bit (Reg.ETH_P_MC_HI p i) 31 && da == mac (Reg.ETH_P_MC_LO p i) (Reg.ETH_P_MC_HI p i))

/-- A PAUSE frame of Annex 31B: its time in quanta of 512 bit times. -/
def pauseQuanta (bs : List Byte) : Option Nat :=
  if bs.take 6 == [0x01, 0x80, 0xC2, 0x00, 0x00, 0x01] && beNat ((bs.drop 12).take 2) == 0x8808 && beNat ((bs.drop 14).take 2) == 1 then
    some (beNat ((bs.drop 16).take 2)) else none

/-- The descriptors a received frame takes: index, buffer address, size; until the bytes fit or no owned descriptor is left. `true` says that it stopped on a descriptor
without OWN. -/
def rxTake (mem : Memory) (d : Dev) (r : RingRegs) : Nat → Nat → Nat → List (Nat × Nat × Nat) × Bool
  | 0, _, _ => ([], false)
  | fuel + 1, i, left =>
    if left = 0 || i == (d.rd r.tail).toNat then ([], false)
    else
      let a := d.descAddr r i
      let w2 := mem.word (a + 8)
      if !tbit w2 31 then ([], true)
      else
        let size := fld w2 15 0
        let rest := rxTake mem d r fuel (d.ringNext r i) (left - size)
        ((i, (mem.word a).toNat + 2 ^ 32 * (mem.word (a + 4)).toNat, size) :: rest.1, rest.2)

/-- The cells that a received frame writes: buffers and written-back descriptors. -/
def rxCells (d : Dev) (r : RingRegs) (ns : Nat) (tagged err : Bool) : Bool → List (Nat × Nat × Nat) → List Byte → List Host.Cell
  | _, [], _ => []
  | first, (i, buf, size) :: rest, bs =>
    let part := bs.take size
    let w2 := b2n first * 2 ^ 30 + b2n rest.isEmpty * 2 ^ 29 + 2 ^ 28 + b2n (err && rest.isEmpty) * 2 ^ 26 + b2n tagged * 2 ^ 25 + part.length
    ramCells buf part ++ ramCells (d.descAddr r i) (leBytes 8 ns ++ leBytes 4 w2 ++ leBytes 4 0) ++ rxCells d r ns tagged err false rest (bs.drop size)

/-- A frame is dropped for lack of a descriptor (R361). -/
def Dev.rxOverflow (d : Dev) (x p ri : Nat) (r : RingRegs) : Dev :=
  ((d.inc (Reg.ETH_P_RX_DROP p) 31 0).setB (Reg.ETH_P_STAT p) 3 true).raise .per x 206 (0x8120 + p) [(1, p), (1, ri), (2, (d.rd r.head).toNat)]

/-- Free descriptors of a receive ring. -/
def Dev.ringFree (d : Dev) (r : RingRegs) : Nat :=
  let h := (d.rd r.head).toNat
  let t := (d.rd r.tail).toNat
  if h ≤ t then t - h else t + (d.rd r.len).toNat - h

/-- A PAUSE frame leaves the port. Its pause time is a free value (log entry 26). -/
def Dev.pauseOut (d : Dev) (p : Nat) : Dev :=
    let f := d.fresh
    let q := Config.freeWord f.1
    let src := leBytes 4 (d.rd (Reg.ETH_P_MAC_LO p)).toNat ++ leBytes 2 (d.rd (Reg.ETH_P_MAC_HI p)).toNat
    let bs := [0x01, 0x80, 0xC2, 0x00, 0x00, 0x01] ++ src ++ [0x88, 0x08, 0x00, 0x01] ++ beBytes 2 q.toNat ++ List.replicate 42 0
    (f.2.setPort p fun e => { e with pauseDue := false }).frameOut p bs

/-- With PAUSE_TX and fewer than 4 free descriptors in ring 1 a PAUSE frame is sent (R359), once the frame on the wire has ended (R362). The port looks when a frame
has been received (log entry 26). -/
def Dev.pauseSend (d : Dev) (p : Nat) : Dev :=
  if !d.bit (Reg.ETH_P_CTRL p) 27 || !d.bit (Reg.ETH_P_CTRL p) 30 || decide (4 ≤ d.ringFree (ringRegs p false 1)) then d
  else if (d.port p).tx.isSome then d.setPort p fun e => { e with pauseDue := true }
  else d.pauseOut p

/-- ETH_FRAME_RECEIVED (R361, R363, R365): a frame, from destination address to FCS, has come in by `t`. -/
def execEthFrameReceived (t : Nat) (p : Fin 2) (bytes : List Byte) (fcsOk : Bool) (s : State) : Out :=
  actE t s fun s =>
    let p := p.val
    let d := s.dev
    let x := s.now
    let keep (d : Dev) : Effect := { dev := d, cells := [], fuses := [] }
    if !d.runsIn 12 || !d.bit (Reg.ETH_P_CTRL p) 31 || !d.ethLink p || decide (bytes.length < 64) then keep d
    else if !fcsOk then keep (d.inc (Reg.ETH_P_RX_FCS p) 31 0)
    else
      match pauseQuanta bytes, d.bit (Reg.ETH_P_CTRL p) 28 with
      | some q, true => keep (d.setPort p fun e => { e with pauseEnd := x + d.ethUnits p (q * 64) })
      | _, _ =>
        if !d.ethAccept p bytes then keep d
        else
          let ri := if isPtp bytes then 0 else 1
          let r := ringRegs p false ri
          if !d.bit r.ctrl 0 then keep (d.inc (Reg.ETH_P_RX_DROP p) 31 0)
          else
            let max := d.fld (Reg.ETH_P_MAXLEN p) 13 0
            let body := bytes.take max
            let got := if d.ringRuns r then rxTake s.mem d r 4096 (d.rd r.head).toNat body.length else ([], false)
            let d := if got.2 then d.ringErr x p ri r else d
            if got.1.isEmpty then keep (d.rxOverflow x p ri r)
            else
              let room := sumOf (got.1.map (fun q => q.2.2))
              let start := x - d.ethUnits p bytes.length
              let ns := stampNs (d.ns start) (d.fld (Reg.ETH_P_TSOFS p) 15 0)
              let cells := rxCells d r ns (decide (0 < (ethType bytes).1)) (decide (max < bytes.length) || decide (room < body.length)) true got.1 body
              let last := (got.1.getLast?.map (·.1)).getD 0
              let d := (d.wrN r.head (d.ringNext r last)).inc (Reg.ETH_P_RX_FRAMES p) 31 0
              let d := ((d.setB (Reg.ETH_P_STAT p) 0 true).ethAttn x p).pauseSend p
              { dev := d, cells := cells, fuses := [] }

/-! ### Transmission (R362, R363) -/

/-- The descriptors of the frame that starts at an index: indices from FIRST to LAST. None when the frame is not complete before TAIL; an error when a descriptor is not
owned. -/
def txTake (mem : Memory) (d : Dev) (r : RingRegs) : Nat → Nat → Except Unit (Option (List Nat))
  | 0, _ => .ok none
  | fuel + 1, i =>
    if i == (d.rd r.tail).toNat then .ok none
    else
      let w2 := mem.word (d.descAddr r i + 8)
      if !tbit w2 31 then .error ()
      else if tbit w2 29 then .ok (some [i])
      else match txTake mem d r fuel (d.ringNext r i) with
        | .ok (some l) => .ok (some (i :: l))
        | o => o

/-- The bytes of a frame's descriptors. -/
def txBytes (mem : Memory) (d : Dev) (r : RingRegs) (l : List Nat) : List Byte :=
  l.flatMap fun i =>
    let a := d.descAddr r i
    mem.bytes ((mem.word a).toNat + 2 ^ 32 * (mem.word (a + 4)).toNat) (fld (mem.word (a + 8)) 15 0)

/-- The first address with an uncorrectable error that a ring meets in the descriptors and the data of a frame (R491). -/
def txBad (mem : Memory) (d : Dev) (r : RingRegs) (l : List Nat) : Option Nat :=
  l.findSome? fun i =>
    let a := d.descAddr r i
    let b := (mem.word a).toNat + 2 ^ 32 * (mem.word (a + 4)).toNat
    match d.badIn mem a 16 with
    | some w => some w
    | none => d.badIn mem b (fld (mem.word (a + 8)) 15 0)

/-- A frame starts from a ring, if it holds one; true when it did. -/
def Dev.txStart (mem : Memory) (d : Dev) (x p ri : Nat) : Bool × Dev :=
  let r := ringRegs p true ri
  let h := (d.rd r.head).toNat
  if !d.ringRuns r then (false, d)
  else match txTake mem d r 4096 h with
    | .error _ => (false, d.ringErr x p ri r)
    | .ok none => (false, d)
    | .ok (some l) =>
      let w2 := mem.word (d.descAddr r h + 8)
      let bad := txBad mem d r l
      let d := match bad with | some w => d.memUe w | none => d
      (true, d.setPort p fun e =>
        { e with tx := some { ring := ri, first := h, count := l.length, bytes := txBytes mem d r l, tsReq := tbit w2 28, int := tbit w2 27, start := x, bad := bad.isSome } })

/-- ETH_FRAME_TRANSMIT (R360, R362): between frames the port serves ring 0 before ring 1; its first bit after the delimiter leaves at `t`. -/
def execEthFrameTransmit (t : Nat) (p : Fin 2) (s : State) : Out :=
  actE t s fun s =>
    let p := p.val
    let d := s.dev
    let q := d.port p
    let dev :=
      if !d.runsIn 12 || !d.bit (Reg.ETH_P_CTRL p) 30 || !d.ethLink p || q.tx.isSome || decide (s.now < q.pauseEnd) then d
      else
        let a := d.txStart s.mem s.now p 0
        if a.1 then a.2 else (a.2.txStart s.mem s.now p 1).2
    { dev := dev, cells := [], fuses := [] }

/-- Indices of a frame's descriptors. -/
def Dev.txIdx (d : Dev) (r : RingRegs) : Nat → Nat → List Nat
  | 0, _ => []
  | n + 1, i => i :: d.txIdx r n (d.ringNext r i)

/-- The frame on the wire ends, whole, or cut short by a loss of link or an uncorrectable memory error (R363, R366, R491): its descriptors are written back. -/
def txDone (s : State) (d : Dev) (x p : Nat) (f : TxFrame) (lost : Bool) : Effect :=
  let cut := lost || f.bad
  let r := ringRegs p true f.ring
  let idx := d.txIdx r f.count f.first
  let ns := stampNs (d.ns f.start) (d.fld (Reg.ETH_P_TSOFS p) 31 16)
  let last := idx.getLast?.getD 0
  let back (i : Nat) : List Host.Cell :=
    let a := d.descAddr r i
    let w2 := (s.mem.word (a + 8)).toNat
    let st := i == last && f.tsReq && !cut
    let v := natBits w2 30 29 * 2 ^ 29 + b2n st * 2 ^ 28 + natBits w2 27 27 * 2 ^ 27 + b2n cut * 2 ^ 26 + natBits w2 15 0
    ramCells a (leBytes 8 (if st then ns else 0) ++ leBytes 4 v ++ leBytes 4 0)
  let stop := (nth { stopping := false } (d.port p).ring f.ring).stopping
  let d := d.setPort p fun e => { e with tx := none, ring := updN 4 { stopping := false } e.ring f.ring (fun _ => { stopping := false }) }
  let d := d.wrN r.head (d.ringNext r last)
  let d := if stop then d.setB r.ctrl 1 true else d
  let d := if lost then d.setPort p fun e => { e with pauseDue := false } else if cut then d else (d.inc (Reg.ETH_P_TX_FRAMES p) 31 0).frameOut p f.bytes
  let d := if (d.port p).pauseDue then d.pauseOut p else d
  let d := if f.int && !cut then (d.setB (Reg.ETH_P_STAT p) 1 true).ethAttn x p else d
  { dev := d, cells := idx.flatMap back, fuses := [] }

/-- ETH_TX_COMPLETE (R363). -/
def execEthTxComplete (t : Nat) (p : Fin 2) (s : State) : Out :=
  actE t s fun s =>
    match s.dev.runsIn 12, (s.dev.port p.val).tx with
    | true, some f => txDone s s.dev s.now p.val f false
    | _, _ => { dev := s.dev, cells := [], fuses := [] }

/-- ETH_LINK_CHANGE (R360, R367, R380): a frame on the wire at a loss of link is cut short and written back with ERR. -/
def execEthLinkChange (t : Nat) (p : Fin 2) (link anDone : Bool) (s : State) : Out :=
  actE t s fun s =>
    let p := p.val
    let d := s.dev
    let x := s.now
    let st := Reg.ETH_P_STAT p
    if !d.runs then { dev := d, cells := [], fuses := [] }
    else
      let chg := d.ethLink p != link
      let d := (d.setB st 31 link).setB st 29 anDone
      let d := if chg then (d.setB st 2 true).ethAttn x p else d
      match link, (d.port p).tx with
      | false, some f => txDone s d x p f true
      | _, _ => { dev := d, cells := [], fuses := [] }

/-! ### Register writes (R364, R366, R381) -/

/-- A write to an ETH register is refused (R381). -/
def Dev.ethRefuse (d : Dev) (p : Nat) : Dev := d.setB (Reg.ETH_P_STAT p) 5 true

/-- A write of TAIL (R364, R381). -/
def Dev.wrTail (d : Dev) (p : Nat) (tx : Bool) (r : Nat) (v : Word) : Dev :=
  let q := ringRegs p tx r
  if (d.rd q.len).toNat ≤ v.toNat then d.ethRefuse p else d.wr q.tail v

/-- RING_TAIL_WRITE (R364). -/
def execRingTailWrite (t : Nat) (p : Fin 2) (tx : Bool) (r : Fin 2) (v : Word) (s : State) : Out :=
  act t s fun _ d => d.live fun d => d.wrTail p.val tx r.val v

/-- A write of RUN (R366): 0 stops the ring after the frame on the wire, 1 resumes it from HEAD. -/
def Dev.wrRun (d : Dev) (p : Nat) (tx : Bool) (r : Nat) (v : Word) : Dev :=
  let q := ringRegs p tx r
  let run := tbit v 0
  let was := d.bit q.ctrl 0
  let d := d.setB q.ctrl 0 run
  if run then
    (d.setB q.ctrl 1 false).setPort p fun e => if tx then { e with ring := updN 4 { stopping := false } e.ring r (fun _ => { stopping := false }) } else e
  else if !was then d
  else
    let onWire := tx && (match (d.port p).tx with | some f => f.ring == r | none => false)
    if onWire then d.setPort p fun e => { e with ring := updN 4 { stopping := false } e.ring r (fun _ => { stopping := true }) }
    else d.setB q.ctrl 1 true

/-- RING_RUN_WRITE (R366). -/
def execRingRunWrite (t : Nat) (p : Fin 2) (tx : Bool) (r : Fin 2) (v : Word) (s : State) : Out :=
  act t s fun _ d => d.live fun d => d.wrRun p.val tx r.val v

/-- Every running ring is stopped as by a write of RUN = 0 (R380). -/
def Dev.ringsStop (d : Dev) : Dev :=
  (List.range 2).foldl (fun d p => (List.range 2).foldl (fun d r => (d.wrRun p true r 0).wrRun p false r 0) d) d

/-- A write of BASE or LEN of a ring (R364, R381). -/
def Dev.wrRingCfg (d : Dev) (p : Nat) (tx : Bool) (r a : Nat) (v : Word) : Dev :=
  let q := ringRegs p tx r
  let bad := (a == q.lo && v.toNat % 16 != 0) || (a == q.len && (decide (v.toNat < 8) || decide (4096 < v.toNat)))
  if d.bit q.ctrl 0 || bad then d.ethRefuse p else d.rw a v

/-- A write of CTRL of a port (R381, R367). -/
def Dev.wrEthCtrl (d : Dev) (x p : Nat) (v : Word) : Dev :=
  if tbit v 29 && !d.eth1g p then d.ethRefuse p else (d.rw (Reg.ETH_P_CTRL p) v).ethAttn x p

/-- A write of MAXLEN (R381). -/
def Dev.wrMaxLen (d : Dev) (p : Nat) (v : Word) : Dev :=
  let n := natBits v.toNat 13 0
  if n < 64 || decide (9216 < n) then d.ethRefuse p else d.rw (Reg.ETH_P_MAXLEN p) v

end Sys2Proof.Machine
end

