-- ==== Sys2Proof/Machine/Lnk.lean ====
section
/-! DEFINITION. Machine/Lnk.lean: the serial lanes and the stages of the Jexper lanes (R346 to R348, R353 to R358, R381, R382). -/

namespace Sys2Proof.Machine

/-- Stage of Jexper lane l: 0 Detect, 1 Train, 2 Lock, 3 Exchange, 4 Active, 5 Diagnostic (R348). -/
def Dev.stage (d : Dev) (l : Nat) : Nat := d.fld Reg.TWN_LANE (4 * l + 3) (4 * l)
/-- A physical lane. -/
def Dev.lane (d : Dev) (l : Nat) : LnkLane := nth LnkLane.init d.lnk l
/-- The device with a physical lane changed. -/
def Dev.setLane (d : Dev) (l : Nat) (f : LnkLane → LnkLane) : Dev := { d with lnk := updN 4 LnkLane.init d.lnk l f }
/-- A lane as the pair uses it. -/
def Dev.twnLane (d : Dev) (l : Nat) : TwnLane := nth TwnLane.init d.twn.lane l
/-- The device with a lane of the pair changed. -/
def Dev.setTwnLane (d : Dev) (l : Nat) (f : TwnLane → TwnLane) : Dev := { d with twn := { d.twn with lane := updN 2 TwnLane.init d.twn.lane l f } }

/-- A Jexper lane enters a stage (R348); the pair uses it only in stage Active. -/
def Dev.toStage (d : Dev) (x l st : Nat) : Dev :=
  let d := (d.setF Reg.TWN_LANE (4 * l + 3) (4 * l) st).setB Reg.TWN_STAT (24 + l) (st == 4)
  let d := d.setTwnLane l fun q =>
    if st = 0 then { q with capsRx := false, ackRx := false, beats := [], stageAt := x } else { q with stageAt := x }
  if st = 0 then d.setB (Reg.LNK_LN_STAT l) 31 false else d

/-- A Jexper lane enters stage Active (R348). With it as the pair's only lane, the sequence numbers begin afresh and BLOCKS is due (R335, R347; log entry
61). -/
def Dev.toActive (d : Dev) (x l : Nat) : Dev :=
  let first := d.stage (1 - l) != 4
  let d := (d.toStage x l 4).setTwnLane l fun q => { q with beats := [], missRun := 0, lost := false }
  if first then { d with twn := { d.twn with seqs := [], blocksDue := true } } else d

/-- The mask of the Jexper lanes in stage Active. -/
def Dev.activeLanes (d : Dev) : Nat := b2n (d.stage 0 == 4) + 2 * b2n (d.stage 1 == 4)

/-- The Jexper lanes of a mask whose transmitters carry messages. -/
def Dev.carryMask (d : Dev) (mask : Nat) : Nat := b2n (mask.testBit 0 && d.laneCarries 0) + 2 * b2n (mask.testBit 1 && d.laneCarries 1)

/-- A message on the lanes of a mask takes the next SEQ (R347); it goes out on those that carry messages (R357, R358). -/
def Dev.sendOn (d : Dev) (mask : Nat) (m : TwinMsg) : Dev :=
  let q := (d.twn.txSeq + 1) % 2 ^ 24
  { d with twn := { d.twn with txSeq := q }, sent := if d.carryMask mask = 0 then d.sent else d.sent ++ [(d.carryMask mask, q, m)] }

/-- A message on every lane in stage Active; without one nothing is sent (R347). -/
def Dev.send (d : Dev) (m : TwinMsg) : Dev := if d.activeLanes = 0 then d else d.sendOn d.activeLanes m

/-- This chip's CAPS (R349), the FW_VERSION given. -/
def Dev.ownCaps (d : Dev) (fw : Nat) : CapsBody :=
  { major := 1, minor := 0, role := b2n (d.bit Reg.TWN_STAT 27), siRev := 0xA1, part := 0x9600, fwVersion := fw, features := 0,
    imageHash := (List.range 12).flatMap (fun i => leBytes 4 (d.rd (Reg.IMG_HASH i)).toNat), imageGen := (d.rd Reg.IMG_GEN).toNat,
    framePeriodFc := d.fld Reg.FRM_PERIOD 14 0 }

/-- CAPS on one lane. The spec does not say what number FW_VERSION holds: a free value. -/
def Dev.sendCaps (d : Dev) (x l : Nat) : Dev :=
  let f := d.fresh
  (f.2.sendOn (2 ^ l) (.caps (d.ownCaps (Sys2Proof.Config.freeWord f.1).toNat))).setTwnLane l fun q => { q with capsAt := x }

/-- RX_DETECT_PULSE (R355): a pulse comes 100 µs after the one before; a terminated far receiver moves the lane to Train. When the first pulse of a stay in Detect comes is
not stated (DESIGN CHOICE, log entry 96). -/
def execRxDetectPulse (t : Nat) (lane : Fin 2) (found : Bool) (s : State) : Out :=
  act t s fun x d => d.live fun d =>
    let l := lane.val
    let early := match (d.lane l).pulseAt with | some a => decide (x < a + 100 * uUs) | none => false
    if d.stage l != 0 || !d.laneCarries l || early then d
    else
      let d := d.setLane l fun q => { q with pulseAt := some x }
      if found then ((d.toStage x l 1).setB (Reg.LNK_LN_STAT l) 31 true).setLane l fun q => { q with txIdle := false } else d

/-- LANE_TRAIN_DONE (R348): 1,024 TRAIN blocks sent, and received without error, from an input that is not idle. -/
def execLaneTrainDone (t : Nat) (lane : Fin 2) (s : State) : Out :=
  act t s fun x d => d.live fun d => if d.stage lane.val == 1 then (d.setB (Reg.LNK_LN_STAT lane.val) 30 true).toStage x lane.val 2 else d

/-- The lane falls back to Detect, where it is idle between pulses (R348, R355). -/
def Dev.toDetect (d : Dev) (x l : Nat) : Dev := (d.toStage x l 0).setLane l fun q => { q with txIdle := true, pulseAt := none }

/-- LANE_TRAIN_TIMEOUT (R348): 2 ms in Train. -/
def execLaneTrainTimeout (t : Nat) (lane : Fin 2) (s : State) : Out :=
  act t s fun x d => d.live fun d =>
    if d.stage lane.val == 1 && decide ((d.twnLane lane.val).stageAt + 2 * uMs ≤ x) then d.toDetect x lane.val else d

/-- A counter of 32 bits increased by `k`, saturating. -/
def Dev.addSat (d : Dev) (a k : Nat) : Dev := d.wrN a (Nat.min ((d.rd a).toNat + k) 0xFFFFFFFF)

/-- LANE_BLOCK_LOCK (R354): 64 consecutive valid headers; a Jexper lane in Lock enters Exchange and sends CAPS (R348). The command brings the invalid headers the lane has met
since it was last told of (DESIGN CHOICE, log entry 96). -/
def execLaneBlockLock (t : Nat) (h : LaneHeaders) (s : State) : Out :=
  act t s fun x d => d.live fun d =>
    let l := h.lane.val
    let d := d.addSat (Reg.LNK_LN_HDR_ERR l) h.headers
    let d := (d.setB (Reg.LNK_LN_STAT l) 29 true).setB (Reg.LNK_LN_STAT l) 30 true
    if l < 2 && d.stage l == 2 then (d.toStage x l 3).sendCaps x l else d

/-- Loss of block lock, or an input idle for more than 2 µs, with the invalid headers that count: event 200 + l while the lane is in use; a Jexper lane in
Active or Diagnostic returns to Detect (R348, R354, R357, R382). -/
def Dev.lockLoss (d : Dev) (x l headers : Nat) : Dev :=
  let d := d.addSat (Reg.LNK_LN_HDR_ERR l) headers
  let d := ((d.setB (Reg.LNK_LN_STAT l) 29 false)).setB (Reg.LNK_LN_STAT l) 1 (d.bit (Reg.LNK_LN_STAT l) 1 || d.bit (Reg.LNK_LN_STAT l) 29)
  let st := if l < 2 then d.stage l else 0
  let used := if l < 2 then st == 4 else d.ethLink (l - 2)
  let d := if used then d.raise .per x (200 + l) (0x8100 + l) [(1, st), (4, (d.rd (Reg.LNK_LN_HDR_ERR l)).toNat)] else d
  if l < 2 && (st == 4 || st == 5) then d.toDetect x l else d

/-- LANE_BLOCK_LOCK_LOSS (R354). The command brings the invalid headers the lane has met since it was last told of, the 16 of the loss among them. -/
def execLaneBlockLockLoss (t : Nat) (h : LaneHeaders) (s : State) : Out := act t s fun x d => d.live fun d => d.lockLoss x h.lane.val h.headers

/-- Every lane's transmitter goes dark (R357, R380, R420). -/
def Dev.lanesDark (d : Dev) : Dev := (List.range 4).foldl (fun d l => d.setLane l fun q => { q with txIdle := true }) d

/-- RX_IDLE_TIMEOUT (R357): an idle input for more than 2 µs counts as 16 invalid headers. -/
def execRxIdleTimeout (t : Nat) (lane : Fin 4) (s : State) : Out :=
  act t s fun x d => d.live fun d => (d.setB (Reg.LNK_LN_STAT lane.val) 30 false).lockLoss x lane.val 16

/-- CAPS_RESEND (R348): every 100 µs in Exchange, every 100 ms in Diagnostic. -/
def execCapsResend (t : Nat) (lane : Fin 2) (s : State) : Out :=
  act t s fun x d => d.live fun d =>
    let l := lane.val
    let gap := if d.stage l == 3 then 100 * uUs else 100 * uMs
    if (d.stage l == 3 || d.stage l == 5) && decide ((d.twnLane l).capsAt + gap ≤ x) then d.sendCaps x l else d

/-- LANE_EXCHANGE_TIMEOUT (R348): 10 ms in Exchange. -/
def execLaneExchangeTimeout (t : Nat) (lane : Fin 2) (s : State) : Out :=
  act t s fun x d => d.live fun d =>
    if d.stage lane.val == 3 && decide ((d.twnLane lane.val).stageAt + 10 * uMs ≤ x) then d.toDetect x lane.val else d

/-- The index of the largest of the first 16 values, the first of several. -/
def bestEye (eyes : List Nat) : Nat :=
  (List.range 16).foldl (fun b i => if nth 0 eyes b < nth 0 eyes i then i else b) 0

/-- EQUALISER_ADAPT_DONE (R356): with ADAPT = 1 the setting of the largest eye opening stays, the lowest of several; the input is not idle. -/
def execEqualiserAdaptDone (t : Nat) (lane : Fin 4) (eyes : List Nat) (s : State) : Out :=
  act t s fun _ d => d.live fun d =>
    let l := lane.val
    if d.bit (Reg.LNK_LN_CFG l) 30 && (decide (2 ≤ l) || d.stage l == 1) then (d.setB (Reg.LNK_LN_STAT l) 30 true).setF (Reg.LNK_LN_STAT l) 23 20 (bestEye eyes) else d

/-- A bus write of LNK_LN_CFG (R354, R356 to R358, R381). A field counts as written where its value changes. -/
def Dev.wrLnkCfg (d : Dev) (x l : Nat) (v : Word) : Dev :=
  let a := Reg.LNK_LN_CFG l
  let old := d.rd a
  let prbs := bitsOf v 29 28
  let newPrbs := prbs != bitsOf old 29 28
  let pr := d.fld Reg.TWN_STAT 31 29
  let badPrbs := newPrbs && prbs != 0 &&
    (if l < 2 then (pr == 2 || pr == 3) && d.stage (1 - l) != 4
     else d.bit (Reg.ETH_P_CTRL (l - 2)) 31 || d.bit (Reg.ETH_P_CTRL (l - 2)) 30)
  if prbs == 3 || badPrbs || (decide (2 ≤ l) && tbit v 26) then d.setB (Reg.LNK_LN_STAT l) 0 true
  else
    let d1 := d.rw a v
    let d2 := if !tbit v 30 then d1.setF (Reg.LNK_LN_STAT l) 23 20 (bitsOf v 19 16) else d1
    let d3 :=
      if tbit v 31 && !tbit old 31 then d2.setLane l fun q => { q with txIdle := d2.laneDark l || (decide (l < 2) && d.stage l == 0), burst := 16 }
      else if !tbit v 31 then d2.setLane l fun q => { q with txIdle := true }
      else d2
    let d4 := if newPrbs then (d3.wr (Reg.LNK_LN_PRBS_ERR l) 0).setB (Reg.LNK_LN_STAT l) 28 false else d3
    let newRate := tbit v 26 != tbit old 26
    let d5 :=
      if l < 2 && newRate && d.stage l == 4 then
        ((d4.raise .per x 196 0x7104 [(1, l), (1, 4)]).setB Reg.TWN_STAT 3 true).setTwnLane l fun q => { q with lost := true }
      else d4
    if l < 2 && (newRate || (newPrbs && prbs == 0)) then d5.toDetect x l else d5

/-- LANE_RATE_WRITE (R354). -/
def execLaneRateWrite (t : Nat) (lane : Fin 4) (v : Word) (s : State) : Out := act t s fun x d => d.live fun d => d.wrLnkCfg x lane.val v
/-- LANE_TX_EN_WRITE (R357). -/
def execLaneTxEnWrite (t : Nat) (lane : Fin 4) (v : Word) (s : State) : Out := act t s fun x d => d.live fun d => d.wrLnkCfg x lane.val v
/-- LANE_PRBS_WRITE (R358). -/
def execLanePrbsWrite (t : Nat) (lane : Fin 4) (v : Word) (s : State) : Out := act t s fun x d => d.live fun d => d.wrLnkCfg x lane.val v

/-- PRBS_CHECKER_LOCK (R358): 64 consecutive bits without error, from an input that is not idle. -/
def execPrbsCheckerLock (t : Nat) (lane : Fin 4) (s : State) : Out :=
  act t s fun _ d => d.live fun d => if d.lanePrbs lane.val != 0 then (d.setB (Reg.LNK_LN_STAT lane.val) 30 true).setB (Reg.LNK_LN_STAT lane.val) 28 true else d

/-- PRBS_BIT_ERROR (R358): a wrong bit is counted; the change from 0 raises source 207. -/
def execPrbsBitError (t : Nat) (lane : Fin 4) (s : State) : Out :=
  act t s fun x d => d.live fun d =>
    let l := lane.val
    if !d.bit (Reg.LNK_LN_STAT l) 28 then d
    else
      let first := d.rd (Reg.LNK_LN_PRBS_ERR l) == 0
      let d := d.inc (Reg.LNK_LN_PRBS_ERR l) 31 0
      if first then d.raise .per x 207 (0x8130 + l) [(1, l), (4, (d.rd (Reg.LNK_LN_PRBS_ERR l)).toNat)] else d

/-- MESSAGE_CRC_FAIL (R346): a message with a wrong CRC is discarded and counted. -/
def execMessageCrcFail (t : Nat) (lane : Fin 2) (s : State) : Out :=
  act t s fun _ d => d.live fun d => if d.stage lane.val == 0 then d else d.inc Reg.TWN_RX_CRC 31 0

/-- UNKNOWN_MESSAGE (R347): an unknown TYPE is counted and dropped. -/
def execUnknownMessage (t : Nat) (lane : Fin 2) (s : State) : Out :=
  act t s fun _ d => d.live fun d => if d.stage lane.val == 4 then d.inc Reg.TWN_RX_UNK 31 0 else d

end Sys2Proof.Machine
end

