-- ==== Sys2Proof/Machine/Crypto.lean ====
section
/-! DEFINITION. Machine/Crypto.lean: the algorithms the spec names by their standards: CRC-32 (R42), SHA-384 and ECDSA on P-384 (R46, R462),
PBKDF2 with HMAC-SHA-384 (R59). The spec names the schemes; their arithmetic and constants are the standards' (PRESUMED, log entry 27). -/

namespace Sys2Proof.Machine

/-! ### CRC-32 -/

/-- One bit of the reflected CRC with polynomial 0x04C11DB7 (R42). -/
def crcBit (c : Word) : Word := if tbit c 0 then (c >>> 1) ^^^ 0xEDB88320#32 else c >>> 1

/-- One byte. -/
def crcByte (c : Word) (b : Byte) : Word :=
  crcBit (crcBit (crcBit (crcBit (crcBit (crcBit (crcBit (crcBit (c ^^^ b.setWidth 32))))))))

/-- CRC-32 of a byte string: initial value and final XOR of all ones (R42). -/
def crc32 (bs : List Byte) : Word := bs.foldl crcByte 0xFFFFFFFF#32 ^^^ 0xFFFFFFFF#32

/-! ### SHA-384 -/

/-- A 64-bit word of the digest. -/
abbrev W64 := BitVec 64

/-- The working words of the digest. -/
structure ShaSt where
  a : W64
  b : W64
  c : W64
  d : W64
  e : W64
  f : W64
  g : W64
  h : W64
  deriving DecidableEq, Repr

/-- Initial words: the fraction bits of the square roots of the 9th to the 16th prime. -/
def ShaSt.init : ShaSt :=
  { a := 0xcbbb9d5dc1059ed8#64, b := 0x629a292a367cd507#64, c := 0x9159015a3070dd17#64, d := 0x152fecd8f70e5939#64,
    e := 0x67332667ffc00b31#64, f := 0x8eb44a8768581511#64, g := 0xdb0c2e0d64f98fa7#64, h := 0x47b5481dbefa4fa4#64 }

/-- Round constants 0 to 19: the fraction bits of the cube roots of primes. -/
def shaK0 : List W64 :=
  [0x428a2f98d728ae22#64, 0x7137449123ef65cd#64, 0xb5c0fbcfec4d3b2f#64, 0xe9b5dba58189dbbc#64, 0x3956c25bf348b538#64,
   0x59f111f1b605d019#64, 0x923f82a4af194f9b#64, 0xab1c5ed5da6d8118#64, 0xd807aa98a3030242#64, 0x12835b0145706fbe#64,
   0x243185be4ee4b28c#64, 0x550c7dc3d5ffb4e2#64, 0x72be5d74f27b896f#64, 0x80deb1fe3b1696b1#64, 0x9bdc06a725c71235#64,
   0xc19bf174cf692694#64, 0xe49b69c19ef14ad2#64, 0xefbe4786384f25e3#64, 0x0fc19dc68b8cd5b5#64, 0x240ca1cc77ac9c65#64]

/-- Round constants 20 to 39: the fraction bits of the cube roots of primes. -/
def shaK1 : List W64 :=
  [0x2de92c6f592b0275#64, 0x4a7484aa6ea6e483#64, 0x5cb0a9dcbd41fbd4#64, 0x76f988da831153b5#64, 0x983e5152ee66dfab#64,
   0xa831c66d2db43210#64, 0xb00327c898fb213f#64, 0xbf597fc7beef0ee4#64, 0xc6e00bf33da88fc2#64, 0xd5a79147930aa725#64,
   0x06ca6351e003826f#64, 0x142929670a0e6e70#64, 0x27b70a8546d22ffc#64, 0x2e1b21385c26c926#64, 0x4d2c6dfc5ac42aed#64,
   0x53380d139d95b3df#64, 0x650a73548baf63de#64, 0x766a0abb3c77b2a8#64, 0x81c2c92e47edaee6#64, 0x92722c851482353b#64]

/-- Round constants 40 to 59: the fraction bits of the cube roots of primes. -/
def shaK2 : List W64 :=
  [0xa2bfe8a14cf10364#64, 0xa81a664bbc423001#64, 0xc24b8b70d0f89791#64, 0xc76c51a30654be30#64, 0xd192e819d6ef5218#64,
   0xd69906245565a910#64, 0xf40e35855771202a#64, 0x106aa07032bbd1b8#64, 0x19a4c116b8d2d0c8#64, 0x1e376c085141ab53#64,
   0x2748774cdf8eeb99#64, 0x34b0bcb5e19b48a8#64, 0x391c0cb3c5c95a63#64, 0x4ed8aa4ae3418acb#64, 0x5b9cca4f7763e373#64,
   0x682e6ff3d6b2b8a3#64, 0x748f82ee5defb2fc#64, 0x78a5636f43172f60#64, 0x84c87814a1f0ab72#64, 0x8cc702081a6439ec#64]

/-- Round constants 60 to 79: the fraction bits of the cube roots of primes. -/
def shaK3 : List W64 :=
  [0x90befffa23631e28#64, 0xa4506cebde82bde9#64, 0xbef9a3f7b2c67915#64, 0xc67178f2e372532b#64, 0xca273eceea26619c#64,
   0xd186b8c721c0c207#64, 0xeada7dd6cde0eb1e#64, 0xf57d4f7fee6ed178#64, 0x06f067aa72176fba#64, 0x0a637dc5a2c898a6#64,
   0x113f9804bef90dae#64, 0x1b710b35131c471b#64, 0x28db77f523047d84#64, 0x32caab7b40c72493#64, 0x3c9ebe0a15c9bebc#64,
   0x431d67c49c100d4c#64, 0x4cc5d4becb3e42b6#64, 0x597f299cfc657e2a#64, 0x5fcb6fab3ad6faec#64, 0x6c44198c4a475817#64]

/-- The 80 round constants. -/
def shaK : List W64 := shaK0 ++ shaK1 ++ shaK2 ++ shaK3

/-- The message schedule, newest word first, extended by `n` words. -/
def shaSched : Nat → List W64 → List W64
  | 0, w => w
  | n + 1, w =>
    let x := nth 0 w 1
    let y := nth 0 w 14
    let s1 := x.rotateRight 19 ^^^ x.rotateRight 61 ^^^ (x >>> 6)
    let s0 := y.rotateRight 1 ^^^ y.rotateRight 8 ^^^ (y >>> 7)
    shaSched n ((s1 + nth 0 w 6 + s0 + nth 0 w 15) :: w)

/-- One round with the sum of its constant and schedule word. -/
def shaRound (s : ShaSt) (kw : W64) : ShaSt :=
  let s1 := s.e.rotateRight 14 ^^^ s.e.rotateRight 18 ^^^ s.e.rotateRight 41
  let ch := (s.e &&& s.f) ^^^ (~~~s.e &&& s.g)
  let t1 := s.h + s1 + ch + kw
  let s0 := s.a.rotateRight 28 ^^^ s.a.rotateRight 34 ^^^ s.a.rotateRight 39
  let mj := (s.a &&& s.b) ^^^ (s.a &&& s.c) ^^^ (s.b &&& s.c)
  { a := t1 + (s0 + mj), b := s.a, c := s.b, d := s.c, e := s.d + t1, f := s.e, g := s.f, h := s.g }

/-- One block of 128 bytes. -/
def shaBlock (s : ShaSt) (blk : List Byte) : ShaSt :=
  let w0 := ((chunks 8 16 blk).map (fun c => BitVec.ofNat 64 (beNat c))).reverse
  let w := (shaSched 64 w0).reverse
  let r := (shaK.zipWith (· + ·) w).foldl shaRound s
  { a := s.a + r.a, b := s.b + r.b, c := s.c + r.c, d := s.d + r.d, e := s.e + r.e, f := s.f + r.f, g := s.g + r.g, h := s.h + r.h }

/-- The padding of a message of `n` bytes to whole blocks. -/
def shaPad (n : Nat) : List Byte := 0x80#8 :: (List.replicate ((239 - n % 128) % 128) 0#8 ++ beBytes 16 (8 * n))

/-- The SHA-384 digest of a byte string. -/
def sha384 (m : List Byte) : List Byte :=
  let p := m ++ shaPad m.length
  let s := (chunks 128 (p.length / 128 + 1) p).foldl shaBlock ShaSt.init
  [s.a, s.b, s.c, s.d, s.e, s.f].flatMap (fun w => beBytes 8 w.toNat)

/-- HMAC-SHA-384 with a key of at most 128 bytes. -/
def hmac384 (key m : List Byte) : List Byte :=
  let k := key ++ List.replicate (128 - key.length) 0#8
  sha384 (k.map (· ^^^ 0x5C#8) ++ sha384 (k.map (· ^^^ 0x36#8) ++ m))

/-- The iterations of PBKDF2 after the first: the last HMAC and the running XOR. -/
def pbkdfGo (pw : List Byte) : Nat → List Byte → List Byte → List Byte
  | 0, _, acc => acc
  | n + 1, u, acc => let u' := hmac384 pw u; pbkdfGo pw n u' (acc.zipWith (· ^^^ ·) u')

/-- PBKDF2 with HMAC-SHA-384 of one block of 48 bytes (R59, R401). -/
def pbkdf2 (pw salt : List Byte) (iter : Nat) : List Byte :=
  let u := hmac384 pw (salt ++ beBytes 4 1)
  pbkdfGo pw (iter - 1) u u

/-! ### ECDSA on P-384 -/

namespace P384

/-- The field prime. -/
def p : Nat := 2 ^ 384 - 2 ^ 128 - 2 ^ 96 + 2 ^ 32 - 1
/-- The group order. -/
def n : Nat := 0xffffffffffffffffffffffffffffffffffffffffffffffffc7634d81f4372ddf581a0db248b0a77aecec196accc52973
/-- The curve constant b of y² = x³ − 3x + b. -/
def b : Nat := 0xb3312fa7e23ee7e4988e056be3f82d19181d9c6efe8141120314088f5013875ac656398d8a2ed19d2a85c8edd3ec2aef
/-- The base point. -/
def gx : Nat := 0xaa87ca22be8b05378eb1c71ef320ad746e1d3b628ba79b9859f741e082542a385502f25dbf55296c3a545e3872760ab7
/-- The base point. -/
def gy : Nat := 0x3617de4a96262c6f5d9e98bf9292dc29f8f41dbd289a147ce9da3113b5f0b8c00a60b1ce1d7e819d7a431d7c90ea0e5f

/-- `x ^ e mod m` over the low `k` bits of `e`. -/
def powMod (m : Nat) : Nat → Nat → Nat → Nat
  | 0, _, _ => 1
  | k + 1, x, e =>
    let r := powMod m k (x * x % m) (e / 2)
    if e % 2 = 1 then x * r % m else r

/-- Inverse modulo a prime. -/
def inv (m x : Nat) : Nat := powMod m 384 (x % m) (m - 2)

/-- A point in Jacobian coordinates; `z = 0` is the point at infinity. -/
structure Pt where
  x : Nat
  y : Nat
  z : Nat
  deriving DecidableEq, Repr

/-- Difference modulo p. -/
def sb (a c : Nat) : Nat := (a + (p - c % p)) % p

/-- Doubling. -/
def dbl (q : Pt) : Pt :=
  if q.z = 0 || q.y = 0 then { x := 1, y := 1, z := 0 }
  else
    let d := q.z * q.z % p
    let g := q.y * q.y % p
    let be := q.x * g % p
    let al := 3 * (sb q.x d) * (q.x + d) % p
    let x3 := sb (al * al) (8 * be)
    { x := x3, y := sb (al * sb (4 * be) x3) (8 * g * g), z := 2 * q.y * q.z % p }

/-- Addition. -/
def add (q r : Pt) : Pt :=
  if q.z = 0 then r
  else if r.z = 0 then q
  else
    let z1 := q.z * q.z % p
    let z2 := r.z * r.z % p
    let u1 := q.x * z2 % p
    let u2 := r.x * z1 % p
    let s1 := q.y * z2 * r.z % p
    let s2 := r.y * z1 * q.z % p
    if u1 = u2 then (if s1 = s2 then dbl q else { x := 1, y := 1, z := 0 })
    else
      let h := sb u2 u1
      let rr := sb s2 s1
      let hh := h * h % p
      let hhh := h * hh % p
      let v := u1 * hh % p
      let x3 := sb (rr * rr) (hhh + 2 * v)
      { x := x3, y := sb (rr * sb v x3) (s1 * hhh), z := h * q.z * r.z % p }

/-- `u1 * g + u2 * q` from the highest of `k` bits down. -/
def mulAdd (g q gq : Pt) : Nat → Nat → Nat → Pt
  | 0, _, _ => { x := 1, y := 1, z := 0 }
  | k + 1, u1, u2 =>
    let t := dbl (mulAdd g q gq k (u1 / 2) (u2 / 2))
    if u1 % 2 = 1 then (if u2 % 2 = 1 then add t gq else add t g) else if u2 % 2 = 1 then add t q else t

/-- Is a pair of coordinates a point of the curve? -/
def onCurve (x y : Nat) : Bool :=
  decide (x < p) && decide (y < p) && y * y % p == sb (x * x * x + b) (3 * x)

/-- ECDSA verification of a digest (48 bytes) with public key `(x, y)` and signature `(r, s)`. -/
def verify (x y : Nat) (digest : List Byte) (r s : Nat) : Bool :=
  if r = 0 || s = 0 || decide (n ≤ r) || decide (n ≤ s) || !onCurve x y then false
  else
    let w := inv n s
    let g : Pt := { x := gx, y := gy, z := 1 }
    let q : Pt := { x := x, y := y, z := 1 }
    let t := mulAdd g q (add g q) 384 (beNat digest * w % n) (r * w % n)
    if t.z = 0 then false
    else
      let zi := inv p t.z
      (t.x * (zi * zi % p) % p) % n == r

end P384

end Sys2Proof.Machine
end

