-- ==== Sys2Proof/Machine/Cmp.lean ====
section
/-! DEFINITION. Machine/Cmp.lean: the 48 sampled window comparators (R228 to R231). -/

namespace Sys2Proof.Machine

/-- A threshold on the 14-bit code scale with its bits [1:0] ignored (R228). -/
def cmpThr (v : Nat) : Int := toSigned 14 (v / 4 * 4)
/-- HI of a comparator. -/
def Dev.cmpHi (d : Dev) (n : Nat) : Int := cmpThr (d.fld (Reg.CMP_CH_THR n) 29 16)
/-- LO of a comparator. -/
def Dev.cmpLo (d : Dev) (n : Nat) : Int := cmpThr (d.fld (Reg.CMP_CH_THR n) 13 0)
/-- EN of a comparator. -/
def Dev.cmpEn (d : Dev) (n : Nat) : Bool := d.bit (Reg.CMP_CH_CFG n) 31
/-- The filtered state f. -/
def Dev.cmpF (d : Dev) (n : Nat) : Bool := d.bit (Reg.CMP_STATE (n / 32)) (n % 32)
/-- The latch. -/
def Dev.cmpLatch (d : Dev) (n : Nat) : Bool := d.bit (Reg.CMP_LATCH (n / 32)) (n % 32)

/-- The raw state after a decision (R228). -/
def cmpRaw (pol : Bool) (hi lo code : Int) (r : Bool) : Bool :=
  if pol then (if code < lo then true else if code > hi then false else r)
  else (if code > hi then true else if code < lo then false else r)

/-- The filtered state from the last M raw samples (R229). -/
def cmpFilter (k : Nat) (hist : List Bool) (f : Bool) : Bool :=
  if k ≤ (hist.filter (· == true)).length then true else if k ≤ (hist.filter (· == false)).length then false else f

/-- A test of R324 runs on a channel (kind 0) or comparator (kind 1). -/
def Dev.testing (d : Dev) (kind n : Nat) : Bool := match d.gdp.test with | some (k, i, _) => k == kind && i == n | none => false

/-- What a comparator sees at its `i`-th decision of a test (R324): for M + 1 decisions a level 64 codes beyond the activating threshold, then one 64 codes beyond the
releasing threshold. -/
def Dev.testLevel (d : Dev) (n i : Nat) : Int :=
  let above := decide (i ≤ d.fld (Reg.CMP_CH_CFG n) 11 8) != d.bit (Reg.CMP_CH_CFG n) 30
  if above then d.cmpHi n + 64 else d.cmpLo n - 64

/-- COMPARATOR_DECISION (R228 to R230): at a CMPCK edge the raw state follows the input, the filter follows the raw state, and a rising edge of f
sets the latch, which is the request of source 96 + n: a latch that is set already makes no second event (R33). While a test runs on the comparator its input is an internal level
and the latch is held clear (R324). -/
def execComparatorDecision (t : Nat) (n : Fin 48) (code : Nat) (s : State) : Out :=
  act t s fun x d => d.liveIn 14 fun d =>
    let n := n.val
    if !d.cmpEn n then d
    else
      let c := nth CmpCh.init d.cmp n
      let m := d.fld (Reg.CMP_CH_CFG n) 11 8
      let input := if d.testing 1 n then d.testLevel n c.tested else toSigned 14 code
      let r := cmpRaw (d.bit (Reg.CMP_CH_CFG n) 30) (d.cmpHi n) (d.cmpLo n) input c.raw
      let hist := (r :: c.hist ++ List.replicate 15 false).take 15
      let was := d.cmpF n
      let f := cmpFilter (d.fld (Reg.CMP_CH_CFG n) 3 0) (hist.take m) was
      let d := { d with cmp := updN 48 CmpCh.init d.cmp n (fun _ => { raw := r, hist := hist, tested := if d.testing 1 n then c.tested + 1 else 0 }) }
      let d := d.setB (Reg.CMP_STATE (n / 32)) (n % 32) f
      if f && !was && !d.testing 1 n && !d.bit (Reg.CMP_LATCH (n / 32)) (n % 32) then
        (d.setB (Reg.CMP_LATCH (n / 32)) (n % 32) true).raise .per x (96 + n) (0x1000 + n)
          [(2, d.fld (Reg.CMP_CH_THR n) 29 16), (2, d.fld (Reg.CMP_CH_THR n) 13 0)]
      else d

/-- The conditions of R216 on a comparator. -/
def Dev.cmpOk (d : Dev) (n : Nat) : Bool :=
  let m := d.fld (Reg.CMP_CH_CFG n) 11 8
  let k := d.fld (Reg.CMP_CH_CFG n) 3 0
  decide (1 ≤ m) && decide (m / 2 + 1 ≤ k) && decide (k ≤ m) &&
    decide (toSigned 14 (d.fld (Reg.CMP_CH_THR n) 13 0) ≤ toSigned 14 (d.fld (Reg.CMP_CH_THR n) 29 16))

/-- A bus write of a comparator's CFG or THR register (R216, R231): refused where the comparator would be enabled in breach; EN from 0 to 1
starts from r, f and history 0 with the latch clear, from 1 to 0 stops sampling with r and f 0 and the latch kept. -/
def Dev.wrCmp (d : Dev) (ld : Bool) (n a : Nat) (v : Word) : Dev :=
  let d1 := d.rw a v
  if !ld && d1.cmpEn n && !d1.cmpOk n then d.setB Reg.CMP_STAT 0 true
  else
    let clear (d : Dev) : Dev := { d.setB (Reg.CMP_STATE (n / 32)) (n % 32) false with cmp := updN 48 CmpCh.init d.cmp n (fun _ => CmpCh.init) }
    if !d.cmpEn n && d1.cmpEn n then (clear d1).setB (Reg.CMP_LATCH (n / 32)) (n % 32) false
    else if d.cmpEn n && !d1.cmpEn n then clear d1
    else d1

/-- CMP_ENABLE_WRITE (R231). -/
def execCmpEnableWrite (t : Nat) (n : Fin 48) (v : Word) (s : State) : Out :=
  act t s fun _ d => d.live fun d => d.wrCmp false n.val (Reg.CMP_CH_CFG n.val) v

/-- At each T0 the latches with AUTOCLR whose f is 0 clear (R230). -/
def Dev.cmpT0 (d : Dev) : Dev :=
  (List.range 48).foldl (fun d n =>
    if d.bit (Reg.CMP_CH_CFG n) 29 && !d.cmpF n then d.setB (Reg.CMP_LATCH (n / 32)) (n % 32) false else d) d

end Sys2Proof.Machine
end

