-- ==== Sys2Proof/Machine/Gdp.lean ====
section
/-! DEFINITION. Machine/Gdp.lean: the gate protection: fault inputs, blanking, leg faults, Quench and release, off-state diagnostics and
channel tests (R306 to R326). -/

namespace Sys2Proof.Machine

/-! ### Shared consequences for the image loader (R65, R72, R150) -/

/-- A load or hot update ends without effect: its code, and event 244 with code and slot (R65); the swaps that waited for the switch boundary of a hot update
take effect at the next T0, or at the T0 of their own boundary if that is later (R150). -/
def Dev.imgReject (d : Dev) (x code : Nat) : Dev :=
  let d := (d.setF Reg.IMG_RESULT 15 0 code).setF Reg.IMG_STAT 3 0 0
  { d with img := { d.img with next := none, nextPlace := none, hot := false }
           lp := { d.lp with swaps := d.lp.swaps.map (fun (p : SwapPend) => if p.hot then { p with hot := false, frame := laterFrm p.frame ((d.frame + 1) % 2 ^ 32) } else p) } }.raise
    .per x 244 code [(1, d.img.slot), (2, code)]

/-- A hot update before STAGED is aborted with 0xD111 (R72). -/
def Dev.hotAbort (d : Dev) (x : Nat) : Dev :=
  let st := d.fld Reg.IMG_STAT 3 0
  if d.img.hot && (st == 1 || st == 2) then d.imgReject x 0xD111 else d

/-! ### Channels and bridges -/

/-- A PWM channel. -/
def Dev.pch (d : Dev) (n : Nat) : PwmCh := nth PwmCh.init d.pwm n
/-- The device with one PWM channel changed. -/
def Dev.setPch (d : Dev) (n : Nat) (f : PwmCh → PwmCh) : Dev := { d with pwm := updN 96 PwmCh.init d.pwm n f }
/-- A channel of the gate protection. -/
def Dev.gch (d : Dev) (n : Nat) : GdpCh := nth GdpCh.init d.gdp.ch n
/-- The device with one channel of the gate protection changed. -/
def Dev.setGch (d : Dev) (n : Nat) (f : GdpCh → GdpCh) : Dev := { d with gdp := { d.gdp with ch := updN 96 GdpCh.init d.gdp.ch n f } }
/-- A bridge of the gate protection. -/
def Dev.gbr (d : Dev) (b : Nat) : GdpBr := nth { reqs := [], clear := none, quenchedAt := 0, diagHold := false } d.gdp.br b
/-- The device with one bridge changed. -/
def Dev.setGbr (d : Dev) (b : Nat) (f : GdpBr → GdpBr) : Dev := { d with gdp := { d.gdp with br := updN 6 { reqs := [], clear := none, quenchedAt := 0, diagHold := false } d.gdp.br b f } }

/-- Bridge, phase and leg of a channel by the running image's CHANNEL_MAP; none for an unused channel (R49). -/
def Dev.chUse (d : Dev) (n : Nat) : Option (Nat × Nat × Nat) :=
  match d.img.run with
  | none => none
  | some im => let e := nth (0xFF, 0, 0) im.chmap n; if e.1 < 6 then some e else none

/-- The used channels of a bridge. -/
def Dev.brChans (d : Dev) (b : Nat) : List Nat :=
  (List.range 96).filter (fun n => match d.chUse n with | some u => u.1 == b | none => false)
/-- A bridge is quenched. -/
def Dev.quenched (d : Dev) (b : Nat) : Bool := d.bit (Reg.GDP_BR_STAT b) 0
/-- QUENCH_RULE of a bridge. -/
def Dev.brRule (d : Dev) (b : Nat) : Nat := d.fld (Reg.GDP_BR_CFG b) 26 25
/-- LEG_ALLOWANCE of a bridge. -/
def Dev.brAllow (d : Dev) (b : Nat) : Nat := d.fld (Reg.GDP_BR_CFG b) 31 27
/-- Lost legs of a phase of a bridge. -/
def Dev.brLost (d : Dev) (b p : Nat) : Nat := d.fld (Reg.GDP_BR_LOST b) (8 * p + 7) (8 * p)
/-- LOST of a channel. -/
def Dev.legLost (d : Dev) (n : Nat) : Bool := d.bit (Reg.GDP_CH_STAT n) 31
/-- The filtered FLT of a channel is low. -/
def Dev.fltLow (d : Dev) (n : Nat) : Bool := d.bit (Reg.GDP_CH_STAT n) 28
/-- FLT_EN of a channel. -/
def Dev.fltEn (d : Dev) (n : Nat) : Bool := d.bit (Reg.GDP_CH_CFG n) 31
/-- OC_EN of a channel. -/
def Dev.ocEn (d : Dev) (n : Nat) : Bool := d.bit (Reg.GDP_CH_CFG n) 30
/-- A channel is inside its blanking window (R308). -/
def Dev.inWindow (d : Dev) (x n : Nat) : Bool := decide (x < (d.gch n).winEnd)

/-- A quench request made at `x` is on its way to a bridge (R317); a hot update before STAGED is aborted (R72). -/
def Dev.quenchReq (d : Dev) (x at_ b cause : Nat) : Dev := (d.hotAbort x).setGbr b fun r => { r with reqs := r.reqs ++ [(at_, cause)] }

/-- Both commands of a channel go off at the output of the stage. -/
def Dev.gateOff (d : Dev) (x n : Nat) : Dev :=
  d.setGch n fun g => { g with gHi := false, gLo := false, offHi := if g.gHi then x else g.offHi, offLo := if g.gLo then x else g.offLo, patAt := none }

/-- The outcome of a leg fault in a bridge (R313): 3 already quenched, 2 bridge fault, 1 allowance exceeded, 0 the bridge runs on. -/
def Dev.legOutcome (d : Dev) (b p n : Nat) : Nat :=
  let det := (d.gch n).det
  let near (m : Nat) : Bool :=
    match d.chUse m with
    | some u => u.1 == b && u.2.1 != p && d.legLost m && (d.gch m).decided && decide ((d.gch m).det ≤ det + 250 * uNs) && decide (det ≤ (d.gch m).det + 250 * uNs)
    | none => false
  if d.quenched b then 3
  else if (List.range 96).any near then 2
  else if d.brAllow b < d.brLost b p then 1
  else 0

/-- A leg fault (R312, R313). No leg fault is decided while the pair hold is in force (R328) or on a leg that is lost already. -/
def Dev.legFault (d : Dev) (x n cause : Nat) : Dev :=
  if d.legLost n || d.twn.pairHold then d
  else
    let st := Reg.GDP_CH_STAT n
    let d := ((d.gateOff x n).setB st 31 true).setF st 26 24 cause
    let d := d.setGch n fun g => { g with decided := true, det := if cause = 3 then x else g.det }
    match d.chUse n with
    | none =>
      let e := match d.img.run with | some im => nth (0xFF, 0, 0) im.chmap n | none => (0xFF, 0, 0)
      d.raise .pin x n n [(1, cause), (1, e.1), (1, e.2.1), (1, e.2.2), (1, 0), (1, 0)]
    | some (b, p, leg) =>
      let d := ((d.inc (Reg.GDP_BR_LOST b) (8 * p + 7) (8 * p)).setB Reg.GDP_STAT 3 true).setB (Reg.GDP_BR_OK b p) leg false
      let o := d.legOutcome b p n
      let d := if o = 2 then (d.quenchReq x (x + uNs) b 4).setB Reg.GDP_STAT 4 true else if o = 1 then d.quenchReq x (x + uNs) b 3 else d
      d.raise .pin x n n [(1, cause), (1, b), (1, p), (1, leg), (1, d.brLost b p), (1, o)]

/-- The commands a channel should have at the output of the stage: off when lost, under test (R324) or held by diagnostics; the rule's pattern when its bridge is quenched
(R316); else the commands of the reference, held off for DT after a release (R319). -/
def Dev.gateWant (d : Dev) (x n : Nat) : Bool × Bool :=
  let g := d.gch n
  let p := d.pch n
  let due := match g.patAt with | some a => decide (a ≤ x) | none => false
  let follow := if x < g.relAt then (false, false) else (p.hi, p.lo)
  if d.legLost n || d.testing 0 n then (false, false)
  else match d.chUse n with
    | none => follow
    | some (b, _, _) =>
      if (d.gbr b).diagHold then (false, false)
      else if d.quenched b then
        (if d.brRule b = 1 then (false, g.gLo || due) else if d.brRule b = 2 then (g.gHi || due, false) else (false, false))
      else follow

/-- The output of the stage follows what it should be. A turn-on while the filtered FLT is low is a leg fault of cause 4 (R311); any other opens or restarts the
blanking window with the settings of that moment (R308, R325). -/
def Dev.gate (d : Dev) (x n : Nat) : Dev :=
  let w := d.gateWant x n
  let g := d.gch n
  let d := d.setGch n fun g =>
    { g with gHi := g.gHi && w.1, gLo := g.gLo && w.2, offHi := if g.gHi && !w.1 then x else g.offHi, offLo := if g.gLo && !w.2 then x else g.offLo }
  let on := (w.1 && !g.gHi) || (w.2 && !g.gLo)
  if !on then d
  else if d.fltEn n && d.fltLow n && !d.twn.pairHold then d.legFault x n 4
  else
    let blank := d.fld (Reg.GDP_CH_CFG n) 13 0
    d.setGch n fun g =>
      { g with gHi := w.1, gLo := w.2, patAt := none, blank := blank, filt := d.fld (Reg.GDP_CH_CFG n) 23 16
               winEnd := if blank = 0 then g.winEnd else ceilDiv x uNs * uNs + blank * uNs }

/-- The pattern of a quench rule begins on a channel (R316): the rule's side turns on DT after the other side went off, or at once. -/
def Dev.patStart (d : Dev) (x b n : Nat) : Dev :=
  let g := d.gch n
  let dt := (d.pch n).dt * uNs
  let rule := d.brRule b
  let off := if rule = 1 then (if g.gHi then x else g.offHi) else if g.gLo then x else g.offLo
  let onNow := if rule = 1 then g.gLo else g.gHi
  (d.setGch n fun g => { g with patAt := if rule = 0 || rule = 3 || onNow then none else some (Nat.max x (off + dt)) }).gate x n

/-- A quench request presents (R316, R317): entry with its cause, or one more cause bit. A waiting release is cancelled (R319); a takeover in progress
notes the request (R344). -/
def Dev.quenchEnter (d : Dev) (x b cause : Nat) : Dev :=
  let st := Reg.GDP_BR_STAT b
  let was := d.quenched b
  let d := (d.setB st (8 + cause) true).setGbr b fun r => { r with clear := none }
  let d := if d.twn.takeoverHold then { d with twn := { d.twn with txQuench := b :: d.twn.txQuench } } else d
  if was then d
  else
    let d := ((d.setB st 0 true).wrN (Reg.GDP_BR_QTIME b) (d.ns x)).setGbr b fun r => { r with quenchedAt := x }
    let d := (d.brChans b).foldl (fun d n => if d.legLost n then d else d.patStart x b n) d
    d.logDirect x 0 (0x0200 + b) [(1, d.fld st 14 8), (1, d.brRule b)]

/-- Every request to a bridge whose instant has come presents. -/
def Dev.quenchPresent (d : Dev) (x b : Nat) : Dev :=
  let due := (d.gbr b).reqs.filter (fun r => decide (r.1 ≤ x))
  let d := d.setGbr b fun r => { r with reqs := r.reqs.filter (fun q => decide (x < q.1)) }
  due.foldl (fun d r => d.quenchEnter x b r.2) d

/-- QUENCH_PRESENT (R316). -/
def execQuenchPresent (t : Nat) (b : Fin 6) (s : State) : Out := act t s fun x d => d.liveIn 7 fun d => d.quenchPresent x b.val

/-- QUENCH (R317): firmware requests Quench with cause 0. Before STAGED, a hot update is aborted (R72). -/
def execQuench (t : Nat) (b : Fin 6) (s : State) : Out :=
  act t s fun x d => d.live fun d => d.quenchReq x (presentAt x) b.val 0

/-- A trip group latches (R318): the bridges of its mask are quenched with cause 2. -/
def Dev.tripLatch (d : Dev) (x at_ g : Nat) : Dev :=
  let d := d.setB Reg.GDP_TG_LATCH g true
  (onesBelow 6 (d.fld (Reg.GDP_TG_CFG g) 5 0)).foldl (fun d b => d.quenchReq x at_ b 2) d

/-- The power state leaves RUN_ARMED: every bridge quenches with cause 5 (R317). -/
def Dev.quenchPower (d : Dev) (x : Nat) : Dev := (List.range 6).foldl (fun d b => d.quenchReq x (presentAt x) b 5) d

/-- Entries of the diagnostics that run: COUNT as it was at the start. -/
def Dev.diagCount (d : Dev) : Nat := match d.gdp.diag with | some r => r.count | none => 0

/-- A bridge is named in an entry of the diagnostics that run. -/
def Dev.diagNames (d : Dev) (b : Nat) : Bool :=
  (List.range d.diagCount).any (fun i => d.fld (Reg.GDP_DIAG_E i) 30 28 == b)

/-- A release request (R319): refused, or granted for the first T0 at least 4 PWM clocks after the write presents. -/
def Dev.clearReq (d : Dev) (x b : Nat) : Dev :=
  let trip := (onesBelow 16 (d.fld Reg.GDP_TG_LATCH 15 0)).any (fun g => (d.fld (Reg.GDP_TG_CFG g) 5 0).testBit b)
  let exceeds := (List.range 3).any (fun p => decide (d.brAllow b < d.brLost b p))
  let diag := d.gdp.diag.isSome && d.diagNames b
  if !d.armed || trip || exceeds || diag || !d.quenched b then d.setB Reg.GDP_STAT 1 true
  else d.setGbr b fun r => { r with clear := some (presentAt x + 4 * uNs) }

/-- CLEAR (R319). -/
def execClear (t : Nat) (b : Fin 6) (s : State) : Out := act t s fun x d => d.live fun d => d.clearReq x b.val

/-! ### Fault inputs (R306 to R311) -/

/-- FLT_PIN_LOW (R307): the pin falls. Outside blanking the unclocked path holds both pins at the off level (`Dev.pinHeld`), also while the domains are
stopped. -/
def execFltPinLow (t : Nat) (n : Fin 96) (s : State) : Out :=
  act t s fun x d => d.setGch n.val fun g => if g.pinLow then g else { g with pinLow := true, pinAt := x }

/-- FLT_PIN_HIGH (R307): the pin returns high. -/
def execFltPinHigh (t : Nat) (n : Fin 96) (s : State) : Out :=
  act t s fun x d => d.setGch n.val fun g => if g.pinLow then { g with pinLow := false, pinAt := x } else g

/-- The unclocked path of a channel passes a low this long after it began: its glitch filter takes 40 ns, the whole path at most 120 ns (R307). -/
def fltPathAt (n fall : Nat) : Nat := fall + 40 * uNs + Sys2Proof.Config.fltPath n % (80 * uNs + 1)

/-- The unclocked path holds the pins of a channel at the off level (R307). -/
def Dev.pinHeld (d : Dev) (x n : Nat) : Bool := d.fltEn n && (d.gch n).pinLow && decide (fltPathAt n (d.gch n).pinAt ≤ x) && !d.inWindow x n

/-- The protection level marks a pending channel inside its window (R309). -/
def Dev.ocMark (d : Dev) (x n : Nat) : Dev :=
  if d.bit (Reg.GDP_CH_STAT n) 30 && (d.sdi n).prot && d.inWindow x n then d.setB (Reg.GDP_CH_STAT n) 29 true else d

/-- FLT_DETECTION (R306, R309 to R311): the pin has been low for FLT_FILT. Inside a window the channel becomes pending; outside it, with a command on, it is a leg
fault of cause 0. A lost leg keeps the detection instant of its fault (R313). -/
def execFltDetection (t : Nat) (n : Fin 96) (s : State) : Out :=
  act t s fun x d => d.liveIn 7 fun d =>
    let n := n.val
    let g := d.gch n
    if !d.fltEn n || !g.pinLow || d.fltLow n || x < g.pinAt + g.filt * uNs then d
    else
      let d := (d.setB (Reg.GDP_CH_STAT n) 28 true).wrN (Reg.GDP_CH_TDET n) (d.ns x)
      let d := d.setGch n fun g => if d.legLost n then { g with lowAt := x } else { g with det := x, lowAt := x, decided := false }
      if d.inWindow x n then (d.setB (Reg.GDP_CH_STAT n) 30 true).ocMark x n
      else if g.gHi || g.gLo then d.legFault x n 0
      else d

/-- FLT_FILTER_RELEASE (R306): the pin has been high for FLT_FILT. -/
def execFltFilterRelease (t : Nat) (n : Fin 96) (s : State) : Out :=
  act t s fun x d => d.liveIn 7 fun d =>
    let n := n.val
    let g := d.gch n
    if g.pinLow || !d.fltLow n || x < g.pinAt + g.filt * uNs then d
    else (d.setB (Reg.GDP_CH_STAT n) 28 false).setGch n fun g => { g with lowDur := x - g.lowAt }

/-- With OC_EN a protection comparator that is active outside the blanking window is a leg fault of cause 3 (R310). -/
def Dev.protJudge (d : Dev) (x n : Nat) : Dev := if (d.sdi n).prot && d.ocEn n && !d.inWindow x n then d.legFault x n 3 else d

/-- BLANKING_WINDOW_END (R309, R310): a pending channel is judged; without a pending mark an active comparator is a fault of cause 3. -/
def execBlankingWindowEnd (t : Nat) (n : Fin 96) (s : State) : Out :=
  act t s fun x d => d.liveIn 7 fun d =>
    let n := n.val
    let g := d.gch n
    let st := Reg.GDP_CH_STAT n
    if g.winEnd = 0 || x < g.winEnd then d
    else
      let pend := d.bit st 30
      let mark := d.bit st 29
      let d := ((d.setGch n fun g => { g with winEnd := 0 }).setB st 30 false).setB st 29 false
      if pend then
        if d.fltLow n then d.legFault x n 1
        else if mark then d.legFault x n 2
        else
          let d := ((d.inc Reg.GDP_PDROP_CNT 31 0).setB st 0 true).setB Reg.GDP_STAT 2 true
          (d.logDirect x 0 (0x0100 + n) [(2, g.lowDur / uNs), (1, b2n mark)]).protJudge x n
      else d.protJudge x n

/-- A turn-on due by `e` opens a blanking window on a channel (R308). -/
def Dev.opensBy (d : Dev) (e n : Nat) : Bool :=
  let due (o : Option Nat) : Bool := match o with | some a => decide (a ≤ e) | none => false
  d.fld (Reg.GDP_CH_CFG n) 13 0 != 0 && (due (d.pch n).hiOn || due (d.pch n).loOn || due (d.gch n).patAt)

/-- PROTECTION_LEVEL_CHANGE (R210, R310): the protection comparator of SDI n changes; its level presents 2 PWM clocks later. Inside a window an active level marks a pending
channel; outside it, with OC_EN, it is a leg fault of cause 3 in the second PWM clock after that. A window that ends or opens before the level presents judges it at its end. The
spare pair compares the decision (R215). -/
def execProtectionLevelChange (t : Nat) (n : Fin 96) (w : SdiWindow) (s : State) : Out :=
  act t s fun x d => d.liveIn 7 fun d =>
    let n := n.val
    let lv := d.sdiProt x n w.bits
    let d := d.setSdi n fun c => { c with prot := lv }
    let d := if w.spareDiffers && !decide (x < (d.sdi n).maskEnd) then d.spareMismatch x n else d
    let p := x + 2 * uNs
    if !lv then d
    else if d.inWindow p n then d.ocMark p n
    else if d.inWindow x n || d.opensBy p n then d
    else if d.ocEn n then d.legFault (p + 2 * uNs) n 3
    else d

/-- A LOST mark of a used channel clears, by RESTORE or by mirroring (R314, R338): the lost count and OK follow, the leg takes up its bridge's pattern (R316), and a protection
comparator that is active outside a window faults it again (R310). -/
def Dev.legClear (d : Dev) (x n b p leg : Nat) : Dev :=
  let d := (d.setB (Reg.GDP_CH_STAT n) 31 false).setF (Reg.GDP_BR_LOST b) (8 * p + 7) (8 * p) (d.brLost b p - 1)
  let d := d.setGch n fun g => { g with det := g.lowAt, decided := false }
  let d := d.setB (Reg.GDP_BR_OK b p) leg true
  (if d.quenched b then d.patStart x b n else d.gate x n).protJudge x n

/-- A LOST mark takes the owner's, without an event (R338): a new one turns its leg off, and OK follows. -/
def Dev.legMirror (d : Dev) (x n : Nat) (v : Bool) : Dev :=
  if d.legLost n == v then d
  else
    match d.chUse n with
    | none => (d.setB (Reg.GDP_CH_STAT n) 31 v).gate x n
    | some (b, p, leg) =>
      if v then (((d.gateOff x n).setB (Reg.GDP_CH_STAT n) 31 true).setB (Reg.GDP_BR_OK b p) leg false) else d.legClear x n b p leg

/-- A write of RESTORE (R314): a lost leg of a quenched bridge whose filtered FLT is high, outside RUN_ARMED, is restored. -/
def Dev.restoreLeg (d : Dev) (x n : Nat) : Dev :=
    match d.chUse n with
    | none => d.setB Reg.GDP_STAT 0 true
    | some (b, p, leg) =>
      if !d.quenched b || d.fltLow n || d.armed then d.setB Reg.GDP_STAT 0 true
      else if !d.legLost n then d
      else
        d.legClear x n b p leg

/-- RESTORE (R314). -/
def execRestore (t : Nat) (n : Fin 96) (s : State) : Out := act t s fun x d => d.live fun d => d.restoreLeg x n.val

/-! ### Off-state diagnostics (R321 to R323) -/

/-- The measured value of a channel's newest result. -/
def Dev.adcNow (d : Dev) (c : Nat) : F32 := d.adcValue c (toSigned 14 (d.fld (Reg.ADC_CH_DATA c) 13 0)) 1

/-- The bridges named in the entries to run. -/
def Dev.diagBridges (d : Dev) (count : Nat) : List Nat :=
  ((List.range count).map (fun i => d.fld (Reg.GDP_DIAG_E i) 30 28)).eraseDups

/-- A test source's current in 0.1 mA. -/
def Dev.setTdac (d : Dev) (k v : Nat) : Dev := { d with gdp := { d.gdp with tdac := updN 4 0 d.gdp.tdac k (fun _ => v) } }
/-- Entry `i` starts: its source is off and the settling time runs. -/
def Dev.diagEntry (d : Dev) (x i : Nat) : Dev :=
  let d := (d.setF Reg.GDP_DIAG_STAT 4 0 i).setTdac (d.fld (Reg.GDP_DIAG_E i) 21 20) 0
  { d with gdp := { d.gdp with diag := d.gdp.diag.map (fun r => { r with stage := 0, v0 := 0, vdc := 0, since := x }) } }

/-- A write of DIAG_CTRL.START (R321, R323). -/
def Dev.diagStart (d : Dev) (x : Nat) : Dev :=
  let count := d.fld Reg.GDP_DIAG_CTRL 4 0
  let bad (i : Nat) : Bool :=
    let e := Reg.GDP_DIAG_E i
    d.fld e 15 8 < 10 || decide (200 < d.fld e 15 8) || decide (55 < d.fld e 5 0)
  let vdc := d.adcNow (d.fld Reg.GDP_DIAG_CFG 29 24)
  if d.armed || (d.diagBridges count).any (fun b => !d.quenched b) || count == 0 || decide (24 < count) || (List.range count).any bad ||
      !Fp.ge vdc (d.rd Reg.GDP_DIAG_VDCMIN) || d.gdp.diag.isSome then d.setB Reg.GDP_DIAG_STAT 28 true
  else
    let d := (List.range 24).foldl (fun d i => (d.wrN (Reg.GDP_DIAG_R i) 0).wrN (Reg.GDP_DIAG_DV i) 0) (d.setB Reg.GDP_DIAG_STAT 31 true)
    let d := (d.diagBridges count).foldl (fun d b =>
      let d := d.setGbr b fun r => { r with diagHold := true }
      (d.brChans b).foldl (fun d n => d.gate x n) d) d
    { d with gdp := { d.gdp with diag := some { stage := 0, count := count, v0 := 0, vdc := 0, since := x } } }.diagEntry x 0

/-- The end of a run (R323, R507): DONE, one log entry, the rules' patterns return; a clean run sets DIAG_OK. -/
def Dev.diagEnd (d : Dev) (x run : Nat) (aborted : Bool) : Dev :=
  let count := d.diagCount
  let codes := (List.range 24).map (fun i => d.fld (Reg.GDP_DIAG_R i) 2 0)
  let d := { d with gdp := { d.gdp with diag := none, tdac := [0, 0, 0, 0] } }
  let d := ((d.setB Reg.GDP_DIAG_STAT 31 false).setB Reg.GDP_DIAG_STAT 30 true)
  let d := if aborted then d.setB Reg.GDP_DIAG_STAT 29 true else d
  let d := (d.diagBridges count).foldl (fun d b =>
    let d := d.setGbr b fun r => { r with diagHold := false }
    (d.brChans b).foldl (fun d n => if d.quenched b && !d.legLost n then d.patStart x b n else d) d) d
  let nib := (List.range 12).map (fun i => (1, nth 0 codes (2 * i) + 16 * nth 0 codes (2 * i + 1)))
  let d := d.logDirect x 0 0x0210 ([(1, run), (1, b2n aborted)] ++ nib)
  if !aborted && (codes.take run).all (· == 1) then (d.setB Reg.SYS_BOOT 30 true).readyNote x else d

/-- The run is stopped (R323): a completed entry keeps its result. -/
def Dev.diagStop (d : Dev) (x : Nat) : Dev := if d.gdp.diag.isSome then d.diagEnd x (d.fld Reg.GDP_DIAG_STAT 4 0) true else d

/-- A write of GDP_DIAG_CTRL: COUNT, START and ABORT. A run keeps the COUNT of its start. -/
def Dev.wrDiagCtrl (d : Dev) (x : Nat) (v : Word) : Dev :=
  let d := d.rw Reg.GDP_DIAG_CTRL v
  let d := if tbit v 30 then d.diagStop x else d
  if tbit v 31 then d.diagStart x else d

/-- DIAG_START (R321). -/
def execDiagStart (t : Nat) (v : Word) (s : State) : Out := act t s fun x d => d.live fun d => d.wrDiagCtrl x (setBit v 31 true)

/-- DIAG_ABORT (R323). -/
def execDiagAbort (t : Nat) (s : State) : Out := act t s fun x d => d.live fun d => d.diagStop x

/-- The diagnostics move to another stage. -/
def Dev.diagStage (d : Dev) (r : DiagRun) : Dev := { d with gdp := { d.gdp with diag := some r } }

/-- DIAG_SETTLE_END (R321): SETTLE_MS have passed. -/
def execDiagSettleEnd (t : Nat) (s : State) : Out :=
  act t s fun x d => d.liveIn 7 fun d =>
    match d.gdp.diag with
    | some r => if r.stage = 0 && decide (r.since + d.fld Reg.GDP_DIAG_CFG 23 16 * uMs ≤ x) then d.diagStage { r with stage := 1, since := x } else d
    | none => d

/-- DIAG_DWELL_END (R321): DWELL_MS have passed. -/
def execDiagDwellEnd (t : Nat) (s : State) : Out :=
  act t s fun x d => d.liveIn 7 fun d =>
    match d.gdp.diag with
    | some r => if r.stage = 2 && decide (r.since + d.fld Reg.GDP_DIAG_CFG 15 0 * uMs ≤ x) then d.diagStage { r with stage := 3, since := x } else d
    | none => d

/-- The mean of the next 16 sequencer results of a channel after an instant, once they are there (R321). -/
def Dev.mean16 (d : Dev) (c since : Nat) : Option F32 :=
  let b := adcBankOf c
  let rs := ((d.bank b).results.filter (fun r => r.ch == c - 12 * b && decide (since < r.left))).reverse.take 16
  if rs.length < 16 then none else some (d.adcValue c (rs.foldl (fun a r => a + r.code) 0) 16)

/-- The result code of an entry (R322). -/
def Dev.diagCode (d : Dev) (v0 vdc v1 : F32) : Nat :=
  let dv := Fp.sub v1 v0
  if Fp.ge dv (d.rd Reg.GDP_DIAG_DVMAX) then 2 else if Fp.ge dv (d.rd Reg.GDP_DIAG_DVMIN) then 1
  else if Fp.gt v0 (Fp.div vdc Fp.two) then 3 else 4

/-- DIAG_MEANS_TAKEN (R321 to R323): the results of the present stage are there. -/
def execDiagMeansTaken (t : Nat) (s : State) : Out :=
  act t s fun x d => d.liveIn 7 fun d =>
    let i := d.fld Reg.GDP_DIAG_STAT 4 0
    let e := Reg.GDP_DIAG_E i
    let k := d.fld e 21 20
    let ch := d.fld e 5 0
    match d.gdp.diag with
    | none => d
    | some r =>
      if r.stage = 1 then
        match d.mean16 ch r.since, d.mean16 (d.fld Reg.GDP_DIAG_CFG 29 24) r.since with
        | some v0, some vdc => (d.setTdac k (d.fld e 15 8)).diagStage { r with stage := 2, v0 := v0, vdc := vdc, since := x }
        | _, _ => d
      else if r.stage = 3 then
        match d.mean16 ch r.since with
        | none => d
        | some v1 =>
          let d := ((d.setTdac k 0).wrN (Reg.GDP_DIAG_R i) (d.diagCode r.v0 r.vdc v1)).wr (Reg.GDP_DIAG_DV i) (Fp.sub v1 r.v0)
          if i + 1 < r.count then d.diagEntry x (i + 1) else d.diagEnd x (i + 1) false
      else d

/-! ### Tests (R324) -/

/-- A write of GDP_TEST_CTRL (R324). -/
def Dev.wrTestCtrl (d : Dev) (x : Nat) (v : Word) : Dev :=
  let d := d.rw Reg.GDP_TEST_CTRL v
  if !tbit v 31 then d
  else
    let i := d.fld Reg.GDP_TEST_CTRL 6 0
    let kind := b2n (d.bit Reg.GDP_TEST_CTRL 24)
    let ok :=
      if kind = 0 then decide (i < 96) && !d.bit (Reg.PWM_CH_CFG i) 31 && (match d.chUse i with | some u => d.quenched u.1 | none => true)
      else decide (i < 48) && d.cmpEn i && decide (d.cmpHi i + 64 ≤ 8191) && decide (-8192 ≤ d.cmpLo i - 64)
    if d.armed || d.gdp.test.isSome || d.gdp.diag.isSome || !ok then d.setF Reg.GDP_TEST_STAT 30 29 3
    else
      let len := if kind = 0 then 200 * uUs else (2 * d.fld (Reg.CMP_CH_CFG i) 11 8 + 4) * 40 * uNs
      let d := if kind = 0 then d else { d.setB (Reg.CMP_LATCH (i / 32)) (i % 32) false with cmp := updN 48 CmpCh.init d.cmp i (fun c => { c with tested := 0 }) }
      let d := (d.setB Reg.GDP_TEST_STAT 31 true).setF Reg.GDP_TEST_STAT 30 29 0
      let d := { d with gdp := { d.gdp with test := some (kind, i, x + len) } }
      if kind = 0 then d.gate x i else d

/-- GDP_TEST_START (R324). -/
def execGdpTestStart (t : Nat) (v : Word) (s : State) : Out := act t s fun x d => d.live fun d => d.wrTestCtrl x (setBit v 31 true)

/-- GDP_TEST_END (R324): the test's time has passed; `failPart` names the part that failed. A comparator returns to its pin as R231 lays down, a
channel to its bridge's pattern. -/
def execGdpTestEnd (t : Nat) (failPart : Option Nat) (s : State) : Out :=
  act t s fun x d => d.liveIn 7 fun d =>
    match d.gdp.test with
    | none => d
    | some (kind, i, e) =>
      if x < e then d
      else
        let d := { d.setB Reg.GDP_TEST_STAT 31 false with gdp := { d.gdp with test := none } }
        let d := if kind = 1 then
            { (d.setB (Reg.CMP_STATE (i / 32)) (i % 32) false).setB (Reg.CMP_LATCH (i / 32)) (i % 32) false with cmp := updN 48 CmpCh.init d.cmp i (fun _ => CmpCh.init) }
          else match d.chUse i with
            | some (b, _, _) => if d.quenched b && !d.legLost i then d.patStart x b i else d.gate x i
            | none => d.gate x i
        match failPart with
        | none => d.setF Reg.GDP_TEST_STAT 30 29 1
        | some p => ((d.setF Reg.GDP_TEST_STAT 30 29 2).setF Reg.GDP_TEST_STAT 27 24 p).logDirect x 0 0x0211 [(1, kind), (1, i), (1, p)]

/-! ### Configuration and the T0 -/

/-- A write of a channel's CFG register (R325). Without FLT_EN the filter ignores the pin (R306); setting OC_EN judges a comparator that is active (R310). -/
def Dev.wrGdpCh (d : Dev) (ld : Bool) (x n : Nat) (v : Word) : Dev :=
  let d1 := d.rw (Reg.GDP_CH_CFG n) v
  let open_ := match d.chUse n with | some u => !d.quenched u.1 | none => false
  if !ld && (decide (8000 < d1.fld (Reg.GDP_CH_CFG n) 13 0) || decide (190 < d1.fld (Reg.GDP_CH_CFG n) 23 16) || ((!d1.fltEn n || !d1.ocEn n) && open_)) then
    d.setB Reg.GDP_STAT 0 true
  else
    let d1 := if d1.fltEn n then d1 else d1.setB (Reg.GDP_CH_STAT n) 28 false
    if !d.ocEn n then d1.protJudge x n else d1

/-- A write of a diagnostics entry or of GDP_DIAG_CFG: refused during a run (R325). -/
def Dev.wrDiagCfg (d : Dev) (a : Nat) (v : Word) : Dev := if d.gdp.diag.isSome then d.setB Reg.GDP_STAT 0 true else d.rw a v

/-- A write of a trip group's mask: a set latch quenches the bridges it now names (R318). -/
def Dev.wrTgCfg (d : Dev) (x g : Nat) (v : Word) : Dev :=
  let d := d.rw (Reg.GDP_TG_CFG g) v
  if d.bit Reg.GDP_TG_LATCH g then d.tripLatch x (presentAt x) g else d

/-- The conditions of R325 on a channel, for the loader. -/
def Dev.gdpChOk (d : Dev) (n : Nat) : Bool :=
  decide (d.fld (Reg.GDP_CH_CFG n) 13 0 ≤ 8000) && decide (d.fld (Reg.GDP_CH_CFG n) 23 16 ≤ 190)

/-- The release of a bridge at T0 (R319): the pattern goes off, and the commands that the reference holds on turn on DT later. -/
def Dev.release (d : Dev) (t0 b : Nat) : Dev :=
  let d := (d.setF (Reg.GDP_BR_STAT b) 14 8 0).setB (Reg.GDP_BR_STAT b) 0 false
  let d := (d.brChans b).foldl (fun d n =>
    let dt := (d.pch n).dt * uNs
    ((d.gateOff t0 n).setGch n fun g => { g with relAt := t0 + dt }).gate t0 n) d
  let d := if d.diagNames b then d.diagStop t0 else d
  d.logDirect t0 0 (0x0208 + b) [(4, (t0 - (d.gbr b).quenchedAt) / uMs)]

/-- At T0: quench requests that present by then (they cancel a release), releases whose CLEAR presented in time (R319), then the sample of every BRIDGE_IN (R315). -/
def Dev.gdpT0 (d : Dev) (t0 : Nat) : Dev :=
  let d := (List.range 6).foldl (fun d b => d.quenchPresent t0 b) d
  let d := (List.range 6).foldl (fun d b =>
    match (d.gbr b).clear with
    | some c => if c ≤ t0 && d.quenched b then (d.setGbr b fun r => { r with clear := none }).release t0 b else d
    | none => d) d
  let one (b : Nat) : List Word :=
    [BitVec.ofNat 32 (b2n (d.quenched b)), d.rd (Reg.GDP_BR_OK b 0), d.rd (Reg.GDP_BR_OK b 1), d.rd (Reg.GDP_BR_OK b 2),
     BitVec.ofNat 32 (d.brLost b 0 + d.brLost b 1 + d.brLost b 2), BitVec.ofNat 32 (d.fld (Reg.GDP_BR_STAT b) 14 8)]
  { d with gdp := { d.gdp with brIn := (List.range 6).map one } }

end Sys2Proof.Machine
end

