-- ==== Sys2Proof/Machine/Saf.lean ====
section
/-! DEFINITION. Machine/Saf.lean: the safety sequencer (R383 to R407). It works on VIO_F alone; a request to the Anvil and an access over the
register bus need the main domains. -/

namespace Sys2Proof.Machine

/-! ### The configuration (R59, R60, R399) -/

/-- ITEM_COUNT of a SAFETY section. -/
def safCount (c : List Byte) : Nat := leAt c 0x50 4

/-- The items of a section: number and value. -/
def safItems (c : List Byte) : List (Nat × Word) :=
  (chunks 8 (safCount c) (c.drop 0x60)).map (fun e => (leAt e 0 2, BitVec.ofNat 32 (leAt e 4 4)))

/-- The default of an item (R399). -/
def safDefault (num : Nat) : Word :=
  if num = 1 then 1000#32
  else if num = 2 then 0x01F40A00#32
  else if 0x10 ≤ num ∧ num < 0x18 then 0x00640000#32
  else if 0x30 ≤ num ∧ num < 0x34 then 200#32
  else 0

/-- The value of an item in a list of items; absent, its default. -/
def itemOf (l : List (Nat × Word)) (num : Nat) : Word :=
  match l.find? (fun p => p.1 == num) with
  | some p => p.2
  | none => safDefault num

/-- A known item number (R399). -/
def safKnown (num : Nat) : Bool :=
  num == 1 || num == 2 || (decide (0x10 ≤ num) && decide (num < 0x18)) || (decide (0x20 ≤ num) && decide (num < 0x30)) ||
    (decide (0x30 ≤ num) && decide (num < 0x34))

/-- The bits of an item value that R399's table marks reserved. -/
def safReserved (num : Nat) : Word :=
  if num = 2 then 0xFF#32
  else if 0x20 ≤ num ∧ num < 0x28 then 0x1000#32
  else if 0x28 ≤ num ∧ num < 0x30 then 0xFFFFFFC0#32
  else 0

/-- The range of an item value, T_PULSE given (R399). -/
def safRange (tp num : Nat) (v : Word) : Bool :=
  let lo := fld v 15 0
  let hi := fld v 31 16
  if num = 1 then decide (250 ≤ lo) && decide (lo ≤ 20000) && lo % 250 == 0
  else if num = 2 then decide (300 ≤ hi) && decide (hi ≤ 1000) && decide (1 ≤ fld v 15 8) && decide (fld v 15 8 ≤ 60)
  else if num < 0x18 then decide (1 ≤ hi) && decide (hi ≤ 500)
  else if num < 0x28 then decide (hi ≤ 10000)
  else if num < 0x30 then true
  else decide (100 ≤ lo) && decide (lo + 100 ≤ tp)

/-- The conditions of R399 on a whole configuration. -/
def safItemsOk (l : List (Nat × Word)) : Bool :=
  let tp := bitsOf (itemOf l 2) 31 16
  let used (i : Nat) : Bool := tbit (itemOf l (0x10 + i)) 0
  let rst (i : Nat) : Bool := tbit (itemOf l (0x10 + i)) 2
  l.all (fun p => safKnown p.1 && l.countP (fun q => q.1 == p.1) == 1) &&
  [1, 2, 0x10, 0x11, 0x12, 0x13, 0x14, 0x15, 0x16, 0x17, 0x20, 0x21, 0x22, 0x23, 0x24, 0x25, 0x26, 0x27, 0x30, 0x31, 0x32, 0x33].all
    (fun n => safRange tp n (itemOf l n)) &&
  (List.range 8).all (fun f =>
    let v := itemOf l (0x20 + f)
    let im := fld v 7 0
    (onesBelow 8 im).all (fun i => used i && !rst i) &&
    (im == 0 || ((onesBelow 4 (fld v 11 8)).all (fun k => tbit (itemOf l (0x30 + k)) 31) && used (fld v 15 13) && rst (fld v 15 13))))

/-- No reserved bit of an item value is set. -/
def safItemsClear (l : List (Nat × Word)) : Bool := l.all (fun p => p.2 &&& safReserved p.1 == 0)

/-- The change-log entries of a section (R60), in the order of the ring's places. -/
def safLog (c : List Byte) : List (List Byte) := chunks 32 256 (c.drop (0x60 + 8 * safCount c))

/-- The number of change-log entries in use. -/
def safUsed (c : List Byte) : Nat := (safLog c).countP (fun e => e.any (· != 0))

/-- The change number of the newest entry; 0 with none. -/
def safNewest (c : List Byte) : Nat :=
  let n := safUsed c
  if n = 0 then 0 else leAt (nth [] (safLog c) ((leAt c 0x54 4 + n - 1) % 256)) 8 4

/-- A byte string with bytes replaced from an offset. -/
def putBytes (c : List Byte) (o : Nat) (bs : List Byte) : List Byte := c.take o ++ bs ++ c.drop (o + bs.length)

/-- The section with one item changed or appended and its change-log entry written (R401): `t` in ns, change number, author. -/
def safChange (c : List Byte) (t chg : Nat) (s : SafStage) : List Byte :=
  let items := safItems c
  let old := itemOf items s.num
  let ent := leBytes 2 s.num ++ leBytes 2 0 ++ leBytes 4 s.val.toNat
  let n := safCount c
  let c1 := match items.findIdx? (fun p => p.1 == s.num) with
    | some i => putBytes c (0x60 + 8 * i) ent
    | none => putBytes (c.take (0x60 + 8 * n) ++ ent ++ c.drop (0x60 + 8 * n)) 0x50 (leBytes 4 (n + 1))
  let head := leAt c1 0x54 4
  let used := safUsed c1
  let body := leBytes 8 t ++ leBytes 4 chg ++ leBytes 2 s.num ++ leBytes 2 0 ++ leBytes 4 old.toNat ++ leBytes 4 s.val.toNat ++ leBytes 4 s.author.toNat
  let slot := (head + used) % 256
  let c2 := putBytes c1 (0x60 + 8 * safCount c1 + 32 * slot) (body ++ leBytes 4 (crc32 body).toNat)
  if used < 256 then c2 else putBytes c2 0x54 (leBytes 4 ((head + 1) % 256))

/-! ### Views of the sequencer -/

/-- The applied value of an item. -/
def Dev.safItem (d : Dev) (num : Nat) : Word := itemOf (safItems d.saf.copy) num
/-- SAF_STAT.STATE: 0 UNCONFIGURED, 1 RUN, 2 FAULT (R385). -/
def Dev.safState (d : Dev) : Nat := d.fld Reg.SAF_STAT 2 0
/-- T_FILT in units. -/
def Dev.tFilt (d : Dev) : Nat := bitsOf (d.safItem 1) 15 0 * uUs
/-- T_PULSE in units. -/
def Dev.tPulse (d : Dev) : Nat := bitsOf (d.safItem 2) 31 16 * uUs
/-- TEST_S in units. -/
def Dev.testS (d : Dev) : Nat := bitsOf (d.safItem 2) 15 8 * uS
/-- Pair i is used. -/
def Dev.pairUsed (d : Dev) (i : Nat) : Bool := tbit (d.safItem (0x10 + i)) 0
/-- Pair i is antivalent. -/
def Dev.pairAnti (d : Dev) (i : Nat) : Bool := tbit (d.safItem (0x10 + i)) 1
/-- Pair i is a reset input. -/
def Dev.pairReset (d : Dev) (i : Nat) : Bool := tbit (d.safItem (0x10 + i)) 2
/-- DISC_MS of pair i in units. -/
def Dev.pairDisc (d : Dev) (i : Nat) : Nat := bitsOf (d.safItem (0x10 + i)) 31 16 * uMs
/-- INMASK of function f. -/
def Dev.sfIn (d : Dev) (f : Nat) : Nat := bitsOf (d.safItem (0x20 + f)) 7 0
/-- OUTMASK of function f. -/
def Dev.sfOut (d : Dev) (f : Nat) : Nat := bitsOf (d.safItem (0x20 + f)) 11 8
/-- RSTPAIR of function f. -/
def Dev.sfRst (d : Dev) (f : Nat) : Nat := bitsOf (d.safItem (0x20 + f)) 15 13
/-- DELAY_MS of function f in units. -/
def Dev.sfDelay (d : Dev) (f : Nat) : Nat := bitsOf (d.safItem (0x20 + f)) 31 16 * uMs
/-- BRIDGES of function f. -/
def Dev.sfBr (d : Dev) (f : Nat) : Nat := bitsOf (d.safItem (0x28 + f)) 5 0
/-- Output k is used. -/
def Dev.outUsed (d : Dev) (k : Nat) : Bool := tbit (d.safItem (0x30 + k)) 31
/-- T_RB of output k in units. -/
def Dev.tRb (d : Dev) (k : Nat) : Nat := bitsOf (d.safItem (0x30 + k)) 15 0 * uUs
/-- Function f is demanded. -/
def Dev.demanded (d : Dev) (f : Nat) : Bool := d.bit Reg.SAF_STAT (24 + f)
/-- Pair i. -/
def Dev.sinPair (d : Dev) (i : Nat) : SinPair := nth SinPair.init d.saf.pair i
/-- Function f. -/
def Dev.safFn (d : Dev) (f : Nat) : SafFn := nth { demandAt := none, cut := false } d.saf.fn f
/-- Output k. -/
def Dev.safOut (d : Dev) (k : Nat) : SafOut := nth { on := false, switchedAt := 0, pulseEnd := none, lastPulse := 0 } d.saf.out k
/-- The device with the sequencer changed. -/
def Dev.setSaf (d : Dev) (f : SafSt → SafSt) : Dev := { d with saf := f d.saf }
/-- The device with pair i changed. -/
def Dev.setPair (d : Dev) (i : Nat) (f : SinPair → SinPair) : Dev := d.setSaf fun s => { s with pair := updN 8 SinPair.init s.pair i f }
/-- The device with function f changed. -/
def Dev.setFn (d : Dev) (i : Nat) (f : SafFn → SafFn) : Dev := d.setSaf fun s => { s with fn := updN 8 { demandAt := none, cut := false } s.fn i f }
/-- The device with output k changed, and SAF_STAT.SOUT with it. -/
def Dev.setOut (d : Dev) (k : Nat) (f : SafOut → SafOut) : Dev :=
  let d := d.setSaf fun s => { s with out := updN 4 { on := false, switchedAt := 0, pulseEnd := none, lastPulse := 0 } s.out k f }
  d.setB Reg.SAF_STAT (20 + k) (d.safOut k).on

/-- Level of contact A or B of pair i in its demand level (R386)? -/
def Dev.contactDemand (d : Dev) (i : Nat) (b : Bool) : Bool :=
  if b then (d.sinPair i).b == d.pairAnti i else !(d.sinPair i).a
/-- Pair i reads demand: one contact is enough (R386). A reset input makes no demand (R388). -/
def Dev.pairDemand (d : Dev) (i : Nat) : Bool := d.pairUsed i && !d.pairReset i && (d.contactDemand i false || d.contactDemand i true)
/-- Both contacts stand in their demand level. -/
def Dev.pairBoth (d : Dev) (i : Nat) : Bool := d.contactDemand i false && d.contactDemand i true
/-- Both contacts stand healthy. -/
def Dev.pairHealthy (d : Dev) (i : Nat) : Bool := !d.contactDemand i false && !d.contactDemand i true

/-- The bridges whose channels the pulse stop holds (R390): those of every used function that is demanded. -/
def Dev.pulseStop (d : Dev) : Nat :=
  (List.range 8).foldl (fun m f => if d.demanded f && d.sfIn f != 0 then m ||| d.sfBr f else m) 0

/-- A request of the sequencer to the Anvil: an unclocked path (R34). -/
def Dev.safRaise (d : Dev) (x src code : Nat) (data : List (Nat × Nat)) : Dev := d.raise .pin x src code data

/-- The sequencer enters FAULT: every function counts as demanded (R385). -/
def Dev.safFault (d : Dev) : Dev := (d.setF Reg.SAF_STAT 2 0 2).setF Reg.SAF_STAT 31 24 0xFF

/-- A failed self-test or a clock fault (R397, R398): a bit of SAF_FAULT, source 148 with its part, FAULT. -/
def Dev.safPartFault (d : Dev) (x part : Nat) : Dev :=
  let b := if part < 3 then 2 else if part < 5 then 3 else 1
  ((d.setB Reg.SAF_FAULT b true).safFault).safRaise x 148 0x2104 [(1, part)]

/-- A readback fault (R394). -/
def Dev.safRb (d : Dev) (x k : Nat) : Dev :=
  if d.bit Reg.SAF_FAULT (4 + k) then d
  else ((d.setB Reg.SAF_FAULT (4 + k) true).safFault).safRaise x 147 0x2103 [(1, k), (1, b2n (d.safOut k).on)]

/-- May output k be on, apart from an off-pulse (R393)? -/
def Dev.outAllowed (d : Dev) (k : Nat) : Bool :=
  d.safState == 1 && d.outUsed k && !d.bit Reg.SAF_FAULT (4 + k) &&
    !(List.range 8).any (fun f => d.demanded f && (d.safFn f).cut && (d.sfOut f).testBit k)

/-- Every output takes the level of R393. -/
def Dev.safOutputs (d : Dev) (x : Nat) : Dev :=
  (List.range 4).foldl (fun d k =>
    let on := d.outAllowed k && (d.safOut k).pulseEnd.isNone
    if on == (d.safOut k).on then d else d.setOut k fun o => { o with on := on, switchedAt := x }) d

/-- A demanded function whose delay has passed reaches its supply cut (R390). -/
def Dev.safCut (d : Dev) (x f : Nat) : Dev :=
  match (d.safFn f).demandAt with
  | some a => if d.demanded f && decide (a + d.sfDelay f ≤ x) then d.setFn f fun r => { r with cut := true } else d
  | none => d

/-! ### Power of the island (R383, R395) -/

/-- The sequencer and its registers at power-on of VIO_F, or without it. -/
def Dev.safCold (d : Dev) (x : Nat) (on : Bool) : Dev :=
  { d.resetRange 0x10270000 0x10280000 (fun _ => false) with saf := { SafSt.init with vioF := on, onAt := x, lastScan := x, bgAt := x, injAt := x, winAt := x } }

/-- VIO_F_POWER_ON (R385, R395): the sequencer starts in UNCONFIGURED with its self-test of 12 ms. -/
def execVioFPowerOn (t : Nat) (s : State) : Out := act t s fun x d => if d.saf.vioF then d else d.safCold x true

/-- VIO_F_LOSS (R383): every SOUT is low; the working copy is lost (R401). -/
def execVioFLoss (t : Nat) (s : State) : Out := act t s fun x d => d.safCold x false

/-- SAFETY_SELFTEST_DONE (R395, R397): passed, or failed in part 0 ROM, 1 RAM or 2 input path. -/
def execSafetySelftestDone (t : Nat) (fail : Option Nat) (s : State) : Out :=
  act t s fun x d =>
    if !d.saf.vioF || d.saf.selfTested || decide (x < d.saf.onAt + 12 * uMs) then d
    else
      let d := d.setSaf fun r => { r with selfTested := true }
      match fail with
      | none => d
      | some p => d.safPartFault x p

/-- BACKGROUND_SELFTEST (R395): in RUN the ROM and RAM checks repeat every 8 h, counted from the entry into RUN. -/
def execBackgroundSelftest (t : Nat) (fail : Option Nat) (s : State) : Out :=
  act t s fun x d =>
    if !(d.saf.vioF && d.safState == 1 && decide (d.saf.bgAt + 8 * 3600 * uS ≤ x)) then d
    else
      let d := d.setSaf fun r => { r with bgAt := x }
      match fail with | none => d | some p => d.safPartFault x p

/-- INPUT_INJECTION (R395): in RUN, once a second, both levels into each pair; the filter does not see them. A receiver that does not follow fails the input-path
test. -/
def execInputInjection (t : Nat) (fail : Bool) (s : State) : Out :=
  act t s fun x d =>
    if !(d.saf.vioF && d.safState == 1 && decide (d.saf.injAt + uS ≤ x)) then d
    else
      let d := d.setSaf fun r => { r with injAt := x }
      if fail then d.safPartFault x 2 else d

/-- CLOCK_CHECK_WINDOW (R396): a window of 10 ms ends: 250,000 SRO cycles, within 10 %. -/
def execClockCheckWindow (t : Nat) (count : Nat) (s : State) : Out :=
  act t s fun x d =>
    if !(d.saf.vioF && decide (d.saf.winAt + 10 * uMs ≤ x)) then d
    else
      let d := d.setSaf fun r => { r with winAt := x }
      if count < 225000 || 275000 < count then d.safPartFault x 3 else d

/-- SCAN_DEADLINE_EXPIRY (R396): a scan has not ended within 600 µs of its start. No scan end follows, so the outputs go off at once (R385). -/
def execScanDeadlineExpiry (t : Nat) (s : State) : Out :=
  act t s fun x d => if d.saf.vioF && decide (d.saf.lastScan + 600 * uUs ≤ x) then (d.safPartFault x 4).safOutputs x else d

/-! ### Inputs (R386 to R388) -/

/-- What follows for a used pair when a contact's level has been accepted or its configuration has changed. -/
def Dev.pairStep (d : Dev) (x i : Nat) : Dev :=
  if !d.pairUsed i then d
  else
    let p := d.sinPair i
    let both := d.pairBoth i
    let healthy := d.pairHealthy i
    let disc := d.bit Reg.SAF_STAT (8 + i)
    let p1 := { p with
      disagreeAt := if both || healthy then none else if p.disagreeAt.isSome then p.disagreeAt else some x
      demandAt := if both then (if p.demandAt.isSome then p.demandAt else some x) else none
      bothDemand := match p.demandAt with
        | some a => p.bothDemand || (!both && disc && decide (a + d.tFilt ≤ x))
        | none => p.bothDemand }
    let clears := healthy && disc && p1.bothDemand
    let disc2 := disc && !clears
    let p2 := if clears then { p1 with bothDemand := false } else p1
    let p3 :=
      if !d.pairReset i then p2
      else if both then (if p2.pressAt.isSome && p2.relAt.isNone then p2 else { p2 with pressAt := some x, relAt := none })
      else
        let rel := if p2.relAt.isSome then p2.relAt else if p2.pressAt.isSome then some x else none
        if !healthy then { p2 with relAt := rel }
        else
          let good := match p2.pressAt, rel with
            | some a, some r => decide (a + 100 * uMs ≤ r) && decide (r ≤ a + 5 * uS) && !disc2
            | _, _ => false
          { p2 with pressAt := none, relAt := none, resetReq := p2.resetReq || good }
    (d.setB Reg.SAF_STAT (8 + i) disc2).setPair i fun _ => p3

/-- SIN_LEVEL_ACCEPT (R386): contact A (`contact = false`) or B has had a level since an instant, without a break; it is accepted once that is T_FILT. -/
def execSinLevelAccept (t : Nat) (pair : Fin 8) (contact : Bool) (level : ContactLevel) (s : State) : Out :=
  act t s fun x d =>
    if !d.saf.vioF || decide (x < level.since + d.tFilt) then d
    else
      let i := pair.val
      let d := d.setPair i fun p => if contact then { p with b := level.level } else { p with a := level.level }
      (d.setB Reg.SAF_SIN (if contact then i else 8 + i) level.level).pairStep x i

/-- DISCREPANCY_TIMEOUT (R387): the contacts disagree for longer than DISC_MS. -/
def execDiscrepancyTimeout (t : Nat) (pair : Fin 8) (s : State) : Out :=
  act t s fun x d =>
    let i := pair.val
    match (d.sinPair i).disagreeAt with
    | none => d
    | some a =>
      if !d.saf.vioF || !d.pairUsed i || decide (x ≤ a + d.pairDisc i) then d
      else
        let d1 := d.setPair i fun p => { p with bothDemand := false }
        if d.bit Reg.SAF_STAT (8 + i) then d1
        else (d1.setB Reg.SAF_STAT (8 + i) true).safRaise x 146 0x2102 [(1, i), (1, b2n (d.sinPair i).a), (1, b2n (d.sinPair i).b)]

/-! ### The scan (R384, R390 to R394, R400) -/

/-- A function becomes demanded in the first scan in which a pair of its INMASK reads demand (R390). -/
def Dev.safDemand (d : Dev) (x f : Nat) : Dev :=
  let pairs := (onesBelow 8 (d.sfIn f)).filter d.pairDemand
  if pairs.isEmpty || d.demanded f then d
  else
    let d := (d.setB Reg.SAF_STAT (24 + f) true).setFn f fun _ => { demandAt := some x, cut := false }
    d.safRaise x 144 0x2100 [(1, f), (1, sumOf (pairs.map (fun i => 2 ^ i)))]

/-- May function f be reset (R392)? -/
def Dev.safResetOk (d : Dev) (f : Nat) : Bool :=
  (onesBelow 8 (d.sfIn f)).all (fun i => d.pairHealthy i && !d.bit Reg.SAF_STAT (8 + i)) && d.safState == 1 &&
    (!d.keep.main || (onesBelow 6 (d.sfBr f)).all (fun b => d.quenched b))

/-- A reset request on the RSTPAIR of a demanded function (R392). -/
def Dev.safReset (d : Dev) (x f : Nat) : Dev :=
  if !(d.demanded f && d.sfIn f != 0 && (d.sinPair (d.sfRst f)).resetReq && d.pairReset (d.sfRst f)) then d
  else if d.safResetOk f then
    ((d.setB Reg.SAF_STAT (24 + f) false).setFn f fun _ => { demandAt := none, cut := false }).safRaise x 145 0x2101 [(1, f)]
  else d.logDirect x 2 0x2108 []

/-- The readback of output k in a scan (R394). -/
def Dev.safScanRb (d : Dev) (x k : Nat) : Dev :=
  let o := d.safOut k
  if d.outUsed k && o.pulseEnd.isNone && decide (o.switchedAt + d.tRb k ≤ x) && d.bit Reg.SAF_STAT (16 + k) != o.on
  then d.safRb x k else d

/-- A new configuration applies at the end of a scan (R385, R400, R401). Entering RUN, every used function is demanded, with its supply cut
reached. -/
def Dev.safApply (d : Dev) (x : Nat) (c : List Byte) : Dev :=
  let first := d.safState == 0
  let commit := d.saf.nextIsCommit
  let chg0 := d.saf.chgFirst
  let d := d.setSaf fun r => { r with copy := c, next := none, nextIsCommit := false }
  let d := (d.wr Reg.SAF_CRC (crc32 c)).wrN Reg.SAF_CHG_NUM (safNewest c)
  let d :=
    if commit then d.safRaise x 149 0x2105 [(4, chg0), (4, safNewest c), (4, (crc32 c).toNat)] else d
  if first && commit then d
  else
    let d := if first then (d.setF Reg.SAF_STAT 2 0 1).setSaf fun r => { r with bgAt := x, injAt := x } else d
    let d := (List.range 8).foldl (fun d f =>
      if d.sfIn f == 0 then (d.setB Reg.SAF_STAT (24 + f) false).setFn f fun _ => { demandAt := none, cut := false }
      else if first then d.setFn f fun _ => { demandAt := some x, cut := true }
      else d) d
    let d := (List.range 8).foldl (fun d i =>
      if d.pairUsed i then d.pairStep x i
      else (d.setB Reg.SAF_STAT (8 + i) false).setPair i fun p => { SinPair.init with a := p.a, b := p.b }) d
    (List.range 4).foldl (fun d k => d.setOut k fun o =>
      { o with lastPulse := x + k * d.testS / 4, switchedAt := if o.on then o.switchedAt else x }) d

/-- SAFETY_SCAN (R384): the scan that ends now, 500 µs after the one before, reads the filtered inputs and SRB, checks the configuration, evaluates the functions and
resets, lets a waiting configuration apply, and sets the outputs. -/
def execSafetyScan (t : Nat) (srb : List Bool) (crcOk : Bool) (s : State) : Out :=
  act t s fun x d =>
    if !d.saf.vioF || decide (x < d.saf.lastScan + 500 * uUs) then d
    else
      let d := (List.range 4).foldl (fun d k => d.setB Reg.SAF_STAT (16 + k) (nth false srb k)) d
      let d := if d.safState == 1 && !crcOk then d.safPartFault x 5 else d
      let d := if d.safState == 1 then (List.range 8).foldl (fun d f => d.safDemand x f) d else d
      let d := (List.range 8).foldl (fun d f => d.safReset x f) d
      let d := (List.range 4).foldl (fun d k => d.safScanRb x k) d
      let d := (List.range 8).foldl (fun d f => d.safCut x f) d
      let d := d.setSaf fun r => { r with pair := r.pair.map (fun p => { p with resetReq := false }), lastScan := x }
      let d := match d.saf.next with
        | some c => if d.saf.selfTested && d.safState != 2 then d.safApply x c else d
        | none => d
      d.safOutputs x

/-- SUPPLY_CUT (R390): DELAY_MS after the demand, at a scan end, the function's outputs switch off. -/
def execSupplyCut (t : Nat) (f : Fin 8) (s : State) : Out :=
  act t s fun x d => if d.saf.vioF && d.safState == 1 && (x - d.saf.lastScan) % (500 * uUs) == 0 then (d.safCut x f.val).safOutputs x else d

/-! ### Output tests (R394) -/

/-- OFF_PULSE_START (R394): every TEST_S, output k is switched off for T_PULSE; a pulse due while it is off is skipped and counted. -/
def execOffPulseStart (t : Nat) (k : Fin 4) (s : State) : Out :=
  act t s fun x d =>
    let o := d.safOut k.val
    if !(d.saf.vioF && d.safState == 1 && d.outUsed k.val && decide (o.lastPulse + d.testS ≤ x)) then d
    else
      let d := d.setOut k.val fun o => { o with lastPulse := o.lastPulse + d.testS }
      if o.on then d.setOut k.val fun o => { o with on := false, switchedAt := x, pulseEnd := some (x + d.tPulse) }
      else d.inc Reg.SAF_PULSE_SKIP 31 0

/-- OFF_PULSE_END (R394, R406): the output switches on again unless something else holds it off. -/
def execOffPulseEnd (t : Nat) (k : Fin 4) (s : State) : Out :=
  act t s fun x d =>
    match (d.safOut k.val).pulseEnd with
    | none => d
    | some e =>
      if x < e then d
      else
        let d := d.setOut k.val fun o => { o with pulseEnd := none }
        if d.outAllowed k.val then d.setOut k.val fun o => { o with on := true, switchedAt := x } else d

/-- READBACK_CHECK (R394): T_RB after an output switched, SRBk must read its level. -/
def execReadbackCheck (t : Nat) (k : Fin 4) (level : Bool) (s : State) : Out :=
  act t s fun x d =>
    let o := d.safOut k.val
    if !(d.saf.vioF && d.outUsed k.val && decide (o.switchedAt + d.tRb k.val ≤ x)) then d
    else
      let d := d.setB Reg.SAF_STAT (16 + k.val) level
      if level != o.on then d.safRb x k.val else d

/-! ### Changes in the field (R401 to R403) -/

/-- A refused write: SAF_RESULT.CAUSE and a log entry (R402). -/
def Dev.safRefuse (d : Dev) (x cause : Nat) : Dev := (d.setF Reg.SAF_RESULT 3 0 cause).logDirect x 2 0x2109 []

/-- UNLOCKED (R401). -/
def Dev.safUnlocked (d : Dev) : Bool := d.bit Reg.SAF_STAT 7

/-- The password of SAF_PW0 to SAF_PW7. -/
def Dev.safPassword (d : Dev) : List Byte :=
  ((List.range 8).flatMap (fun i => leBytes 4 (d.rd (Reg.SAF_PW i)).toNat)).take (d.fld Reg.SAF_PWLEN 5 0)

/-- A write of 1 to SAF_CTRL.UNLOCK (R401, R402). -/
def Dev.safUnlockReq (d : Dev) (x : Nat) : Dev :=
  let len := d.fld Reg.SAF_PWLEN 5 0
  if len < 8 || 32 < len then d.safRefuse x 6
  else if d.bit Reg.SAF_STAT 5 then d.safRefuse x 7
  else if d.bit Reg.SAF_STAT 4 then d.safRefuse x 8
  else
    let pw := d.safPassword
    let d := (List.range 8).foldl (fun d i => d.wr (Reg.SAF_PW i) 0) d
    (d.setB Reg.SAF_STAT 4 true).setSaf fun r => { r with hashPw := pw, hashEnd := some (x + leAt r.copy 4 4 * 2 * uUs) }

/-- UNLOCK (R401). -/
def execSafUnlock (t : Nat) (s : State) : Out := act t s fun x d => d.live fun d => if d.saf.vioF then d.safUnlockReq x else d

/-- PASSWORD_HASH_DONE (R401, R403): a match unlocks; a wrong password starts a lockout of 1 s, from the fifth in a row of 600 s. -/
def execPasswordHashDone (t : Nat) (s : State) : Out :=
  act t s fun x d =>
    match d.saf.hashEnd with
    | none => d
    | some e =>
      if x < e then d
      else
        let good := pbkdf2 d.saf.hashPw ((d.saf.copy.drop 0x10).take 16) (leAt d.saf.copy 4 4) == (d.saf.copy.drop 0x20).take 48
        let d := (d.setB Reg.SAF_STAT 4 false).setSaf fun r => { r with hashEnd := none, hashPw := [] }
        if good then (d.setB Reg.SAF_STAT 7 true).setSaf fun r => { r with wrongRun := 0, lastStage := x }
        else
          let n := d.saf.wrongRun + 1
          let d := d.setSaf fun r => { r with wrongRun := n, lockoutEnd := some (x + (if n < 5 then uS else 600 * uS)) }
          ((d.setB Reg.SAF_STAT 5 true).safRefuse x 6).safRaise x 150 0x2106 [(4, n)]

/-- The staged configuration: the applied items with the staged values. -/
def Dev.safStagedItems (d : Dev) : List (Nat × Word) :=
  d.saf.staged.foldl (fun l s => if l.any (fun p => p.1 == s.num) then l.map (fun p => if p.1 == s.num then (p.1, s.val) else p) else l ++ [(s.num, s.val)])
    (safItems d.saf.copy)

/-- A write of 1 to SAF_ITEM_CMD.STAGE (R401, R402). -/
def Dev.safStageReq (d : Dev) (x : Nat) : Dev :=
  let num := d.fld Reg.SAF_ITEM_NUM 15 0
  let v := d.rd Reg.SAF_ITEM_VAL
  let items := d.safStagedItems
  if !d.safUnlocked then d.safRefuse x 1
  else if !safKnown num then d.safRefuse x 3
  else if !safRange (bitsOf (itemOf items 2) 31 16) num v || v &&& safReserved num != 0 then d.safRefuse x 4
  else if !items.any (fun p => p.1 == num) && decide (512 ≤ items.length) then d.safRefuse x 5
  else
    let st : SafStage := { num := num, val := v, author := d.rd Reg.SAF_AUTHOR }
    (d.setB Reg.SAF_STAT 6 true).setSaf fun r =>
      { r with staged := insertBy SafStage.num st (r.staged.filter (fun q => q.num != num)), lastStage := x }

/-- STAGE (R401). -/
def execSafStage (t : Nat) (s : State) : Out := act t s fun x d => d.live fun d => if d.saf.vioF then d.safStageReq x else d

/-- What SAF_ITEM_VAL reads: the staged value of the item SAF_ITEM_NUM names, else the applied one (the register's description). -/
def Dev.safItemRead (d : Dev) : Word :=
  let num := d.fld Reg.SAF_ITEM_NUM 15 0
  match d.saf.staged.find? (fun q => q.num == num) with
  | some q => q.val
  | none => d.safItem num

/-- The sequencer locks (R403). -/
def Dev.safLockNow (d : Dev) : Dev := d.setB Reg.SAF_STAT 7 false

/-- Every staged change is dropped. -/
def Dev.safDrop (d : Dev) : Dev := (d.setB Reg.SAF_STAT 6 false).setSaf fun r => { r with staged := [] }

/-- A write of 1 to SAF_CTRL.COMMIT (R401, R402): one change-log entry per changed item, in ascending item number; the new configuration
applies at the next scan end. -/
def Dev.safCommitReq (d : Dev) (x : Nat) : Dev :=
  let base := d.saf.next.getD d.saf.copy
  if !d.safUnlocked then d.safRefuse x 1
  else if d.fld Reg.PWR_STAT 2 0 == 2 || d.safState == 2 then d.safRefuse x 2
  else if !safItemsOk d.safStagedItems || !safItemsClear d.safStagedItems then d.safRefuse x 4
  else
    let ch := d.saf.staged.filter (fun q => itemOf (safItems base) q.num != q.val)
    let n0 := safNewest base + 1
    let d1 := d.safDrop.safLockNow
    if ch.isEmpty then d1
    else
      let r := ch.foldl (fun (p : List Byte × Nat) q => (safChange p.1 (d.ns x) p.2 q, p.2 + 1)) (base, n0)
      d1.setSaf fun q => { q with next := some r.1, nextIsCommit := true, chgFirst := n0 }

/-- COMMIT (R401). -/
def execSafCommit (t : Nat) (s : State) : Out := act t s fun x d => d.live fun d => if d.saf.vioF then d.safCommitReq x else d

/-- LOCK (R403). -/
def execSafLock (t : Nat) (s : State) : Out := act t s fun _ d => d.live fun d => if d.saf.vioF then d.safLockNow else d

/-- DISCARD (R403): every staged change is dropped, and the sequencer locks. -/
def execSafDiscard (t : Nat) (s : State) : Out := act t s fun _ d => d.live fun d => if d.saf.vioF then d.safDrop.safLockNow else d

/-- LOCKOUT_END (R403). -/
def execLockoutEnd (t : Nat) (s : State) : Out :=
  act t s fun x d =>
    match d.saf.lockoutEnd with
    | none => d
    | some e => if x < e then d else (d.setB Reg.SAF_STAT 5 false).setSaf fun r => { r with lockoutEnd := none }

/-- UNLOCK_TIMEOUT (R403): 600 s without a STAGE. -/
def execUnlockTimeout (t : Nat) (s : State) : Out :=
  act t s fun x d => if d.safUnlocked && decide (d.saf.lastStage + 600 * uS ≤ x) then d.safLockNow else d

/-- A bus write of SAF_CTRL: its bits in the order UNLOCK, LOCK, DISCARD, COMMIT. -/
def Dev.wrSafCtrl (d : Dev) (x : Nat) (v : Word) : Dev :=
  let d := if tbit v 0 then d.safUnlockReq x else d
  let d := if tbit v 1 then d.safLockNow else d
  let d := if tbit v 2 then d.safDrop.safLockNow else d
  if tbit v 3 then d.safCommitReq x else d

/-- A completed load hands its SAFETY to the sequencer (R400). -/
def Dev.safLoad (d : Dev) (c : List Byte) : Dev :=
  if d.saf.vioF then d.setSaf fun r => { r with next := some c, nextIsCommit := false } else d

/-- PORn with VIO_F in range: RUN goes on; FAULT becomes UNCONFIGURED (R385). -/
def Dev.safPorn (d : Dev) : Dev :=
  if d.safState == 2 then
    ((d.setF Reg.SAF_STAT 2 0 0).wr Reg.SAF_FAULT 0).setSaf fun r => { r with next := none, nextIsCommit := false }
  else d

end Sys2Proof.Machine
end

