-- ==== Sys2Proof/Machine/Power.lean ====
section
/-! DEFINITION. Machine/Power.lean: changes of the power state and of the pair state, and the loss of ownership (R327 to R333, R345, R470). -/

namespace Sys2Proof.Machine

/-- The power state becomes `new` (R470): event 240; leaving RUN_ARMED quenches every bridge with cause 5, entering it stops off-state diagnostics (R323) and locks the safety
configuration. -/
def Dev.powerTo (d : Dev) (x new : Nat) : Dev :=
  let old := d.power
  if old = new then d
  else
    let d := (if new = 2 then d.diagStop x else d).setF Reg.PWR_STAT 2 0 new
    let d := if old = 2 then d.quenchPower x else d
    let d := if new = 2 then d.safLockNow else d
    d.raise .per x 240 0xD200 [(1, old), (1, new)]

/-- The pair hold at the pins, with TWN_STAT.HOLD (R328). -/
def Dev.setHold (d : Dev) (h : Bool) : Dev := { d.setB Reg.TWN_STAT 26 h with twn := { d.twn with pairHold := h } }

/-- The cause an event of a pair state change carries: the list of R352 for a dropped ownership, else a value the spec does not state. -/
def Dev.pairCause (d : Dev) : Option Nat → Nat × Dev
  | some c => (c, d)
  | none => let f := d.fresh; ((Sys2Proof.Config.freeWord f.1).toNat % 256, f.2)

/-- A planned handover is refused (R342): HO_REFUSED and event 199 with cause 1; a full load that waits for it is refused with it (R67). -/
def Dev.hoRefuse (d : Dev) (x : Nat) : Dev :=
  let d := ({ d with twn := { d.twn with handover := none } }.setB Reg.TWN_STAT 9 true).raise .per x 199 0x7107 [(1, 1)]
  if d.img.fullWaits then { d.setB Reg.IMG_STAT 7 true with img := { d.img with fullWaits := false } } else d

/-- Frames no longer correspond: the alignment is 0 (R330, R334). -/
def Dev.unpair (d : Dev) : Dev :=
  { d.setF Reg.TWN_ALIGN 15 0 0 with twn := { d.twn with paired := false, ea := 0, alignRun := 0, badAlign := 0, beats := [] } }

/-- A chip that leaves ACTIVE before the T_x of a handover it has asked for does not hand over: the handover counts as refused (DESIGN CHOICE, log entry 95). -/
def Dev.leaveActive (d : Dev) (x old : Nat) : Dev :=
  match d.twn.handover with
  | some h => if old = 2 && !h.taker then d.hoRefuse x else d
  | none => d

/-- The pair state becomes `new` (R333): event 192; the power state follows (R470); SYNCING starts its counts afresh and owes the partner a BLOCKS message (R331, R335). -/
def Dev.pairTo (d : Dev) (x new : Nat) (cause : Option Nat) : Dev :=
  let old := d.pair
  if old = new then d
  else
    let c := d.pairCause cause
    let d := ((c.2.setF Reg.TWN_STAT 31 29 new).raise .per x 192 0x7100 [(1, old), (1, new), (1, c.1)]).leaveActive x old
    if new = 0 then
      let d := d.unpair
      let d := { d with twn := { d.twn with emptyRun := 0, sweepDone := false, sweepSeen := [], sweepFrames := 0, blocksDue := true, handover := none, tx := none,
                                            takeoverHold := false, ownerRep := none } }
      if d.power = 2 || d.power = 3 then d.powerTo x 1 else d
    else if new = 3 then (d.powerTo x 3).readyNote x
    else d.readyNote x

/-- The chip stops being owner: OWN low, SDC pins released, pair hold (R329). -/
def Dev.ownEnd (d : Dev) (x : Nat) : Dev :=
  let d := { d.setB Reg.TWN_STAT 28 false with twn := { d.twn with own := false } }
  (d.sdmDrive x false).setHold true

/-- An owner drops or yields ownership (R329, R330): event 198 with its cause, SYNCING. -/
def Dev.dropOwn (d : Dev) (x cause : Nat) : Dev :=
  if !d.owner then d
  else (((d.ownEnd x).setB Reg.TWN_STAT 5 true).raise .per x 198 0x7106 [(1, cause)]).pairTo x 0 (some cause)

/-- A reset of the TWN block drops ownership (R329, R352): event source 198 with cause 4. A reset that takes the Anvil with it takes the event too (R38), so only
the block reset of a full load can show it, and there the frames have stopped before. -/
def Dev.resetOwn (d : Dev) (x : Nat) : Dev := if d.owner then d.raise .per x 198 0x7106 [(1, 4)] else d

/-- The chip withdraws from the pair (R345): WITHDRAW with its cause, SYNCING. -/
def Dev.withdraw (d : Dev) (x cause : Nat) : Dev :=
  if d.pair = 0 then d
  else
    let d := d.send (.withdraw { cause := cause })
    let d := if d.owner then d.ownEnd x else d
    d.pairTo x 0 none

/-- The chip becomes owner and inverts OWN; it drives its SDC pins when `drive` (R329, R331, R341, R342). -/
def Dev.ownBegin (d : Dev) (x : Nat) (drive : Bool) : Dev :=
  let d := { d.setB Reg.TWN_STAT 28 true with twn := { d.twn with own := !d.twn.own } }
  if drive then d.sdmDrive x true else d

/-- Frames stop: RUNNING and ALIGNED are 0, and no first T0 waits (R26, R28). -/
def Dev.framesStop (d : Dev) : Dev :=
  { (d.setB Reg.FRM_STAT 4 false).setB Reg.FRM_STAT 3 false with frm := { d.frm with alignRun := 0, firstT0 := none } }

/-- The clock monitor stops every domain (R412, R413): recorded in the CLK_STOP registers; frames stop and ALIGNED clears without an event (R26); the
Anvil accepts nothing more; ownership drops. -/
def Dev.clockStop (d : Dev) (x cause : Nat) : Dev :=
  if d.clk.stopped then d
  else
    let able := d.bit Reg.CLK_STAT 30 || d.bit Reg.CLK_STAT 31
    let d := ((d.setF Reg.CLK_STOP_REC 31 28 cause).wr64 Reg.CLK_STOP_TLO Reg.CLK_STOP_THI (d.ktNow x)).setB Reg.CLK_STAT 28 false
    let d := if d.clk.blw.isSome then (d.setB Reg.CLK_BLW_STAT 31 false).setB Reg.CLK_BLW_STAT 29 true else d
    let d := d.framesStop
    let d := { d with clk := { d.clk with stopped := true, canLockAt := if able then some x else none, blw := none, started := false }
                      sys := { d.sys with safeAt := if d.sys.safe then d.sys.safeAt else x } }
    let d := if d.power = 2 then d.powerTo x 1 else d
    d.dropOwn x 3

end Sys2Proof.Machine
end

