-- ==== Sys2Proof/Machine/Pwm.lean ====
section
/-! DEFINITION. Machine/Pwm.lean: the PWM channels: carrier, update sets, edge lists, minimum pulse, dead time, carrier locking and pair
override (R277 to R305). One unit of the model's clock is one fine unit of 125 ps. -/

namespace Sys2Proof.Machine

/-- EN of a channel. -/
def Dev.pwmEn (d : Dev) (n : Nat) : Bool := d.bit (Reg.PWM_CH_CFG n) 31
/-- MODE of a channel. -/
def Dev.pwmMode (d : Dev) (n : Nat) : Nat := d.fld (Reg.PWM_CH_CFG n) 30 29
/-- LOCK of a channel. -/
def Dev.pwmLock (d : Dev) (n : Nat) : Bool := d.bit (Reg.PWM_CH_CFG n) 26
/-- Active period in PWM clocks. -/
def Dev.actPer (d : Dev) (n : Nat) : Nat := (d.rd (Reg.PWM_CH_ACT_PER n)).toNat
/-- Source is edge list. -/
def Dev.pwmSrcList (d : Dev) (n : Nat) : Bool := d.bit (Reg.PWM_CH_STAT n) 30
/-- A source switch waits. -/
def Dev.pwmSrcPend (d : Dev) (n : Nat) : Bool := d.bit (Reg.PWM_CH_STAT n) 29
/-- The shadow holds a set not transferred. -/
def Dev.shadowPend (d : Dev) (n : Nat) : Bool := d.bit (Reg.PWM_CH_STAT n) 28

/-- Pending edges, with their count in the status register. -/
def Dev.setEdges (d : Dev) (n : Nat) (es : List (Nat × Bool)) : Dev :=
  (d.setPch n fun c => { c with edges := es }).setF (Reg.PWM_CH_STAT n) 4 0 es.length

/-- A write to a configuration register is refused (R287, R303). -/
def Dev.pwmRefuse (d : Dev) : Dev := d.setB Reg.PWM_STAT 0 true

/-- Is a channel written by a block of the running image: a PWM_OUT or PWM_EDGES block whose CH, its first parameter word in set A, names it (R287,
R303)? -/
def Dev.pwmOwned (d : Dev) (n : Nat) : Bool :=
  d.hrt.graph.blks.any (fun b => (b.typ == 0x4007 || b.typ == 0x4008) && (nth 0 d.hrt.setA b.pIdx).toNat == n)

/-! ### The reference (R279 to R281) -/

/-- The reference of a compare carrier at period position `tau` in fine units (R279): a compare of 0 is low, one of all ones high. -/
def refAt (mode tau per : Nat) (u v : Word) : Bool :=
  let tau := if tau < 8 * per then tau else 8 * per - 1
  let up (c : Word) : Bool := c == 0xFFFFFFFF#32 || decide (tau < c.toNat)
  let down (c : Word) : Bool := c == 0xFFFFFFFF#32 || (c != 0 && decide (8 * per ≤ tau + c.toNat))
  if mode = 0 then up u else if mode = 1 then down u else if tau < 4 * per then up u else down v

/-- Is the compare that rules at a period position 0 or all ones? It makes no edge (R280). -/
def fixedAt (mode tau per : Nat) (u v : Word) : Bool :=
  let c := if mode = 2 && decide (4 * per ≤ tau) then v else u
  c == 0 || c == 0xFFFFFFFF#32

/-- An effective reference edge (R281): the command of the new level's other side goes off, its own side turns on DT later. -/
def Dev.refEdge (d : Dev) (x n : Nat) (lv : Bool) : Dev :=
  let c := d.pch n
  let on := x + c.dt * uNs
  let now := c.dt = 0
  let d := d.setPch n fun c =>
    { c with
      level := lv, lastEdge := some x, deferred := none
      hi := if lv then c.hi || now else false
      lo := if lv then false else c.lo || now
      hiOn := if lv && !now then some on else none
      loOn := if !lv && !now then some on else none }
  d.gate x n

/-- A reference edge to level `lv` falls due (R280): deferred if it comes less than MINP after the last one that took effect; with an edge deferred already, both are
cancelled. -/
def Dev.dueEdge (d : Dev) (x n : Nat) (lv : Bool) : Dev :=
  let c := d.pch n
  match c.deferred with
  | some (at_, dl) =>
    if at_ ≤ x then
      let d := d.refEdge at_ n dl
      if lv = dl then d
      else if x < at_ + c.minp * uNs then
        (d.setPch n fun c => { c with deferred := some (at_ + c.minp * uNs, lv) }).inc Reg.PWM_MINP_CNT 31 0
      else d.refEdge x n lv
    else if lv = dl then d
    else (d.setPch n fun c => { c with deferred := none }).inc Reg.PWM_MINP_CNT 31 0
  | none =>
    if lv = c.level then d
    else
      match c.lastEdge with
      | some l =>
        if x < l + c.minp * uNs then
          (d.setPch n fun c => { c with deferred := some (l + c.minp * uNs, lv) }).inc Reg.PWM_MINP_CNT 31 0
        else d.refEdge x n lv
      | none => d.refEdge x n lv

/-- The reference takes the level of a compare of 0 or all ones (R280): at once, never deferred; a deferred edge to the other level is cancelled. -/
def Dev.fixedLevel (d : Dev) (x n : Nat) (lv : Bool) : Dev :=
  let c := d.pch n
  if lv != c.level then d.refEdge x n lv
  else if c.deferred.isSome then (d.setPch n fun c => { c with deferred := none }).inc Reg.PWM_MINP_CNT 31 0
  else d

/-- The reference of a compare carrier at position `tau` of a period falls due. -/
def Dev.carrierDue (d : Dev) (x n tau per : Nat) (u v : Word) : Dev :=
  let lv := refAt (d.pwmMode n) tau per u v
  if fixedAt (d.pwmMode n) tau per u v then d.fixedLevel x n lv else d.dueEdge x n lv

/-- List edges whose time has come take place in their order (R289, R291). -/
def Dev.listEdges : Nat → Nat → Nat → Dev → Dev
  | 0, _, _, d => d
  | fuel + 1, x, n, d =>
    match (d.pch n).edges with
    | [] => d
    | e :: r => if e.1 ≤ d.fine x then Dev.listEdges fuel x n ((d.setEdges n r).dueEdge x n e.2) else d

/-- The reference of a running channel is brought up to an instant. With LOCK, edges are delayed by PHASE mod 8 taps (R292), so
that in the first taps after a reload the edges of what was active before it still come. -/
def Dev.pwmSettle (d : Dev) (x n : Nat) : Dev :=
  let c := d.pch n
  if !d.pwmEn n || !c.begun then d
  else if d.pwmSrcList n then
    let d := Dev.listEdges 16 x n d
    match (d.pch n).deferred with
    | some (at_, lv) => if at_ ≤ x then d.refEdge at_ n lv else d
    | none => d
  else
    let f := if d.pwmLock n then c.phase % 8 else 0
    if x < c.lastReload + f then
      match c.was with
      | some (bound, per, u, v) => d.carrierDue x n (x - bound - f) per u v
      | none => d
    else d.carrierDue x n (x - c.bound - f) (d.actPer n) (d.rd (Reg.PWM_CH_ACT_CMPU n)) (d.rd (Reg.PWM_CH_ACT_CMPD n))

/-- REFERENCE_EDGE (R279, R280). -/
def execReferenceEdge (t : Nat) (n : Fin 96) (s : State) : Out := act t s fun x d => d.liveIn 7 fun d => d.pwmSettle x n.val

/-- COMMAND_TURN_ON (R281, R316, R319): a command whose turn-on instant has come turns on, at the reference or by a quench rule or a release. -/
def execCommandTurnOn (t : Nat) (n : Fin 96) (high : Bool) (s : State) : Out :=
  act t s fun x d => d.liveIn 7 fun d =>
    let n := n.val
    let due (o : Option Nat) : Bool := match o with | some a => decide (a ≤ x) | none => false
    let d := d.setPch n fun c =>
      if high then (if due c.hiOn then { c with hi := true, hiOn := none } else c)
      else (if due c.loOn then { c with lo := true, loOn := none } else c)
    d.gate x n

/-! ### Update sets (R283 to R288) -/

/-- Data of event 176: channel, cause and the values PER, CMPU, CMPD (R305). -/
def setData (n cause : Nat) (p u v : Word) : List (Nat × Nat) := [(1, n), (1, cause), (4, p.toNat), (4, u.toNat), (4, v.toNat)]

/-- A compare limited to 8 × PER (R286). -/
def clipCmp (per c : Word) : Word := if c != 0xFFFFFFFF#32 && decide (8 * per.toNat < c.toNat) then BitVec.ofNat 32 (8 * per.toNat) else c

/-- The shadow moves to the active registers as a whole (R283, R286). -/
def Dev.transfer (d : Dev) (x n : Nat) : Dev :=
  let c := d.pch n
  let u := clipCmp c.shPer c.shU
  let v := clipCmp c.shPer c.shD
  let d := ((d.wr (Reg.PWM_CH_ACT_PER n) c.shPer).wr (Reg.PWM_CH_ACT_CMPU n) u).wr (Reg.PWM_CH_ACT_CMPD n) v
  let d := d.setB (Reg.PWM_CH_STAT n) 28 false
  if u != c.shU || v != c.shD then (d.setB Reg.PWM_STAT 3 true).raise .pwm x 176 0x5100 (setData n 1 c.shPer c.shU c.shD) else d

/-- A set enters the shadow (R283, R291). With the source at edge list it asks for compare; with a switch to edge list pending it cancels that switch and discards the
list. While EN is 0 it transfers at once (R288). -/
def Dev.mergeSet (d : Dev) (x n : Nat) (q : PwmSet) : Dev :=
  let d := d.setPch n fun c => { c with shPer := q.per.getD c.shPer, shU := q.cmpu.getD c.shU, shD := q.cmpd.getD c.shD }
  let st := Reg.PWM_CH_STAT n
  let d := d.setB st 28 true
  if !d.pwmEn n then d.transfer x n
  else if d.pwmSrcList n then d.setB st 29 true
  else if d.pwmSrcPend n then (d.setEdges n []).setB st 29 false
  else d

/-- The sets that present at or before an instant. -/
def Dev.dueSets (d : Dev) (x n : Nat) : List PwmSet × Dev :=
  let c := d.pch n
  (c.sets.filter (fun q => decide (q.present ≤ x)), d.setPch n fun c => { c with sets := c.sets.filter (fun q => decide (x < q.present)) })

/-- A set that presents in a reload clock misses that reload (R285). -/
def Dev.lateSet (d : Dev) : Dev := (d.inc Reg.PWM_LATE_CNT 31 0).setB Reg.PWM_STAT 1 true

/-- The instant of the channel's next reload that has not taken place. -/
def Dev.nextReload (d : Dev) (n : Nat) : Nat :=
  let c := d.pch n
  if d.pwmMode n = 2 && d.bit (Reg.PWM_CH_CFG n) 28 && c.begun && !c.peakDone then c.bound + 4 * d.actPer n else c.next

/-- SET_PRESENT (R285): the sets whose instant has come enter the shadow; one that presents in a reload clock stays out of that reload and is counted. -/
def execSetPresent (t : Nat) (n : Fin 96) (s : State) : Out :=
  act t s fun x d => d.liveIn 7 fun d =>
    let n := n.val
    if d.pwmEn n && x / uNs == d.nextReload n / uNs then d
    else
      let r := d.dueSets x n
      r.1.foldl (fun d q =>
        let late := d.pwmEn n && (d.pch n).begun && q.present / uNs == (d.pch n).lastReload / uNs
        (if late then d.lateSet else d).mergeSet x n q) r.2

/-- A reload at an instant (R284, R285): the shadow transfers if `may` allows; then the sets that present in this very clock enter the shadow, late. -/
def Dev.reload (d : Dev) (x n : Nat) (may : Bool) : Dev :=
  let r := d.dueSets (x / uNs * uNs - 1) n
  let d := r.1.foldl (fun d q => d.mergeSet x n q) r.2
  let was := if (d.pch n).begun then some ((d.pch n).bound, d.actPer n, d.rd (Reg.PWM_CH_ACT_CMPU n), d.rd (Reg.PWM_CH_ACT_CMPD n)) else none
  let d := if may && d.shadowPend n then d.transfer x n else d
  let d := d.setPch n fun c => { c with lastReload := x, was := was }
  let r := d.dueSets (x / uNs * uNs + uNs - 1) n
  r.1.foldl (fun d q => d.lateSet.mergeSet x n q) r.2

/-- Does the shadow's PER equal the active one? -/
def Dev.shadowSamePer (d : Dev) (n : Nat) : Bool := (d.pch n).shPer == d.rd (Reg.PWM_CH_ACT_PER n)

/-- PEAK_RELOAD (R284): at the peak of a triangle with PEAK_UPD a pending shadow with unchanged PER transfers. Its instant is 4 × PER after the boundary. -/
def execPeakReload (n : Fin 96) (s : State) : Out :=
  let n := n.val
  act ((s.dev.pch n).bound + 4 * s.dev.actPer n) s fun x d => d.liveIn 7 fun d =>
    let c := d.pch n
    if !d.pwmEn n || !c.begun || c.peakDone || d.pwmMode n != 2 || !d.bit (Reg.PWM_CH_CFG n) 28 then d
    else
      let d := d.setPch n fun c => { c with peakDone := true }
      (d.reload x n (d.shadowSamePer n)).pwmSettle x n

/-! ### The period boundary (R284, R291 to R296) -/

/-- The lock error at a boundary in fine units (R292): device time of the virtual boundary minus the nearest aligned instant. -/
def Dev.lockErr (d : Dev) (x n : Nat) : Int :=
  let ph := (d.pch n).phase
  let m := 8 * d.actPer n
  let r := ((d.fine x + ph % 8 : Nat) : Int) - ((d.frm.tref * 8 + ph : Nat) : Int)
  r - roundDiv r m * (m : Int)

/-- The lock at a boundary (R292 to R294): LERR, LOCKED and the length of the next period in PWM clocks. -/
def Dev.lockStep (d : Dev) (x n : Nat) : Nat × Dev :=
  let per := d.actPer n
  if !d.pwmLock n then (per, d)
  else
    let e := d.lockErr x n
    let slew : Int := d.fld (Reg.PWM_CH_LOCK n) 7 0
    let c := clampI (-slew) slew (roundDiv e 8)
    let d := d.wrN (Reg.PWM_CH_LERR n) (ofSigned 32 e)
    let st := Reg.PWM_CH_STAT n
    let run := if e.natAbs ≤ 8 then (d.pch n).lockRun + 1 else 0
    let d := d.setPch n fun c => { c with lockRun := run }
    let put (d : Dev) (v : Bool) : Dev := (d.setB st 31 v).setB (Reg.PWM_LOCKED (n / 32)) (n % 32) v
    let locked := d.bit st 31
    let d :=
      if !locked && decide (4 ≤ run) then (put d true).raise .pwm x 178 0x5102 [(1, n)]
      else if locked && decide (d.fld (Reg.PWM_CH_LOCK n) 31 16 * 8 < e.natAbs) then
        ((put d false).setB Reg.PWM_STAT 4 true).raise .pwm x 177 0x5101 [(1, n), (4, ofSigned 32 e)]
      else d
    (((per : Int) - c).toNat, d)

/-- The source switch at a boundary (R291). -/
def Dev.srcSwitch (d : Dev) (n : Nat) : Dev :=
  let st := Reg.PWM_CH_STAT n
  if !d.pwmSrcPend n then d
  else if d.pwmSrcList n then ((d.setEdges n []).setB st 30 false).setB st 29 false
  else (d.setB st 30 true).setB st 29 false

/-- PERIOD_BOUNDARY (R284 to R296): at the instant of the channel's next boundary the shadow reloads, the source may switch, DT, MINP, PHASE and the pair override take their
written values, and the lock sets the length of the period that begins. -/
def execPeriodBoundary (n : Fin 96) (s : State) : Out :=
  let n := n.val
  act (s.dev.pch n).next s fun x d => d.liveIn 7 fun d =>
    if !d.pwmEn n then d
    else
      let first := !(d.pch n).begun
      let d := if d.pwmSrcList n then Dev.listEdges 16 (x - 1) n d else d
      let d := (d.srcSwitch n).reload x n true
      let dt := d.fld (Reg.PWM_CH_DT n) 13 0
      let d := d.setPch n fun c => { c with dt := dt, minp := d.fld (Reg.PWM_CH_DT n) 29 16, phase := (d.rd (Reg.PWM_CH_PHASE n)).toNat }
      let o := d.fld (Reg.PWM_CH_OVR n) 1 0
      let d := if (d.pch n).ovr != o then
          (d.setPch n fun c => { c with ovr := o, ovrWas := c.ovr, ovrOff := x + dt * uNs }).raise .pwm x 180 0x5104 [(1, n), (1, o % 2), (1, o / 2)] else d
      let l := d.lockStep x n
      let d := l.2.setPch n fun c => { c with bound := x, next := x + l.1 * uNs, begun := true, peakDone := false }
      let d := if first then d.setPch n (fun c => { c with loOn := some (x + dt * uNs), lastEdge := none }) else d
      d.pwmSettle x n

/-! ### Commits and writes (R283, R287, R289, R295, R297, R303) -/

/-- A set is committed and presents at an instant; an incomplete one is reported (R286). -/
def Dev.pwmCommit (d : Dev) (x at_ n : Nat) (per cmpu cmpd : Option Word) : Dev :=
  let d := d.setPch n fun c => { c with sets := c.sets ++ [{ present := at_, per := per, cmpu := cmpu, cmpd := cmpd }] }
  if cmpu.isNone || cmpd.isNone || (d.bit (Reg.PWM_CH_CFG n) 27 && per.isNone) then
    ((d.setB Reg.PWM_STAT 2 true).inc Reg.PWM_PARTIAL_CNT 31 0).raise .pwm x 176 0x5100 (setData n 0 (per.getD 0) (cmpu.getD 0) (cmpd.getD 0))
  else d

/-- A list is committed and presents at an instant. -/
def Dev.pwmCommitList (d : Dev) (at_ n : Nat) (ws : List Word) : Dev :=
  d.setPch n fun c => { c with lists := c.lists ++ [{ present := at_, words := ws }] }

/-- A commit of the staged values that UPD names (R283, R287). The loader's writes are not refused (R216). -/
def Dev.pwmUpd (d : Dev) (ld : Bool) (x n : Nat) (per cmp : Bool) : Dev :=
  if !per && !cmp then d
  else if !ld && d.pwmOwned n then d.pwmRefuse
  else
    let o (b : Bool) (a : Nat) : Option Word := if b then some (d.rd a) else none
    d.pwmCommit x (presentAt x) n (o per (Reg.PWM_CH_PER n)) (o cmp (Reg.PWM_CH_CMPU n)) (o cmp (Reg.PWM_CH_CMPD n))

/-- A commit of the staged edge words (R287, R289). -/
def Dev.pwmUpdEl (d : Dev) (ld : Bool) (x n : Nat) : Dev :=
  if !ld && d.pwmOwned n then d.pwmRefuse
  else if (d.pch n).elStage.isEmpty then d
  else (d.pwmCommitList (presentAt x) n (d.pch n).elStage).setPch n fun c => { c with elStage := [] }

/-- PWM_SET_COMMIT (R283). -/
def execPwmSetCommit (t : Nat) (n : Fin 96) (v : Word) (s : State) : Out :=
  act t s fun x d => d.live fun d => d.pwmUpd false x n.val (tbit v 0) (tbit v 1)

/-- PWM_EDGE_LIST_COMMIT (R289). -/
def execPwmEdgeListCommit (t : Nat) (n : Fin 96) (s : State) : Out := act t s fun x d => d.live fun d => d.pwmUpdEl false x n.val

/-- A write of PWM_CH{n}_EL (R289, R303): the ninth word is refused; of a loader record the loader sees it in what is staged or committed (`Dev.pwmOk`). -/
def Dev.wrPwmEl (d : Dev) (ld : Bool) (n : Nat) (v : Word) : Dev :=
  if !ld && decide (8 ≤ (d.pch n).elStage.length) then d.pwmRefuse else d.setPch n fun c => { c with elStage := c.elStage ++ [v] }

/-- PWM_EL_WRITE (R289). -/
def execPwmElWrite (t : Nat) (n : Fin 96) (v : Word) (s : State) : Out := act t s fun _ d => d.live fun d => d.wrPwmEl false n.val v

/-- The conditions of R303 on the registers of a channel and its edge words. -/
def Dev.pwmOk (d : Dev) (n : Nat) : Bool :=
  let per := (d.rd (Reg.PWM_CH_PER n)).toNat
  let dt := Reg.PWM_CH_DT n
  decide ((d.pch n).elStage.length ≤ 8) && (d.pch n).lists.all (fun q => decide (q.words.length ≤ 8)) &&
  decide (32 ≤ per) && decide (per ≤ 268435455) && !(d.pwmMode n == 2 && per % 2 == 1) && decide (d.fld dt 13 0 ≤ 16383) && decide (d.fld dt 29 16 ≤ 16383) &&
    !(d.pwmLock n && d.bit (Reg.PWM_CH_CFG n) 27) && decide ((d.rd (Reg.PWM_CH_PHASE n)).toNat < 8 * per) &&
    decide (1 ≤ d.fld (Reg.PWM_CH_LOCK n) 7 0) && decide (1 ≤ d.fld (Reg.PWM_CH_LOCK n) 31 16) && d.pwmMode n != 3

/-- The instant of the first boundary after enable (R295): with LOCK the virtual boundary lies at the first aligned instant at least 1,000 PWM clocks after the write presents.
Device time advances by the present INC until then (DEDUCED, log entry 94). -/
def Dev.firstBound (d : Dev) (x n : Nat) : Nat :=
  let p := presentAt x
  if !d.pwmLock n then p + 16 * uNs
  else
    let ph := (d.rd (Reg.PWM_CH_PHASE n)).toNat
    let y := p + 1000 * uNs
    let m : Int := 2 ^ 32 * d.actPer n
    let dist := (((d.frm.tref * 2 ^ 32 + ph * 2 ^ 29 : Nat) : Int) - (d.time2 y : Int)) % m
    let inc := Nat.max 1 (d.time2 (y + uPer) - d.time2 y)
    (roundDiv (y + roundDiv (dist * (uPer : Nat)) inc - (ph % 8 : Nat)) uNs * uNs).toNat

/-- A write of a channel's CFG register (R295, R297, R303); `ld`: by the loader, without refusal (R216). -/
def Dev.wrPwmCfg (d : Dev) (ld : Bool) (x n : Nat) (v : Word) : Dev :=
  let a := Reg.PWM_CH_CFG n
  let d1 := d.rw a v
  let was := d.pwmEn n
  let en := d1.pwmEn n
  if !ld && ((was && d1.fld a 30 26 != d.fld a 30 26) || !d1.pwmOk n) then d.pwmRefuse
  else if !was && en then
    let nb := d1.firstBound x n
    d1.setPch n fun c =>
      { c with bound := 0, next := nb, begun := false, peakDone := false, lastReload := 0, was := none, dt := d1.fld (Reg.PWM_CH_DT n) 13 0
               minp := d1.fld (Reg.PWM_CH_DT n) 29 16, phase := (d1.rd (Reg.PWM_CH_PHASE n)).toNat, lockRun := 0, level := false, lastEdge := none
               deferred := none, hi := false, lo := false, hiOn := none, loOn := none }
  else if was && !en then
    let st := Reg.PWM_CH_STAT n
    let d1 := (((d1.setEdges n []).setB st 30 false).setB st 29 false).setB st 28 false
    (d1.setPch n fun c => { c with begun := false, elStage := [], deferred := none, level := false, hi := false, lo := false, hiOn := none, loOn := none }).gate x n
  else d1

/-- PWM_ENABLE_WRITE (R295, R297). -/
def execPwmEnableWrite (t : Nat) (n : Fin 96) (v : Word) (s : State) : Out := act t s fun x d => d.live fun d => d.wrPwmCfg false x n.val v

/-- A write of another register of a channel: staged PER and compares, DT, PHASE, LOCK (R303); a write of OVR waits for the boundary (R296). -/
def Dev.wrPwmOther (d : Dev) (ld : Bool) (n a : Nat) (v : Word) : Dev :=
  let d1 := d.rw a v
  if !ld && !d1.pwmOk n then d.pwmRefuse
  else d1

/-! ### Edge lists (R289, R290) -/

/-- A list is rejected or loses edges (R290). -/
def Dev.elDrop (d : Dev) (x n cause lost : Nat) : Dev :=
  let c := (d.rd Reg.PWM_ELDROP_CNT).toNat + lost
  ((d.setB Reg.PWM_STAT 5 true).wrN Reg.PWM_ELDROP_CNT (if c < 2 ^ 32 then c else 2 ^ 32 - 1)).raise .pwm x 179 0x5103 [(1, n), (1, cause), (1, lost)]

/-- Times strictly edgesAscend. -/
def edgesAscend : List (Nat × Bool) → Bool
  | a :: b :: r => decide (a.1 < b.1) && edgesAscend (b :: r)
  | _ => true

/-- A list presents to a channel (R290, R291). -/
def Dev.presentList (d : Dev) (x n : Nat) (ws : List Word) : Dev :=
  let base := d.fine d.frm.t0
  let es := ws.map (fun w => (base + natBits w.toNat 30 0, tbit w 31))
  if !d.pwmEn n then d.elDrop x n 4 ws.length
  else if !edgesAscend es then d.elDrop x n 0 ws.length
  else
    let soon := d.fine x + 16 * 8
    let e1 := es.filter (fun e => decide (soon ≤ e.1))
    let d := if e1.length < es.length then d.elDrop x n 1 (es.length - e1.length) else d
    match e1 with
    | [] => d
    | e0 :: _ =>
      let keep := (d.pch n).edges.filter (fun e => decide (e.1 < e0.1))
      if 16 < (keep ++ e1).length then d.elDrop x n 2 e1.length
      else
        let list := d.pwmSrcList n
        let nb := d.fine (d.pch n).next
        let e2 := if list then e1 else e1.filter (fun e => decide (nb ≤ e.1))
        let d := if e2.length < e1.length then d.elDrop x n 3 (e1.length - e2.length) else d
        if e2.isEmpty then d
        else (d.setEdges n (keep ++ e2)).setB (Reg.PWM_CH_STAT n) 29 (!list)

/-- EDGE_LIST_PRESENT (R290): the lists whose instant has come present in their order. -/
def execEdgeListPresent (t : Nat) (n : Fin 96) (s : State) : Out :=
  act t s fun x d => d.liveIn 7 fun d =>
    let n := n.val
    let due := (d.pch n).lists.filter (fun q => decide (q.present ≤ x))
    let d := d.setPch n fun c => { c with lists := c.lists.filter (fun q => decide (x < q.present)) }
    due.foldl (fun d q => d.presentList x n q.words) d

end Sys2Proof.Machine
end

