-- ==== Sys2Proof/Machine/Clk.lean ====
section
/-! DEFINITION. Machine/Clk.lean: oscillators, clock monitor, system PLL, Bellows, domains and gates (R408 to R423, R433 to R435). -/

namespace Sys2Proof.Machine

/-- CLK_STAT.REF_OK. -/
def Dev.refOk (d : Dev) : Bool := d.bit Reg.CLK_STAT 30
/-- CLK_STAT.SRO_OK. -/
def Dev.sroOk (d : Dev) : Bool := d.bit Reg.CLK_STAT 31
/-- CLK_STAT.FALLBACK. -/
def Dev.fallback (d : Dev) : Bool := d.bit Reg.CLK_STAT 29
/-- CLK_STAT.PLL_LOCK. -/
def Dev.pllLock (d : Dev) : Bool := d.bit Reg.CLK_STAT 28

/-- During a stop, the instant from which the PLL can lock again (R413). -/
def Dev.lockPossible (d : Dev) (x : Nat) : Dev :=
  if d.clk.stopped && d.clk.canLockAt.isNone && (d.refOk || d.sroOk) then { d with clk := { d.clk with canLockAt := some x } } else d

/-- During a stop, a loss of the last reference lets the 1 ms of R413 begin anew when one returns. -/
def Dev.lockLost (d : Dev) : Dev :=
  if d.clk.stopped && !d.refOk && !d.sroOk then { d with clk := { d.clk with canLockAt := none } } else d

/-- A clock that was lost at some instant has been good for 1 ms (R409, R410). -/
def goodFor (fell : Option Nat) (x : Nat) : Bool := match fell with | none => true | some f => decide (f + uMs ≤ x)

/-- REFCLK_FAILURE (R410 to R412): with the SRO settled the PLL falls back to it; else every domain stops with cause 1. `count` is the REFCLK count of the
window. A judgement before REF_OK has risen only starts its 1 ms anew, and before SRO_OK it is a stop too (R434). -/
def execRefclkFailure (t count : Nat) (s : State) : Out :=
  act t s fun x d =>
    let was := d.refOk
    let d := { d with clk := { d.clk with refFell := some x } }
    if !d.sys.porn || !d.keep.main then d
    else
      let d := (d.setB Reg.CLK_STAT 30 false).lockLost
      if !d.sroOk then d.clockStop x 1
      else if was && d.clk.started && !d.fallback then (d.setB Reg.CLK_STAT 29 true).raise .pin x 224 0xB100 [(4, count)]
      else d

/-- Step 5 of start-up ends: the system PLL starts (R416, R499). -/
def Dev.bootPll (d : Dev) (x : Nat) : Dev :=
  { d.setF Reg.SYS_BOOT 3 0 5 with sys := { d.sys with refWait := none }, clk := { d.clk with started := true, startAt := x } }

/-- Step 5 waits for REF_OK. -/
def Dev.refWaits (d : Dev) : Bool := d.sys.refWait.isSome

/-- REFCLK_RECOVERED (R410): 1 ms of REFCLK without a fault; start-up that waits for it goes on. -/
def execRefclkRecovered (t : Nat) (s : State) : Out := act t s fun x d =>
    if !goodFor d.clk.refFell x then d
    else
      let d := (d.setB Reg.CLK_STAT 30 true).lockPossible x
      if d.runs && d.refWaits then d.bootPll x else d

/-- SRO_OK_RISE (R409): the SRO has run within its band for 1 ms. -/
def execSroOkRise (t : Nat) (s : State) : Out :=
  act t s fun x d => if goodFor d.clk.sroFell x then (d.setB Reg.CLK_STAT 31 true).lockPossible x else d

/-- SRO_OK_FALL (R409, R412): event 225; while FALLBACK is 1 every domain stops with cause 3. -/
def execSroOkFall (t : Nat) (s : State) : Out :=
  act t s fun x d =>
    if !d.sroOk then d
    else
      let d := (d.setB Reg.CLK_STAT 31 false).raise .pin x 225 0xB101 [(1, b2n d.fallback)]
      let d := { d with clk := { d.clk with sroFell := some x } }.lockLost
      if d.fallback then d.clockStop x 3 else d

/-- A profile ends before its time (R418, R419): ABORTED, event 229 with target, segment and a reason whose numbers the spec does not give. -/
def Dev.blwAbort (d : Dev) (x : Nat) : Dev :=
  match d.clk.blw with
  | none => d
  | some r =>
    let f := d.fresh
    let d := { (f.2.setB Reg.CLK_BLW_STAT 31 false).setB Reg.CLK_BLW_STAT 29 true with clk := { f.2.clk with blw := none } }
    d.raise .per x 229 0xB105 [(1, r.target), (1, r.seg), (1, (Sys2Proof.Config.freeWord f.1).toNat % 256)]

/-- PLL_LOCK_LOSS (R412, R416): a running profile aborts, and every domain stops with cause 2. -/
def execPllLockLoss (t : Nat) (s : State) : Out :=
  act t s fun x d => if d.pllLock then (d.blwAbort x).clockStop x 2 else d

/-- LANE_PLL_LOCK_LOSS (R420): every lane is idle; event 230. -/
def execLanePllLockLoss (t : Nat) (s : State) : Out :=
  act t s fun x d => d.live fun d =>
    if !d.lcLock then d
    else
      let d := d.setB Reg.CLK_STAT 27 false
      d.lanesDark.raise .per x 230 0xB106 []

/-- LANE_PLL_LOCK_ACQUIRED (R420): the lane PLL locks to REFCLK; the enabled transmitters leave idle, a Jexper lane in Detect only in its pulses. -/
def execLanePllLockAcquired (t : Nat) (s : State) : Out :=
  act t s fun _ d => d.live fun d =>
    if !d.refOk then d
    else
      let d := d.setB Reg.CLK_STAT 27 true
      (List.range 4).foldl (fun d l => d.setLane l fun q => { q with txIdle := d.laneDark l || (decide (l < 2) && d.stage l == 0) }) d

/-- A write of 1 to CLK_CTRL.REF_RETURN (R415). -/
def Dev.refReturn (d : Dev) (x : Nat) : Dev :=
  if !d.fallback then d
  else if !d.refOk then d.setB Reg.CLK_STAT 0 true
  else (d.setB Reg.CLK_STAT 29 false).raise .per x 226 0xB102 []

/-- REF_RETURN (R415). -/
def execRefReturn (t : Nat) (s : State) : Out := act t s fun x d => d.live fun d => d.refReturn x

/-! ### The Bellows (R418, R419) -/

/-- The lower and upper frequency of a band in kHz (R417). -/
def Dev.bandSpan (d : Dev) (b : Nat) : Nat × Nat :=
  ((d.fld (Reg.CLK_BAND b) 11 0 + 3000) * 1000, (d.fld (Reg.CLK_BAND b) 23 12 + 3000) * 1000)

/-- The frequency of a target in kHz. -/
def Dev.blwKhz (d : Dev) (target : Nat) : Nat := if target = 0 then d.fld Reg.CLK_PLL_STAT 22 0 else d.clk.cpuKhz

/-- The frequency of a source of the domains in kHz: 0 PLL, 1 SRO, 2 REFCLK. -/
def Dev.srcKhz (d : Dev) (src : Nat) : Nat :=
  if src = 0 then d.fld Reg.CLK_PLL_STAT 22 0 else if src = 1 then 25000 else nth 0 [10000, 20000, 25000, 50000] (d.fld Reg.CLK_STAT 25 24)

/-- The device with the frequency of a target set; a CPU domain on the PLL scales with the VCO. -/
def Dev.setKhz (d : Dev) (target k : Nat) : Dev :=
  if target = 0 then
    let old := d.fld Reg.CLK_PLL_STAT 22 0
    let cpu := if d.fld (Reg.CLK_DOM_CFG 2) 31 30 = 0 then divN (d.clk.cpuKhz * k) old else d.clk.cpuKhz
    { d.setF Reg.CLK_PLL_STAT 22 0 k with clk := { d.clk with cpuKhz := cpu } }
  else { d with clk := { d.clk with cpuKhz := k } }

/-- A profile starts. -/
def Dev.blwRun (d : Dev) (target owner : Nat) (segs : List (Nat × Word)) : Dev :=
  let d := { d with clk := { d.clk with blw := some { target := target, owner := owner, segs := segs, seg := 0, held := 0 } } }
  (d.setB Reg.CLK_BLW_STAT 31 true).setF Reg.CLK_BLW_STAT 3 0 0

/-- One µs of the profile: towards END by RATE kHz, then HOLD µs at END, then the next segment; after the last, DONE. True when it has ended. -/
def Dev.blwStep (d : Dev) : Dev × Bool :=
  match d.clk.blw with
  | none => (d, false)
  | some r =>
    match r.segs with
    | [] => ({ (d.setB Reg.CLK_BLW_STAT 31 false).setB Reg.CLK_BLW_STAT 30 true with clk := { d.clk with blw := none } }, true)
    | (e, w) :: rest =>
      let f := d.blwKhz r.target
      let step := bitsOf w 15 0
      let f' := if f < e then Nat.min e (f + step) else Nat.max e (f - step)
      let d := d.setKhz r.target f'
      if f' ≠ e then (d, false)
      else if f = e && r.held + 1 < bitsOf w 31 16 then ({ d with clk := { d.clk with blw := some { r with held := r.held + 1 } } }, false)
      else if f ≠ e && 0 < bitsOf w 31 16 then (d, false)
      else if rest.isEmpty then
        ({ (d.setB Reg.CLK_BLW_STAT 31 false).setB Reg.CLK_BLW_STAT 30 true with clk := { d.clk with blw := none } }, true)
      else
        ({ (d.setF Reg.CLK_BLW_STAT 3 0 (r.seg + 1)) with clk := { d.clk with blw := some { r with segs := rest, seg := r.seg + 1, held := 0 } } }, false)

/-- The segments of the profile in the registers. -/
def Dev.blwSegs (d : Dev) (count : Nat) : List (Nat × Word) :=
  (List.range count).map (fun i => (d.fld (Reg.CLK_BLW_SEG_END i) 22 0, d.rd (Reg.CLK_BLW_SEG_RATE i)))

/-- Any PWM channel has EN = 1. -/
def Dev.anyPwm (d : Dev) : Bool := (List.range 96).any d.pwmEn

/-- A write of 1 to CLK_BLW_CTRL.START (R418, R419). -/
def Dev.blwStart (d : Dev) (x : Nat) : Dev :=
  let target := d.fld Reg.CLK_BLW_CTRL 29 29
  let band := d.fld Reg.CLK_BLW_CTRL 21 16
  let count := d.fld Reg.CLK_BLW_CTRL 4 0
  let segs := d.blwSegs count
  let fs := d.blwKhz target :: segs.map (fun q => q.1)
  let span := d.bandSpan band
  let bad :=
    d.clk.blw.isSome || decide (count < 1) || decide (16 < count) ||
    (if target = 0 then
       segs.any (fun q => decide (q.1 < 3600000) || decide (4400000 < q.1)) || fs.any (fun f => decide (f < span.1) || decide (span.2 < f)) ||
         d.running || d.anyPwm
     else segs.any (fun q => decide (q.1 < 50000) || decide (800000 < q.1)) || d.fld Reg.TMP_STAT 2 0 != 0)
  if bad then
    let f := d.fresh
    (f.2.setB Reg.CLK_STAT 3 true).raise .per x 229 0xB105
      [(1, target), (1, d.fld Reg.CLK_BLW_STAT 3 0), (1, (Sys2Proof.Config.freeWord f.1).toNat % 256)]
  else (if target = 0 then d.setF Reg.CLK_PLL_STAT 29 24 band else d).blwRun target 1 segs

/-- A bus write of CLK_BLW_CTRL. -/
def Dev.wrBlwCtrl (d : Dev) (x : Nat) (v : Word) : Dev :=
  let d := d.rw Reg.CLK_BLW_CTRL v
  let d := if tbit v 30 then d.blwAbort x else d
  if tbit v 31 then d.blwStart x else d

/-- BELLOWS_START (R418). -/
def execBellowsStart (t : Nat) (v : Word) (s : State) : Out :=
  act t s fun x d => d.live fun d => d.wrBlwCtrl x (setBit (setBit v 31 true) 30 false)

/-- BELLOWS_ABORT (R418). -/
def execBellowsAbort (t : Nat) (s : State) : Out := act t s fun x d => d.live fun d => d.blwAbort x

/-- A bus write of a band entry: refused for the band in use (R417), from the start of the PLL on. -/
def Dev.wrBand (d : Dev) (i : Nat) (v : Word) : Dev :=
  if d.clk.started && d.fld Reg.CLK_PLL_STAT 29 24 == i then d.setB Reg.CLK_STAT 0 true else d.rw (Reg.CLK_BAND i) v

/-! ### Domains and gates (R421 to R423) -/

/-- The PER domain stands still: device time holds, and a change of it waits (R369). -/
def Dev.perStop (d : Dev) (x : Nat) : Dev :=
  let t := d.time
  let p : TimePend := match t.pend with | some p => { p with at_ := never } | none => { at_ := never, ofs := 0, inc := t.inc }
  { d with time := { t with
      at_ := x, base := t.at2 x, inc := 0, pend := some p, past := keepPast (x - uMs) ({ at_ := t.at_, base := t.base, inc := t.inc } :: t.past) } }

/-- The PER domain runs again: what waits takes effect with its next cycle. -/
def Dev.perGo (d : Dev) (x : Nat) : Dev :=
  match d.time.pend with
  | some p => if d.clocked 3 && p.at_ == never then { d with time := { d.time with pend := some { p with at_ := nextPer x } } } else d
  | none => d

/-- The first instant at which a domain restarts on a source: 32 of its cycles after the stop (R422). -/
def Dev.restartAt (d : Dev) (x src : Nat) : Nat := x + ceilDiv (32 * 8000000) (d.srcKhz src)

/-- A bus write of CLK_DOM_CFG (R422): refused, or the domain stops and restarts on its new source; a domain that its gate holds stopped only changes its source. -/
def Dev.wrDom (d : Dev) (x k : Nat) (v : Word) : Dev :=
  let src := bitsOf v 31 30
  let bad :=
    ((k == 0 || k == 1 || k == 3) && (d.running || d.anyPwm)) ||
    (k == 4 && (List.range 48).any (fun n => d.bit (Reg.CMP_CH_CFG n) 31)) ||
    (src == 0 && !d.pllLock) || (src == 2 && !d.refOk) || bitsOf v 7 0 == 0 || src == 3
  let old := d.rd (Reg.CLK_DOM_CFG k)
  if bad then d.setB Reg.CLK_STAT 2 true
  else
    let d := d.rw (Reg.CLK_DOM_CFG k) v
    if d.rd (Reg.CLK_DOM_CFG k) == old then d
    else
      let cpu := if k = 2 then divN (d.srcKhz src) (bitsOf v 7 0) else d.clk.cpuKhz
      let d := if k = 3 && d.clocked 3 then d.perStop x else d
      let sw := if d.bit Reg.CLK_GATE k then updN 5 none d.clk.switching k (fun _ => some (d.restartAt x src)) else d.clk.switching
      { d with clk := { d.clk with switching := sw, cpuKhz := cpu } }

/-- DOMAIN_SWITCH (R422). -/
def execDomainSwitch (t : Nat) (k : Fin 5) (v : Word) (s : State) : Out := act t s fun x d => d.live fun d => d.wrDom x k.val v

/-- DOMAIN_RESTART (R422): after 32 cycles of the new source, the domain's clock runs again. -/
def execDomainRestart (t : Nat) (k : Fin 5) (s : State) : Out :=
  act t s fun x d =>
    match nth none d.clk.switching k.val with
    | none => d
    | some r =>
      if x < r then d
      else
        let d := { d with clk := { d.clk with switching := updN 5 none d.clk.switching k.val (fun _ => none) } }
        if k.val = 3 then d.perGo x else d

/-- The children of a gate (R423). -/
def gateChildren : Nat → List Nat
  | 0 => [5, 6]
  | 1 => [7, 8]
  | 3 => [9, 10, 11, 12, 13]
  | 4 => [14]
  | _ => []

/-- The parent of a gate. -/
def gateParent (g : Nat) : Option Nat :=
  if g = 5 || g = 6 then some 0 else if g = 7 || g = 8 then some 1 else if 9 ≤ g ∧ g ≤ 13 then some 3 else if g = 14 then some 4 else none

/-- The block of a gate is in use (R423). -/
def Dev.gateUsed (d : Dev) (g : Nat) : Bool :=
  if g = 2 then true
  else if g = 5 || g = 6 then d.running
  else if g = 7 then d.anyPwm || d.armed
  else if g = 8 then (List.range 96).any d.sdiEn || (List.range 8).any (fun c => d.bit (Reg.SDM_CLK_CFG c) 31)
  else if g = 9 then (List.range 5).any d.seqEn
  else if g = 10 then (List.range 2).any (fun k => d.encEn k)
  else if g = 11 then (List.range 4).any (fun m => d.bit (Reg.MTR_MP_CFG m) 31)
  else if g = 12 then (List.range 2).any (fun p => (List.range 2).any (fun r => d.bit (ringRegs p true r).ctrl 0 || d.bit (ringRegs p false r).ctrl 0))
  else if g = 14 then (List.range 48).any (fun n => d.bit (Reg.CMP_CH_CFG n) 31)
  else false

/-- A change of one gate (R423): done, or refused with the lowest cause that applies. -/
def Dev.gateChange (d : Dev) (x g : Nat) (on : Bool) : Dev :=
  if d.bit Reg.CLK_GATE g == on then d
  else
    let cause :=
      if !on && (gateChildren g).any (fun c => d.bit Reg.CLK_GATE c) then 1
      else if on && (match gateParent g with | some p => !d.bit Reg.CLK_GATE p | none => false) then 2
      else if !on && d.gateUsed g then 3
      else 0
    if cause = 0 then
      let d := if g = 3 && !on && d.clocked 3 then d.perStop x else d
      let d := d.setB Reg.CLK_GATE g on
      if g = 3 && on then d.perGo x else d
    else
      (((d.setB Reg.CLK_GATE_ERR 31 true).setF Reg.CLK_GATE_ERR 9 8 cause).setF Reg.CLK_GATE_ERR 3 0 g).raise .per x 228 0xB104 [(1, g), (1, cause)]

/-- A bus write of CLK_GATE: gate by gate, in ascending bit order. -/
def Dev.wrGate (d : Dev) (x : Nat) (v : Word) : Dev := (List.range 15).foldl (fun d g => d.gateChange x g (tbit v g)) d

/-- GATE_WRITE (R423). -/
def execGateWrite (t : Nat) (v : Word) (s : State) : Out := act t s fun x d => d.live fun d => d.wrGate x v

end Sys2Proof.Machine
end

