-- ==== Sys2Proof/Machine/Keep.lean ====
section
/-! DEFINITION. Machine/Keep.lean: the Keep domain, the trouble log and the journal (R436 to R453). -/

namespace Sys2Proof.Machine

/-- LOG_CTRL.JEN. -/
def Dev.jen (d : Dev) : Bool := d.bit Reg.LOG_CTRL 0
/-- The address of a journal sector on the processor bus (R445, R451). -/
def Dev.sectorAt (d : Dev) (s : Nat) : Nat := (if d.bit Reg.LOG_CFG 31 then 0x29000000 else 0x21000000) + 4096 * s
/-- BURST_NUM of the next burst. -/
def Dev.burstNum (d : Dev) : Nat := d.rd64 Reg.LOG_BURST_LO Reg.LOG_BURST_HI
/-- FSUP feeds the xSPI devices: with the main supplies always, without them during a burst only (R450, R531). -/
def Dev.fsup (d : Dev) : Bool := d.keep.main || d.keep.burst.isSome

/-- The 32 bytes of a log entry (R440). -/
def LogEntry.bytes (e : LogEntry) : List Byte := leBytes 8 e.time ++ leBytes 4 e.seq ++ leBytes 2 e.src ++ leBytes 2 e.code ++ (e.data ++ List.replicate 16 0#8).take 16

/-- The count of valid entries and the list of unflushed slots, shown in LOG_COUNT (R444). -/
def Dev.logCount (d : Dev) : Dev := (d.setF Reg.LOG_COUNT 29 16 d.keep.unfl.length).setF Reg.LOG_COUNT 13 0 d.keep.ring.length

/-- A burst is due (R447): JEN is 1, entries are unflushed, and one of the four cases holds or a sequence of bursts is under way. -/
def Dev.burstDue (d : Dev) (x : Nat) : Bool :=
  d.jen && !d.keep.unfl.isEmpty &&
    (d.keep.flushReq || decide (126 ≤ d.keep.unfl.length) ||
      (match d.keep.unfl.head? with | some u => decide (u.2 + d.fld Reg.LOG_CFG 15 0 * uS ≤ x) | none => false))

/-- The energy check of R448 on the last measured CS voltage, in units that make it exact: CS_DF (v² − 810,000) ≥ 25 MARGIN E_BURST with v in mV. -/
def Dev.energyOk (d : Dev) : Bool :=
  let v : Int := d.fld Reg.LOG_STORE 15 0
  decide ((25 * (d.fld Reg.LOG_ECFG 23 20 * d.fld Reg.LOG_ECFG 15 0) : Nat) ≤ (d.fld Reg.LOG_ECFG 31 24 : Int) * (v * v - 810000))

/-- Bytes 0 to 4,063 of a burst (R445). -/
def Dev.burstBytes (d : Dev) (slots : List Nat) : List Byte :=
  let lost := (d.rd Reg.LOG_LOST).toNat - d.keep.lostAtBurst
  let body := slots.flatMap (fun i => match assocGet i d.keep.ring with | some e => e.bytes | none => [])
  let bs := [0x41#8, 0x5A#8, 0x4A#8, 0x42#8, 1#8, BitVec.ofNat 8 slots.length, 0#8, 0#8] ++ leBytes 8 d.burstNum ++ leBytes 4 lost ++ List.replicate 12 0#8 ++ body
  bs ++ List.replicate (4064 - bs.length) 0#8

/-- The data of event 249: BURST_NUM, a count, CQ and CS (R459). -/
def Dev.burstData (d : Dev) (count : Nat) : List (Nat × Nat) :=
  [(8, d.burstNum), (4, count), (2, d.fld Reg.LOG_STORE 31 16), (2, d.fld Reg.LOG_STORE 15 0)]

/-- An attempt at a due burst (R446, R448): the sector is erased and the burst runs; or, without main supplies and energy, it is refused. -/
def Dev.burstTry (d : Dev) (x : Nat) : Dev × List Host.Cell :=
  if !d.keep.alive || d.keep.burst.isSome || !d.burstDue x then (d, [])
  else if !d.keep.main && !d.energyOk then
    let d := (d.inc Reg.LOG_REFUSED_CNT 31 0).setB Reg.LOG_STAT 2 true
    ({ d with keep := { d.keep with flushReq := true, retryAt := some (x + uS) } }, [])
  else
    let slots := (d.keep.unfl.take 126).map (fun u => u.1)
    let run : BurstRun := { slots := slots, bytes := d.burstBytes slots, lost := (d.rd Reg.LOG_LOST).toNat }
    ({ d.setB Reg.LOG_STAT 29 true with keep := { d.keep with burst := some run, flushReq := true, retryAt := none } },
     cellsAt (d.sectorAt (d.fld Reg.LOG_JNEXT 10 0)) (List.replicate 4096 0xFF#8))

/-- JOURNAL_BURST_START (R446): while a refused burst waits for its retry and the main supplies are absent, nothing starts. -/
def execJournalBurstStart (t : Nat) (s : State) : Out :=
  actE t s fun s =>
    let d := s.dev
    let waits := !d.keep.main && (match d.keep.retryAt with | some r => decide (s.now < r) | none => false)
    let r := if waits then (d, []) else d.burstTry s.now
    { dev := r.1, cells := r.2, fuses := [] }

/-- JOURNAL_BURST_RETRY (R448, R458): 1 s after a refusal, or at once with the main supplies back, the burst is tried again. -/
def execJournalBurstRetry (t : Nat) (s : State) : Out :=
  actE t s fun s =>
    let d := s.dev
    let r := match d.keep.retryAt with
      | none => (d, [])
      | some r => if r ≤ s.now || d.keep.main then { d with keep := { d.keep with retryAt := none } }.burstTry s.now else (d, [])
    { dev := r.1, cells := r.2, fuses := [] }

/-- The commit record of a burst (R63, R445). -/
def burstCommit (bytes : List Byte) : List Byte :=
  let r := [0x41#8, 0x5A#8, 0x43#8, 0x4D#8, 0x03#8, 1#8, 0#8, 0#8] ++ leBytes 4 4064 ++ List.replicate 8 0#8 ++ leBytes 4 (crc32 bytes).toNat ++ List.replicate 4 0#8
  r ++ leBytes 4 (crc32 r).toNat

/-- `n` free bytes. -/
def Dev.freshBytes (d : Dev) (n : Nat) : List Byte × Dev :=
  ((List.range n).map (fun i => BitVec.ofNat 8 (Sys2Proof.Config.freeWord (d.free + i)).toNat), { d with free := d.free + n })

/-- Three consecutive mismatches stop flushing (R446). -/
def Dev.verifyFail (d : Dev) : Dev :=
  let n := d.keep.verifyRun + 1
  let d := { d with keep := { d.keep with verifyRun := n } }
  if n < 3 then d
  else { (d.setB Reg.LOG_STAT 5 true).setB Reg.LOG_CTRL 0 false with keep := { d.keep with flushReq := false, verifyRun := 0 } }

/-- The sector after the present one is next (R446). -/
def Dev.nextSector (d : Dev) : Dev := d.setF Reg.LOG_JNEXT 10 0 ((d.fld Reg.LOG_JNEXT 10 0 + 1) % 2048)

/-- The entries of a committed burst are flushed. -/
def Dev.markFlushed (d : Dev) (slots : List Nat) : Dev :=
  let unfl := d.keep.unfl.filter (fun u => !slots.contains u.1)
  ({ d with keep := { d.keep with unfl := unfl, flushReq := d.keep.flushReq && !unfl.isEmpty } }).logCount

/-- JOURNAL_BURST_VERIFY (R446): on a match the commit record is programmed, the entries are flushed, LOG_JNEXT and LOG_BURST advance; on a mismatch the
sector stays without a commit record and the burst is retried at the next sector. The bytes that a failed burst leaves are free values. -/
def execJournalBurstVerify (t : Nat) (ok : Bool) (s : State) : Out :=
  actE t s fun s =>
    let d := s.dev
    match d.keep.burst with
    | none => { dev := d, cells := [], fuses := [] }
    | some run =>
      let base := d.sectorAt (d.fld Reg.LOG_JNEXT 10 0)
      let d := { d.setB Reg.LOG_STAT 29 false with keep := { d.keep with burst := none } }
      if ok then
        let n := d.burstNum + 1
        let d := (d.markFlushed run.slots).nextSector.wr64 Reg.LOG_BURST_LO Reg.LOG_BURST_HI (n % 2 ^ 64)
        { dev := { d with keep := { d.keep with verifyRun := 0, lostAtBurst := run.lost } },
          cells := cellsAt base (run.bytes ++ burstCommit run.bytes), fuses := [] }
      else
        let f := d.freshBytes 4064
        let data := d.burstData (d.keep.verifyRun + 1)
        let d := ((f.2.setB Reg.LOG_STAT 4 true).raise .per s.now 249 0xE103 data).nextSector.verifyFail
        { dev := d, cells := cellsAt base f.1, fuses := [] }

/-- A measurement of the stores is due (R448, R449): 1 ms after the last one during a burst without main supplies, else 100 ms; and just before a burst starts that needs the
energy check. -/
def Dev.storeDue (d : Dev) (x : Nat) : Bool :=
  let out := !d.keep.main
  match d.keep.storeAt with
  | none => true
  | some l => decide (l + (if out && d.keep.burst.isSome then uMs else 100 * uMs) ≤ x) || (out && d.keep.burst.isNone && d.burstDue x)

/-- STORE_MEASUREMENT (R449, R453): CQ and CS in mV. During a burst without main supplies a CQ below ABORT_MV aborts it; after 600 s of main supplies a low CS is reported
once per excursion. -/
def execStoreMeasurement (t : Nat) (cq cs : Nat) (s : State) : Out :=
  actE t s fun s =>
    let d := s.dev
    if !d.keep.alive || !d.storeDue s.now then { dev := d, cells := [], fuses := [] }
    else
      let d := { (d.setF Reg.LOG_STORE 31 16 cq).setF Reg.LOG_STORE 15 0 cs with keep := { d.keep with storeAt := some s.now } }
      if d.keep.burst.isSome && !d.keep.main && cq < d.fld Reg.LOG_VCFG 31 16 then
        let f := d.freshBytes 4064
        let base := d.sectorAt (d.fld Reg.LOG_JNEXT 10 0)
        let d := ((f.2.inc Reg.LOG_ABORT_CNT 31 0).setB Reg.LOG_STAT 3 true).setB Reg.LOG_STAT 29 false
        { dev := { d with keep := { d.keep with burst := none } }, cells := cellsAt base f.1, fuses := [] }
      else
        let low := d.keep.main && decide (d.keep.mainSince + 600 * uS ≤ s.now) && decide (cs + 300 < d.fld Reg.LOG_VCFG 15 0)
        let d' := { d with keep := { d.keep with storeLow := low } }
        let d' := if low && !d.keep.storeLow then (d'.setB Reg.LOG_STAT 6 true).raise .per s.now 251 0xE121 [(2, cq), (2, cs)] else d'
        { dev := d', cells := [], fuses := [] }

/-- HARVESTER_START (R438). -/
def execHarvesterStart (t : Nat) (s : State) : Out :=
  act t s fun x d =>
    if !d.keep.alive || d.keep.main || d.bit Reg.LOG_STAT 30 then d
    else ({ d.setB Reg.LOG_STAT 30 true with keep := { d.keep with harvSince := some x } }).logDirect x 0xE 0xE132 []

/-- The harvester stops. -/
def Dev.harvStop (d : Dev) (x : Nat) : Dev :=
  match d.keep.harvSince with
  | none => d
  | some since =>
    let d := (d.setB Reg.LOG_STAT 30 false).logDirect x 0xE 0xE133 []
    { d with keep := { d.keep with harvSince := none, harvTime := d.keep.harvTime + (x - since) } }

/-- HARVESTER_STOP (R438). -/
def execHarvesterStop (t : Nat) (s : State) : Out := act t s fun x d => d.harvStop x

/-- KT_UPDATE (R439): every 1 ms device time, once it runs (R506), is copied into KT; KT is valid once device time has been stepped. -/
def execKtUpdate (t : Nat) (s : State) : Out :=
  act t s fun x d => d.live fun d =>
    if !d.keep.alive || d.time.inc = 0 || x < d.keep.ktAt + uMs then d
    else
      let k := d.ns x
      let d := { d.wr64 Reg.LOG_KT_LO Reg.LOG_KT_HI (k % 2 ^ 64) with keep := { d.keep with kt := k, ktAt := x } }
      if d.bit Reg.TIM_STAT 3 then d.setB Reg.LOG_STAT 28 true else d

/-- The oldest queued entry goes into the ring (R442). -/
def Dev.logWrite (d : Dev) (x : Nat) : Dev :=
  match d.keep.queue with
  | [] => d
  | e :: rest =>
    let i := d.fld Reg.LOG_WIDX 12 0
    let exceeds := d.keep.unfl.any (fun u => u.1 == i)
    let d := { d with keep := { d.keep with queue := rest, ring := assocSet i e d.keep.ring, unfl := d.keep.unfl.filter (fun (u : Nat × Nat) => u.1 != i) ++ [(i, x)], wroteAt := some x,
                                            burst := d.keep.burst.map (fun (b : BurstRun) => { b with slots := b.slots.filter (fun j => j != i) }) } }
    let d := (d.setF Reg.LOG_WIDX 12 0 ((i + 1) % 8192)).logCount
    if exceeds then
      let first := !d.bit Reg.LOG_STAT 1
      let d := (d.inc Reg.LOG_LOST 31 0).setB Reg.LOG_STAT 1 true
      if first then d.raise .per x 248 0xE100 [(4, (d.rd Reg.LOG_LOST).toNat)] else d
    else d

/-- LOG_ENTRY_WRITE (R442): one entry in an fc. -/
def execLogEntryWrite (t : Nat) (s : State) : Out :=
  act t s fun x d => if d.keep.alive && d.keep.wroteAt.map (· / uFc) != some (x / uFc) then d.logWrite x else d

/-- A write of 1 to LOG_FW_CMD.WRITE (R443). -/
def Dev.fwEntry (d : Dev) (x : Nat) : Dev :=
  let code := d.fld Reg.LOG_FW_CODE 15 0
  if code < 0xE800 || 0xEBFF < code then d.setB Reg.LOG_STAT 0 true
  else
    d.logPut x { time := d.ns x, seq := (d.rd Reg.ANV_SEQ).toNat, src := 0xC000, code := code,
                 data := (List.range 4).flatMap (fun w => leBytes 4 (d.rd (Reg.LOG_FW_DATA w)).toNat) }

/-- LOG_FW_WRITE (R443). -/
def execLogFwWrite (t : Nat) (s : State) : Out := act t s fun x d => d.live fun d => d.fwEntry x

/-- A free entry's words, for a slot that nothing has written. -/
def Dev.freshWords (d : Dev) (n : Nat) : List Word × Dev :=
  ((List.range n).map (fun i => Sys2Proof.Config.freeWord (d.free + i)), { d with free := d.free + n })

/-- LOG_READ_LATCH (R444): the whole entry at LOG_RIDX is latched; the read returns its first word. -/
def execLogReadLatch (t : Nat) (s : State) : Out :=
  act t s fun _ d => d.live fun d =>
    let r : List Word × Dev := match assocGet (d.fld Reg.LOG_RIDX 12 0) d.keep.ring with
      | some e => ((chunks 4 8 e.bytes).map (fun b => BitVec.ofNat 32 (leNat b)), d)
      | none => d.freshWords 8
    let d := (List.range 8).foldl (fun d w => d.wr (Reg.LOG_RDATA w) (nth 0 r.1 w)) r.2
    { d with answer := nth 0 r.1 0 }

/-- A write of 1 to LOG_CTRL.FLUSH (R447): an entry that is still in the queue is unflushed too. -/
def Dev.flushNow (d : Dev) : Dev := if d.jen && !(d.keep.unfl.isEmpty && d.keep.queue.isEmpty) then { d with keep := { d.keep with flushReq := true } } else d

/-- FLUSH (R447). -/
def execFlush (t : Nat) (s : State) : Out := act t s fun _ d => d.live fun d => d.flushNow

/-- FLUSH_AGE_EXPIRY (R447). -/
def execFlushAgeExpiry (t : Nat) (s : State) : Out := act t s fun x d => if d.keep.alive && d.burstDue x then d.flushNow else d

/-- A bus write of a LOG register (R443, R447, R452). -/
def Dev.wrLog (d : Dev) (x a : Nat) (v : Word) : Dev :=
  if a = Reg.LOG_CTRL then
    let d := d.rw a v
    let d := if d.jen then d else { d with keep := { d.keep with flushReq := false } }
    if tbit v 1 then d.flushNow else d
  else if a = Reg.LOG_FW_CMD then (if tbit v 0 then d.fwEntry x else d)
  else if d.jen && ((a == Reg.LOG_JNEXT || a == Reg.LOG_BURST_LO || a == Reg.LOG_BURST_HI) || (a == Reg.LOG_CFG && (tbit v 31 != d.bit Reg.LOG_CFG 31))) then
    d.setB Reg.LOG_STAT 0 true
  else d.rw a v

/-! ### Supplies of the Keep domain -/

/-- The main supplies are lost: KT runs on from its last value, entry 0xE130, and a burst becomes due for unflushed entries (R439, R447, R453). -/
def Dev.keepLoss (d : Dev) (x : Nat) : Dev :=
  let d := { d.setB Reg.LOG_STAT 31 false with
    keep := { d.keep with main := false, ktAt := x, lossKt := d.keep.kt, refusedAtLoss := (d.rd Reg.LOG_REFUSED_CNT).toNat,
                          abortAtLoss := (d.rd Reg.LOG_ABORT_CNT).toNat, harvTime := 0, harvSince := none, storeLow := false } }
  (d.logDirect x 0xE 0xE130 [(2, d.fld Reg.LOG_STORE 31 16), (2, d.fld Reg.LOG_STORE 15 0)]).flushNow

/-- The Keep domain starts cold (R437). -/
def Dev.keepCold (d : Dev) (x : Nat) (main : Bool) : Dev :=
  { d.resetRange 0x10030000 0x10040000 (fun _ => false) with 
    keep := { KeepSt.init with main := main, ktAt := x, mainSince := if main && d.keep.main then d.keep.mainSince else x } }

/-- The main supplies return: the harvester stops, KT is taken over, entry 0xE131; refusals and aborts of the outage wait for the fabric (R449, R453). A Keep domain that was
dead starts cold. -/
def Dev.keepReturn (d : Dev) (x : Nat) : Dev :=
  if !d.keep.alive then (d.keepCold x true).setB Reg.LOG_STAT 31 true
  else
    let d := d.harvStop x
    let now := d.ktNow x
    let refused := (d.rd Reg.LOG_REFUSED_CNT).toNat - d.keep.refusedAtLoss
    let aborted := (d.rd Reg.LOG_ABORT_CNT).toNat - d.keep.abortAtLoss
    let d := { d.setB Reg.LOG_STAT 31 true with
      keep := { d.keep with main := true, kt := now, ktAt := x, mainSince := x, refusedPend := decide (0 < refused), abortPend := decide (0 < aborted) } }
    d.logPut x { time := now, seq := (d.rd Reg.ANV_SEQ).toNat, src := 0x800E, code := 0xE131,
                 data := packData [(4, (now - d.keep.lossKt) / 1000000000), (4, refused), (4, aborted), (4, d.keep.harvTime / uS)] }

/-- Events of the Keep domain that waited for the fabric (R437, R449). -/
def Dev.keepFabric (d : Dev) (x : Nat) : Dev :=
  let k := d.keep
  let d := { d with keep := { d.keep with coldPend := false, refusedPend := false, abortPend := false } }
  let d := if k.coldPend then d.raise .per x 251 0xE120 [(2, d.fld Reg.LOG_STORE 31 16), (2, d.fld Reg.LOG_STORE 15 0)] else d
  let d := if k.refusedPend then d.raise .per x 249 0xE101 (d.burstData (d.rd Reg.LOG_REFUSED_CNT).toNat) else d
  if k.abortPend then d.raise .per x 249 0xE102 (d.burstData (d.rd Reg.LOG_ABORT_CNT).toNat) else d

end Sys2Proof.Machine
end

