-- ==== Sys2Proof/Machine/Reset.lean ====
section
/-! DEFINITION. Machine/Reset.lean: block resets: PORn, the clock-stop restart and its retained state (R385, R413, R414, R436, R498, R506). -/

namespace Sys2Proof.Machine

/-- A field takes the value it has in another device. -/
def Dev.copyF (d old : Dev) (a hi lo : Nat) : Dev := d.setF a hi lo (old.fld a hi lo)

/-- The state of an engine: 0 spare, 1 active, 2 migrating, 3 self-test, 4 retired, 5 faulted, 6 test-queued (R108). -/
def Dev.engState (d : Dev) (e : Nat) : Nat := d.fld (Reg.HRT_ENG_STAT e) 2 0
/-- TMP_STAT.STATE: 0 NORMAL, 1 THROTTLED, 2 STOPPING, 3 TRIPPED. -/
def Dev.tmpState (d : Dev) : Nat := d.fld Reg.TMP_STAT 2 0

/-- The retained state of the Anvil (R414). -/
def Dev.retainAnv (d old : Dev) : Dev := d.wr Reg.ANV_SEQ (old.rd Reg.ANV_SEQ)
/-- The retained state of the Hearth and the Placer: faulted and retired engines, SLOW_CNT. -/
def Dev.retainEng (d old : Dev) : Dev :=
  (List.range 64).foldl (fun d e =>
    let d := if old.engState e = 4 || old.engState e = 5 then d.copyF old (Reg.HRT_ENG_STAT e) 2 0 else d
    d.copyF old (Reg.PLC_ENG_INFO e) 24 21) d
/-- The retained state of the gate protection: LOST marks, causes and lost counts. -/
def Dev.retainGdp (d old : Dev) : Dev :=
  let d := (List.range 96).foldl (fun d n => (d.copyF old (Reg.GDP_CH_STAT n) 31 31).copyF old (Reg.GDP_CH_STAT n) 26 24) d
  (List.range 6).foldl (fun d b => d.copyF old (Reg.GDP_BR_LOST b) 23 0) d
/-- The retained state of Temper: broken marks and causes, and STOPPING or TRIPPED. -/
def Dev.retainTmp (d old : Dev) : Dev :=
  let d := (List.range 24).foldl (fun d s => d.copyF old (Reg.TMP_S_DATA s) 7 4) d
  if old.tmpState = 2 || old.tmpState = 3 then d.copyF old Reg.TMP_STAT 2 0 else d
/-- The retained state of SYS and CLK. -/
def Dev.retainSys (d old : Dev) : Dev :=
  let d := (d.wr Reg.SYS_STRAP (old.rd Reg.SYS_STRAP)).wr Reg.SYS_RST_CAUSE (old.rd Reg.SYS_RST_CAUSE)
  ((d.wr Reg.CLK_STOP_REC (old.rd Reg.CLK_STOP_REC)).wr Reg.CLK_STOP_TLO (old.rd Reg.CLK_STOP_TLO)).wr Reg.CLK_STOP_THI (old.rd Reg.CLK_STOP_THI)

/-- Registers that no reset of the core touches: the LOG block and the safety island (R385, R436). -/
def keptRegs (a : Nat) : Bool := (decide (0x10030000 ≤ a) && decide (a < 0x10040000)) || (decide (0x10270000 ≤ a) && decide (a < 0x10280000))

/-- The levels of the pins of the gate protection stay as they are outside. -/
def GdpSt.keepPins (g : GdpSt) : GdpSt := { GdpSt.init with ch := g.ch.map (fun c => { GdpCh.init with pinLow := c.pinLow, pinAt := c.pinAt }) }

/-- Every block of the core in its reset state: the Keep domain, the safety island, levels at input pins and what the command has put out stay. -/
def Dev.coreReset (d : Dev) : Dev :=
  { Dev.init with
    regs := d.regs.filter (fun p => keptRegs p.1)
    gdp := d.gdp.keepPins
    enc := d.enc.keepPins
    saf := d.saf
    keep := d.keep
    cpu := { CpuSt.init with gpioLevel := d.cpu.gpioLevel }
    sent := d.sent
    ethOut := d.ethOut
    uartOut := d.uartOut
    free := d.free }

/-- PORn is low (R497, R498): every block of the core is reset; the SRO and its monitor run on. `cause` is what SYS_RST_CAUSE will show. -/
def Dev.pornLow (d : Dev) (cause : Nat) : Dev :=
  if !d.sys.porn then d
  else
    let d' := (d.coreReset.safPorn.setB Reg.CLK_STAT 31 (d.sroOk)).setF Reg.SYS_RST_CAUSE 1 0 cause
    { d' with sys := { SysSt.init with porn := false }, clk := { ClkSt.init with sroFell := d.clk.sroFell, refFell := d.clk.refFell } }

/-- The reset of a clock-stop restart (R413, R414): everything but the Keep domain, the safety island and the retained state. -/
def Dev.restartReset (d : Dev) : Dev :=
  let d' := ((((d.coreReset.retainAnv d).retainEng d).retainGdp d).retainTmp d).retainSys d
  let d' := (d'.setF Reg.SYS_RST_CAUSE 1 0 2).setB Reg.SYS_RST_CAUSE 2 false
  let d' := if d.tmpState = 2 then d'.setF Reg.TMP_STAT 2 0 3 else d'
  let d' := ((d'.setB Reg.CLK_STAT 31 d.sroOk).setB Reg.CLK_STAT 30 d.refOk).copyF d Reg.CLK_STAT 25 24
  { d' with sys := { SysSt.init with pornAt := d.sys.pornAt, safeAt := d.sys.safeAt }
            clk := { ClkSt.init with sroFell := d.clk.sroFell, refFell := d.clk.refFell } }

/-- The cells that make a range of memory read as if nothing had been written there. -/
def blankCells (m : Memory) (lo hi : Nat) : List Host.Cell :=
  (m.filter (fun c => decide (lo ≤ c.1) && decide (c.1 < hi))).map (fun c => (c.1, Memory.blank c.1))

/-- The content of DDR is lost (R457, R508). -/
def ddrLost (m : Memory) : List Host.Cell := blankCells m 0x800000000 0xA00000000
/-- The content of system SRAM is lost with its supply. -/
def sramLost (m : Memory) : List Host.Cell := blankCells m 0x08000000 0x08800000
/-- Both journal regions erased (R62, R478). -/
def journalErase (m : Memory) : List Host.Cell := blankCells m 0x21000000 0x21800000 ++ blankCells m 0x29000000 0x29800000

end Sys2Proof.Machine
end

