-- ==== Sys2Proof/Machine/Cpu.lean ====
section
/-! DEFINITION. Machine/Cpu.lean: processor pairs, watchdogs, timers, the interrupt controller, memory errors and xSPI (R481 to R495). -/

namespace Sys2Proof.Machine

/-- A processor pair. -/
def Dev.cpuPair (d : Dev) (p : Nat) : CpuPair := nth CpuPair.init d.cpu.pair p
/-- The device with a processor pair changed. -/
def Dev.setCpuPair (d : Dev) (p : Nat) (f : CpuPair → CpuPair) : Dev := d.setCpu fun c => { c with pair := updN 2 CpuPair.init c.pair p f }

/-! ### Interrupt controller (R488, R489) -/

/-- The priority of an interrupt. -/
def Dev.irqPrio (d : Dev) (id : Nat) : Nat := (assocGet id d.cpu.prio).getD 0
/-- An interrupt is enabled in a context. -/
def Dev.irqEnabled (d : Dev) (ctx id : Nat) : Bool := ((assocGet (32 * ctx + id / 32) d.cpu.enab).getD 0).testBit (id % 32)

/-- The interrupt a claim returns: the highest-priority pending enabled one above the context's threshold, of equal ones the lowest (R488). -/
def Dev.claimOf (d : Dev) (ctx : Nat) : Nat :=
  let able (id : Nat) : Bool :=
    decide (0 < id) && !d.cpu.iclaim.contains id && d.irqEnabled ctx id && decide (nth 0 d.cpu.thr ctx < d.irqPrio id)
  (d.cpu.ipend.filter able).foldl (fun best id =>
    if best = 0 || d.irqPrio best < d.irqPrio id || (d.irqPrio best == d.irqPrio id && decide (id < best)) then id else best) 0

/-- PLIC_CLAIM (R488): the answer is 0 when nothing can be claimed. -/
def execPlicClaim (t : Nat) (ctx : Fin 4) (s : State) : Out :=
  act t s fun _ d => d.live fun d =>
    let id := d.claimOf ctx.val
    let d := if id = 0 then d else d.setCpu fun c => { c with ipend := c.ipend.filter (fun i => i != id), iclaim := insertBy (fun i => i) id c.iclaim }
    { d with answer := BitVec.ofNat 32 id }

/-- PLIC_COMPLETE (R488): ignored for an interrupt that is not enabled in the context. -/
def execPlicComplete (t : Nat) (ctx : Fin 4) (id : Nat) (s : State) : Out :=
  act t s fun _ d => d.live fun d =>
    if d.irqEnabled ctx.val id then d.setCpu fun c => { c with iclaim := c.iclaim.filter (fun i => i != id) } else d

/-- A bus write into the interrupt controller in the layout of the RISC-V PLIC specification 1.0.0 (PRESUMED, log entry 33): priorities, enables,
thresholds and completions. -/
def Dev.wrPlic (d : Dev) (off : Nat) (v : Word) : Dev :=
  if off < 4 * 272 then (if off = 0 then d else d.setCpu fun c => { c with prio := assocSet (off / 4) (bitsOf v 2 0) c.prio })
  else if 0x2000 ≤ off ∧ off < 0x2000 + 0x80 * 4 then d.setCpu fun c => { c with enab := assocSet ((off - 0x2000) / 4) v.toNat c.enab }
  else if 0x200000 ≤ off ∧ off < 0x204000 then
    let ctx := (off - 0x200000) / 0x1000
    let r := (off - 0x200000) % 0x1000
    if r = 0 then d.setCpu fun c => { c with thr := updN 4 0 c.thr ctx (fun _ => bitsOf v 2 0) }
    else if r = 4 && d.irqEnabled ctx v.toNat then d.setCpu fun c => { c with iclaim := c.iclaim.filter (fun i => i != v.toNat) }
    else d
  else d

/-! ### Hart timers (R483) -/

/-- The machine timer interrupt of a hart is pending while mtime has reached its compare value. -/
def Dev.mtimerPending (d : Dev) (x h : Nat) : Bool := decide (d.rd64 (Reg.TMR_MTIMECMP_LO h) (Reg.TMR_MTIMECMP_HI h) ≤ d.ns x % 2 ^ 64)
/-- The machine software interrupt of a hart is pending. -/
def Dev.msipPending (d : Dev) (h : Nat) : Bool := d.bit (Reg.TMR_MSIP h) 0
/-- The machine timer lines as they stand at an instant. -/
def Dev.mtimers (d : Dev) (x : Nat) : Dev := d.setCpu fun c => { c with mtip := [d.mtimerPending x 0, d.mtimerPending x 1] }

/-- MTIMER_MATCH (R483). -/
def execMtimerMatch (t : Nat) (h : Fin 2) (s : State) : Out :=
  act t s fun x d => d.live fun d => d.setCpu fun c => { c with mtip := updN 2 false c.mtip h.val (fun _ => d.mtimerPending x h.val) }

/-- MTIME_LO_READ (R483): the low word is returned, the high word latched. -/
def execMtimeLoRead (t : Nat) (s : State) : Out :=
  act t s fun x d => d.live fun d =>
    { (d.setCpu fun c => { c with mtimeHi := BitVec.ofNat 32 (d.ns x / 2 ^ 32) }) with answer := BitVec.ofNat 32 (d.ns x) }

/-! ### Processor pairs (R484 to R487) -/

/-- Bit of SYS_CPU_STAT that says a pair runs. -/
def runBit (p : Nat) : Nat := if p = 0 then 0 else 8
/-- A processor pair runs. -/
def Dev.pairRuns (d : Dev) (p : Nat) : Bool := d.bit Reg.SYS_CPU_STAT (runBit p)

/-- A pair starts at a vector; its watchdog counts afresh. -/
def Dev.pairStart (d : Dev) (x p vec : Nat) : Dev :=
  (d.setB Reg.SYS_CPU_STAT (runBit p) true).setCpuPair p fun q => { running := true, wdtFrom := x, wdtHalf := false, wdtSet := q.wdtSet, vec := vec }

/-- A pair fault (R485): the pair stops, FAULT and CAUSE, the direct entry with program counter and cause, interrupt 257 + p; with no other pair running, a warm restart is
due 1 ms later. -/
def Dev.pairFault (d : Dev) (x p cause pc : Nat) : Dev :=
  if !d.pairRuns p then d
  else
    let d := ((d.setB Reg.SYS_CPU_STAT (runBit p) false).setB Reg.SYS_CPU_STAT (1 + p) true).setF Reg.SYS_CPU_STAT (4 + 2 * p) (3 + 2 * p) cause
    let d := (d.setCpuPair p fun q => { q with running := false }).logDirect x 0xE (0xE200 + p) [(8, pc), (1, cause)]
    let d := d.irq (257 + p)
    if d.pairRuns (1 - p) then d else d.setCpu fun c => { c with warmAt := some (x + uMs) }

/-- LOCKSTEP_MISMATCH (R485). -/
def execLockstepMismatch (t : Nat) (p : Fin 2) (pc : Nat) (s : State) : Out := act t s fun x d => d.live fun d => d.pairFault x p.val 1 pc

/-- The timeout of a watchdog. -/
def Dev.wdtTime (d : Dev) (p : Nat) : Nat := d.fld (Reg.SYS_WDT p) 15 0 * uMs

/-- WATCHDOG_EXPIRY (R485, R487). -/
def execWatchdogExpiry (t : Nat) (p : Fin 2) (pc : Nat) (s : State) : Out :=
  act t s fun x d => d.live fun d =>
    if d.bit (Reg.SYS_WDT p.val) 31 && decide ((d.cpuPair p.val).wdtFrom + d.wdtTime p.val ≤ x) then d.pairFault x p.val 2 pc else d

/-- WATCHDOG_HALF (R489): interrupt 270, once per count. -/
def execWatchdogHalf (t : Nat) (p : Fin 2) (s : State) : Out :=
  act t s fun x d => d.live fun d =>
    let q := d.cpuPair p.val
    if d.bit (Reg.SYS_WDT p.val) 31 && d.pairRuns p.val && !q.wdtHalf && decide (2 * q.wdtFrom + d.wdtTime p.val ≤ 2 * x) then
      (d.setCpuPair p.val fun q => { q with wdtHalf := true }).irq 270
    else d

/-- A write of 1 to KICK. -/
def Dev.wdtKick (d : Dev) (x p : Nat) : Dev := d.setCpuPair p fun q => { q with wdtFrom := x, wdtHalf := false }

/-- KICK (R487). -/
def execKick (t : Nat) (p : Fin 2) (s : State) : Out := act t s fun x d => d.live fun d => d.wdtKick x p.val

/-- A bus write of SYS_WDT (R487): the first write since the reset of the block sets EN, later ones leave it (RW1, R8); EN fixes TIMEOUT_MS. -/
def Dev.wrWdt (d : Dev) (x p : Nat) (v : Word) : Dev :=
  let a := Reg.SYS_WDT p
  let en := d.bit a 31
  let d := if en then d else d.setF a 15 0 (bitsOf v 15 0)
  let d := if !(d.cpuPair p).wdtSet && tbit v 31 then (d.setB a 31 true).wdtKick x p else d
  let d := d.setCpuPair p fun q => { q with wdtSet := true }
  if tbit v 30 then d.wdtKick x p else d

/-- A write of 1 to SYS_CPU_CTRL.RUN1 by pair MP0 (R484, R485): pair MP1 is reset and starts at SYS_CPU_VEC1. -/
def Dev.run1 (d : Dev) (x : Nat) : Dev :=
  if d.pairRuns 0 then d.pairStart x 1 (d.rd64 Reg.SYS_CPU_VEC1_LO Reg.SYS_CPU_VEC1_HI) else d

/-- RUN1 (R484). -/
def execRun1 (t : Nat) (s : State) : Out := act t s fun x d => d.live fun d => d.run1 x

/-! ### Memory errors (R491) -/

/-- One error: counted, interrupt 259 or 260; one that cannot be corrected has its address taken, and stays in its 64-bit word for the readers. -/
def Dev.memError (m : Memory) (d : Dev) (e : MemError) : Dev :=
  if e.correctable then (d.inc Reg.MEM_ECC 31 16).irq 259
  else
    let w := e.addr / 8 * 8
    (d.memUe e.addr).setCpu fun c => { c with bad := (w, m.bytes w 8) :: c.bad.filter (fun q => q.1 != w) }

/-- PATROL_SCRUB (R491). -/
def execPatrolScrub (t : Nat) (errs : List MemError) (s : State) : Out := act t s fun _ d => d.live fun d => errs.foldl (Dev.memError s.mem) d

/-! ### xSPI, DDR and GPIO (R492 to R495) -/

/-- A bus write of XSP_CMD (R494): the command starts. A write while BUSY is 1 starts none. -/
def Dev.xspStart (d : Dev) (x : Nat) (v : Word) : Dev :=
  if d.bit Reg.XSP_CMD 31 then (if tbit v 30 then d.setB Reg.XSP_CMD 30 false else d)
  else ((d.rw Reg.XSP_CMD v).setB Reg.XSP_CMD 31 true).setCpu fun c => { c with xsp := some x }

/-- XSPI_COMMAND (R494). -/
def execXspiCommand (t : Nat) (v : Word) (s : State) : Out := act t s fun x d => d.live fun d => d.xspStart x v

/-- The cells a program or erase command of a processor leaves: within its device, and outside the journal region of JDEV while JEN is 1 (R450). -/
def Dev.xspCells (d : Dev) (ps : List Patch) : List Host.Cell :=
  let dev := d.bit Reg.XSP_CMD 29
  let lo := if dev then 0x28000000 else 0x20000000
  let mine (a : Nat) : Bool := decide (lo ≤ a) && decide (a < lo + 0x8000000)
  let journal (a : Nat) : Bool := d.jen && (d.bit Reg.LOG_CFG 31 == dev) && decide (lo + 0x1000000 ≤ a) && decide (a < lo + 0x1800000)
  (ps.flatMap (fun p => cellsAt p.addr p.bytes)).filter (fun c => mine c.1 && !journal c.1)

/-- The command ends: BUSY falls; interrupt 261, or ERR and 262. -/
def Dev.xspEnd (d : Dev) (ok : Bool) : Dev :=
  let d := (d.setB Reg.XSP_CMD 31 false).setCpu fun c => { c with xsp := none }
  if ok then d.irq 261 else (d.setB Reg.XSP_CMD 30 true).irq 262

/-- XSPI_COMMAND_DONE (R494), before the 5 s of its time-out: what the device did comes with the command: the words a register command read, and the bytes a program or erase
command left. -/
def execXspiCommandDone (t : Nat) (ok : Bool) (data : List Word) (patch : List Patch) (s : State) : Out :=
  actE t s fun s =>
    let d := s.dev
    if !d.runs || (match d.cpu.xsp with | some b => decide (b + 5 * uS ≤ s.now) | none => true) then { dev := d, cells := [], fuses := [] }
    else
      let cells := d.xspCells patch
      let d := (List.range (Nat.min 64 data.length)).foldl (fun d i => d.wr (Reg.XSP_DATA i) (nth 0 data i)) d
      { dev := d.xspEnd ok, cells := cells, fuses := [] }

/-- XSPI_TIMEOUT (R494): 5 s. -/
def execXspiTimeout (t : Nat) (s : State) : Out :=
  act t s fun x d => d.live fun d =>
    match d.cpu.xsp with
    | none => d
    | some b => if b + 5 * uS ≤ x then d.xspEnd false else d

/-- DDR_TEMPERATURE_HIGH (R489, R492). -/
def execDdrTemperatureHigh (t : Nat) (s : State) : Out :=
  act t s fun _ d => d.live fun d => if d.bit Reg.DDR_STAT 31 then (d.setB Reg.DDR_STAT 30 true).irq 271 else d

/-- GPIO_EDGE (R495): a selected edge of an input. -/
def execGpioEdge (t : Nat) (pin : Fin 32) (rising : Bool) (s : State) : Out :=
  act t s fun _ d => d.liveIn 13 fun d => (d.setCpu fun c => { c with gpioLevel := updN 32 false c.gpioLevel pin.val (fun _ => rising) }).irq 269

end Sys2Proof.Machine
end

