-- ==== Sys2Proof/Machine/Mtr.lean ====
section
/-! DEFINITION. Machine/Mtr.lean: the four metering points: samples, cycles, accumulation, snapshots and adds (R262 to R273). -/

namespace Sys2Proof.Machine

/-- A metering point. -/
def Dev.mp (d : Dev) (m : Nat) : MtrPt := nth MtrPt.init d.mtr.pt m
/-- The device with one metering point changed. -/
def Dev.setMp (d : Dev) (m : Nat) (f : MtrPt → MtrPt) : Dev := { d with mtr := { d.mtr with pt := updN 4 MtrPt.init d.mtr.pt m f } }
/-- EN of a point. -/
def Dev.mpEn (d : Dev) (m : Nat) : Bool := d.bit (Reg.MTR_MP_CFG m) 31
/-- STATE of a point (R266). -/
def Dev.mpState (d : Dev) (m : Nat) : Nat := d.fld (Reg.MTR_MP_STATE m) 1 0
/-- The SDI channels of an element. -/
def Dev.mpSdis (d : Dev) (m el : Nat) : List Nat :=
  (List.range 96).filter (fun n => d.bit (Reg.MTR_MP_IM m (3 * el + n / 32)) (n % 32))

/-- A finite FP32 in units of 2^-149, exactly. -/
def fpUnits (x : F32) : Int := Fp.smant x * 2 ^ (Fp.ex x + 149).toNat

/-- A source stream interpolated linearly at a device time in 2^-32 ns (R263), or a gap (R264): no sample on one side, more than 60 µs between the two, or a flagged
one. The interpolated value is rounded to FP32 once. -/
def interpSrc : List SrcSample → Nat → Option F32
  | b :: a :: r, tau =>
    if b.time < tau then none
    else if tau < a.time then interpSrc (a :: r) tau
    else if tau = a.time ∧ !a.bad then some a.val
    else if a.bad || b.bad || decide (60000 * 2 ^ 32 < b.time - a.time) then none
    else if !Fp.isFinite a.val || !Fp.isFinite b.val then some Fp.nan
    else
      let den := b.time - a.time
      some (Fp.ofRat (fpUnits a.val * den + (fpUnits b.val - fpUnits a.val) * ((tau - a.time : Nat) : Int)) (den * 2 ^ 149))
  | _, _ => none

/-- The interpolation instant t_k − D × 10,000 ns / 1,024 in 2^-32 ns (R263). -/
def interpAt (k : Nat) (delay : Int) : Nat := ((k : Int) * 10000 * 2 ^ 32 - delay * 10000 * 2 ^ 22).toNat

/-- The corrections of a point as its registers hold them. -/
def Dev.mpLatch (d : Dev) (m : Nat) (p : MtrPt) : MtrPt :=
  { p with
    corG := (List.range 6).map (fun c => d.rd (Reg.MTR_MP_CORG m c))
    corD := (List.range 6).map (fun c => toSigned 15 (d.rd (Reg.MTR_MP_CORD m c)).toNat)
    vhyst := d.rd (Reg.MTR_MP_VHYST m), pstart := d.rd (Reg.MTR_MP_PSTART m), pstop := d.rd (Reg.MTR_MP_PSTOP m) }

/-- Sample k of a voltage of a point. -/
def Dev.mpVolt (d : Dev) (m k el : Nat) : Option F32 :=
  let p := d.mp m
  let ch := d.fld (Reg.MTR_MP_CFG m) (3 * el + 2) (3 * el)
  (interpSrc (nth [] d.mtr.vsrc ch) (interpAt k (nth 0 p.corD el))).map (fun v => Fp.mul v (nth Fp.one p.corG el))

/-- Sample k of a current of a point: the sum over its SDI channels. -/
def Dev.mpCur (d : Dev) (m k el : Nat) : Option F32 :=
  let p := d.mp m
  let vs := (d.mpSdis m el).map (fun n => interpSrc (nth [] d.mtr.isrc n) (interpAt k (nth 0 p.corD (3 + el))))
  if vs.any (· == none) then none else some (Fp.mul (Fp.sumL (vs.map (·.getD Fp.zero))) (nth Fp.one p.corG (3 + el)))

/-- The sample of a point: reference voltage, power in 2^-298 W, first channel with a gap. A power that is not finite is a free value (log entry 24). -/
def Dev.mpSample (d : Dev) (m k : Nat) : Option F32 × Option (Option Int) × Nat :=
  let v := (List.range 3).map (d.mpVolt m k)
  let i := (List.range 3).map (d.mpCur m k)
  let all := v ++ i
  let ref := nth none v (d.fld (Reg.MTR_MP_CFG m) 25 24)
  if all.any (· == none) then (ref, none, (all.findIdx (· == none)))
  else if all.any (fun q => !Fp.isFinite (q.getD Fp.zero)) then (ref, some none, 0)
  else (ref, some (some (((v.zip i).map (fun p => fpUnits (p.1.getD Fp.zero) * fpUnits (p.2.getD Fp.zero))).foldl (· + ·) 0)), 0)

/-- The power of a sample (R264): on a gap the last good one, counted and reported at its first. -/
def Dev.mpPower (d : Dev) (x m k : Nat) : Int × Dev :=
  match d.mpSample m k with
  | (_, some (some p), _) => (p, d.setMp m fun q => { q with lastP := p, gapRun := false })
  | (_, some none, _) =>
    let f := d.fresh
    let p := toSigned 32 (Config.freeWord f.1).toNat * 2 ^ 298
    (p, f.2.setMp m fun q => { q with lastP := p, gapRun := false })
  | (_, none, ch) =>
    let first := !(d.mp m).gapRun
    let d := (d.inc (Reg.MTR_MP_GAP_CNT m) 31 0).setMp m (fun q => { q with gapRun := true })
    let d := if first then (d.setB Reg.MTR_STAT 4 true).raise .per x 186 0x6102 [(1, m), (1, ch), (4, (d.rd (Reg.MTR_MP_GAP_CNT m)).toNat)] else d
    ((d.mp m).lastP, d)

/-! ### Accumulation (R266, R267) -/

/-- Register addresses LO, HI and FINE of import or export. -/
def mtrAddrs (m : Nat) (exp : Bool) : Nat × Nat × Nat :=
  if exp then (Reg.MTR_MP_EXP_LO m, Reg.MTR_MP_EXP_HI m, Reg.MTR_MP_EXP_FINE m) else (Reg.MTR_MP_IMP_LO m, Reg.MTR_MP_IMP_HI m, Reg.MTR_MP_IMP_FINE m)

/-- An energy in 2^-32 mWh enters a register (R267). -/
def Dev.mtrAccum (d : Dev) (x m : Nat) (exp : Bool) (e : Nat) : Dev :=
  let a := mtrAddrs m exp
  let fine := (d.rd a.2.2).toNat + e
  let old := d.rd64 a.1 a.2.1
  let reg := old % 2 ^ 48 + fine / 2 ^ 32
  let wrap := (old / 2 ^ 48 + reg / 2 ^ 48) % 2 ^ 16
  let d := (d.wrN a.2.2 fine).wr64 a.1 a.2.1 (wrap * 2 ^ 48 + reg % 2 ^ 48)
  if reg < 2 ^ 48 then d else (d.setB Reg.MTR_STAT 2 true).raise .per x 184 0x6100 [(1, m), (1, b2n exp), (2, wrap)]

/-- An add of R271: modulo 2^64 over wrap counter and register, the fine accumulator unchanged. -/
def Dev.mtrAddNow (d : Dev) (x m : Nat) (exp : Bool) (amount : Nat) : Dev :=
  let a := mtrAddrs m exp
  (d.wr64 a.1 a.2.1 ((d.rd64 a.1 a.2.1 + amount) % 2 ^ 64)).raise .per x 188 0x6104 [(1, m), (1, b2n exp), (4, amount % 2 ^ 32)]

/-- A pending add takes effect. -/
def Dev.mtrAddDue (d : Dev) (x m : Nat) : Dev :=
  match (d.mp m).addPend with
  | none => d
  | some (exp, amount) => ((d.setMp m fun p => { p with addPend := none }).setB (Reg.MTR_MP_STATE m) 2 false).mtrAddNow x m exp amount

/-- A point enters NOLOAD or RUNNING (R266, R276). -/
def Dev.mpEnter (d : Dev) (x m st : Nat) : Dev :=
  (d.setF (Reg.MTR_MP_STATE m) 1 0 st).raise .per x 187 0x6103 [(1, m), (1, st), (4, (d.rd (Reg.MTR_MP_PCYC m)).toNat)]

/-- A threshold times n in 2^-298 W. -/
def mtrThr (f : F32) (n : Nat) : Int := fpUnits f * 2 ^ 149 * (n : Int)

/-- The energy of a cycle in 2^-32 mWh from its sum of powers in 2^-298 W over samples of 10 µs (R265, R267): 1 mWh is 3.6 J. -/
def cycleEnergy (sum : Int) : Int := roundDiv (sum * 2 ^ 32) (2 ^ 298 * 360000)

/-- The close of a cycle (R265 to R267, R271): P̄, frequency and count, state transition, accumulation, add. -/
def Dev.mpClose (d : Dev) (x m : Nat) : Dev :=
  let p := d.mp m
  if p.n = 0 then d
  else
    let d := d.wr (Reg.MTR_MP_PCYC m) (Fp.ofRat p.sumP (p.n * 2 ^ 298))
    let d := (d.wr (Reg.MTR_MP_FCYC m) (Fp.ofRat 100000 p.n)).incWrap (Reg.MTR_MP_STATE m) 31 8
    let mag : Int := p.sumP.natAbs
    let d :=
      if d.mpState m = 2 && decide (mtrThr p.pstart p.n ≤ mag) then d.mpEnter x m 3
      else if d.mpState m = 3 && decide (mag < mtrThr p.pstop p.n) then d.mpEnter x m 2 else d
    let e := cycleEnergy p.sumP
    let d := if d.mpState m != 3 || e = 0 then d else d.mtrAccum x m (decide (e > 0)) e.natAbs
    (d.mtrAddDue x m).setMp m fun q => { q with sumP := 0, n := 0 }

/-- A snapshot of a point (R269): registers, wrap counters, CYC_CNT and the device time of the PER cycle. -/
def Dev.mtrSnap1 (d : Dev) (x m : Nat) : Dev :=
  let cp (d : Dev) (dst src : Nat) : Dev := d.wr dst (d.rd src)
  let d := cp (cp (cp (cp d (Reg.MTR_MP_SNP_IMP_LO m) (Reg.MTR_MP_IMP_LO m)) (Reg.MTR_MP_SNP_IMP_HI m) (Reg.MTR_MP_IMP_HI m))
    (Reg.MTR_MP_SNP_EXP_LO m) (Reg.MTR_MP_EXP_LO m)) (Reg.MTR_MP_SNP_EXP_HI m) (Reg.MTR_MP_EXP_HI m)
  ((d.wr64 (Reg.MTR_MP_SNP_TLO m) (Reg.MTR_MP_SNP_THI m) (d.ns (x / uPer * uPer))).wrN (Reg.MTR_MP_SNP_CNT m) (d.fld (Reg.MTR_MP_STATE m) 31 8)).setMp m
    fun p => { p with snapAt := some (x / uPer) }

/-- A cycle close or an add in the PER cycle of a snapshot is in the snapshot (R269). -/
def Dev.mtrResnap (d : Dev) (x m : Nat) : Dev := if (d.mp m).snapAt = some (x / uPer) then d.mtrSnap1 x m else d

/-- METERING_SAMPLE (R263 to R267): sample k, the newest with t_k + 200 µs not after now, is formed; it may begin a new cycle. -/
def execMeteringSample (t : Nat) (m : Fin 4) (s : State) : Out :=
  act t s fun x d => d.liveIn 11 fun d =>
    let m := m.val
    let now := d.ns x
    if !d.mpEn m || now < 200000 then d
    else
      let k := (now - 200000) / 10000
      let p := d.mp m
      if (match p.lastK with | some l => decide (k ≤ l) | none => false) then d
      else
        let d := d.setMp m fun q => { q with lastK := some k, kStart := match q.kStart with | none => some k | some v => some v }
        let ks := (d.mp m).kStart.getD k
        let ref := (d.mpSample m k).1
        let since := (k - ks) * 10
        let zero := Fp.zero
        let cross := match p.prevV, ref with
          | some v0, some v1 => Fp.le v0 zero && Fp.lt zero v1 && p.below && decide (d.fld (Reg.MTR_MP_CYC m) 7 0 * 1000 ≤ since)
          | _, _ => false
        let tmo := !cross && decide (d.fld (Reg.MTR_MP_CYC m) 23 16 * 1000 ≤ since)
        let begins := cross || tmo
        let d := if !begins then d
          else
            let d := if d.mpState m = 1 then d.mpEnter x m 2
              else
                let d := d.mpClose x m
                if tmo && !p.timeoutRun then
                  (d.setB Reg.MTR_STAT 3 true).raise .per x 185 0x6101 [(1, m), (4, d.fld (Reg.MTR_MP_STATE m) 31 8)] else d
            d.setMp m fun q => d.mpLatch m { q with kStart := some k, timeoutRun := tmo, below := false, sumP := 0, n := 0 }
        let r := d.mpPower x m k
        let d := r.2
        let ref' := (d.mpSample m k).1
        let low := match ref' with | some v => Fp.lt v (Fp.neg (d.mp m).vhyst) | none => false
        let d := d.setMp m fun q =>
          { q with
            sumP := if d.mpState m = 1 then 0 else q.sumP + r.1
            n := if d.mpState m = 1 then 0 else q.n + 1
            prevV := match ref' with | some v => some v | none => q.prevV
            below := q.below || low }
        d.mtrResnap x m

/-- MTR_SNAP (R269): every point named in one write, in one PER cycle. -/
def execMtrSnap (t : Nat) (points : Nat) (s : State) : Out :=
  act t s fun x d => d.live fun d => (onesBelow 4 points).foldl (fun d m => d.mtrSnap1 x m) d

/-- An add command (R271): refused while one waits or with both bits; in RUNNING and NOLOAD it waits for the next cycle close. -/
def Dev.mtrAddCmd (d : Dev) (x m : Nat) (imp exp : Bool) : Dev :=
  if !imp && !exp then d
  else if d.bit (Reg.MTR_MP_STATE m) 2 || (imp && exp) then d.setB Reg.MTR_STAT 1 true
  else
    let amount := d.rd64 (Reg.MTR_MP_ADD_LO m) (Reg.MTR_MP_ADD_HI m)
    if d.mpState m < 2 then (d.mtrAddNow x m exp amount).mtrResnap x m
    else (d.setMp m fun p => { p with addPend := some (exp, amount) }).setB (Reg.MTR_MP_STATE m) 2 true

/-- MTR_ADD_IMPORT (R271). -/
def execMtrAddImport (t : Nat) (m : Fin 4) (s : State) : Out :=
  act t s fun x d => d.live fun d => d.mtrAddCmd x m.val true false

/-- MTR_ADD_EXPORT (R271). -/
def execMtrAddExport (t : Nat) (m : Fin 4) (s : State) : Out :=
  act t s fun x d => d.live fun d => d.mtrAddCmd x m.val false true

/-- May a point be enabled (R272)? -/
def Dev.mtrEnOk (d : Dev) (m : Nat) : Bool :=
  let el := (List.range 3).map (d.mpSdis m)
  !d.bit Reg.ADC_STAT 0 && el.all (fun l => !l.isEmpty) && el.flatten.all d.sdiEn && decide (el.flatten.eraseDups.length = el.flatten.length)

/-- The ranges of R272 on a point's other registers. -/
def Dev.mtrRangesOk (d : Dev) (m : Nat) : Bool :=
  let cmin := d.fld (Reg.MTR_MP_CYC m) 7 0
  let cmax := d.fld (Reg.MTR_MP_CYC m) 23 16
  let nonNeg (v : F32) : Bool := Fp.isFinite v && Fp.le Fp.zero v
  decide (2 ≤ cmin) && decide (cmin ≤ 199) && decide (3 ≤ cmax) && decide (cmax ≤ 200) && decide (cmin < cmax) &&
    nonNeg (d.rd (Reg.MTR_MP_VHYST m)) && nonNeg (d.rd (Reg.MTR_MP_PSTART m)) && nonNeg (d.rd (Reg.MTR_MP_PSTOP m)) &&
    Fp.le (d.rd (Reg.MTR_MP_PSTOP m)) (d.rd (Reg.MTR_MP_PSTART m)) &&
    (List.range 6).all (fun c => Fp.le Fp.half (d.rd (Reg.MTR_MP_CORG m c)) && Fp.le (d.rd (Reg.MTR_MP_CORG m c)) Fp.two &&
      decide ((toSigned 15 (d.rd (Reg.MTR_MP_CORD m c)).toNat).natAbs ≤ 8192))

/-- A write of a point's CFG register (R266, R268, R272). -/
def Dev.wrMtrCfg (d : Dev) (ld : Bool) (x m : Nat) (v : Word) : Dev :=
  let a := Reg.MTR_MP_CFG m
  let d1 := d.rw a v
  let was := d.mpEn m
  let en := d1.mpEn m
  if !ld && ((was && d1.fld a 30 0 != d.fld a 30 0) || (!was && en && !(d1.mtrEnOk m && d1.mtrRangesOk m))) then d.setB Reg.MTR_STAT 0 true
  else if !was && en then
    (d1.setF (Reg.MTR_MP_STATE m) 1 0 1).setMp m fun p => d1.mpLatch m { MtrPt.init with addPend := p.addPend, snapAt := p.snapAt }
  else if was && !en then
    (((if d1.mpState m < 2 then d1 else d1.mpClose x m).mtrAddDue x m).setF (Reg.MTR_MP_STATE m) 1 0 0).mtrResnap x m
  else d1

/-- MTR_ENABLE_WRITE (R266, R268, R272). -/
def execMtrEnableWrite (t : Nat) (m : Fin 4) (v : Word) (s : State) : Out :=
  act t s fun x d => d.live fun d => d.wrMtrCfg false x m.val v

/-- A write of another configuration register of a point (R272): `fixed` says that it may not change while EN is 1 (masks and CYC). -/
def Dev.wrMtrOther (d : Dev) (ld : Bool) (m a : Nat) (fixed : Bool) (v : Word) : Dev :=
  let d1 := d.rw a v
  if !ld && ((fixed && d.mpEn m && d1.rd a != d.rd a) || !d1.mtrRangesOk m) then d.setB Reg.MTR_STAT 0 true else d1

end Sys2Proof.Machine
end

