-- ==== Sys2Proof/Machine/Real.lean ====
section
/-! DEFINITION. Machine/Real.lean: the functions of the block library that are not rational: sine, cosine, arctangent, exponential,
logarithm, and the sums of R93. Each is computed in fixed point with 240 fraction bits, and answered by a free one of the FP32 values within
the bound the spec states of the exact value (R93, R95; log entry 40). -/

namespace Sys2Proof.Machine.Fp

/-- Fraction bits of the fixed-point numbers. -/
def fixS : Nat := 240
/-- 1 in fixed point. -/
def fix1 : Int := 2 ^ 240
/-- π in fixed point. -/
def fixPi : Int := 0x3243f6a8885a308d313198a2e03707344a4093822299f31d0082efa98ec4e
/-- ln 2 in fixed point. -/
def fixLn2 : Int := 0xb17217f7d1cf79abc9e3b39803f2f6af40f343267298b62d8a0d175b8baa
/-- √3 in fixed point. -/
def fixRt3 : Int := 0x1bb67ae8584caa73b25742d7078b83b8925d834cc53da4798c720a6486e45

/-- A finite value in fixed point, towards minus infinity. -/
def toFix (x : F32) : Int :=
  let e := ex x + 240
  if e ≥ 0 then smant x * 2 ^ e.toNat else smant x / ((2 ^ (-e).toNat : Nat) : Int)

/-- The FP32 nearest to a fixed-point number. -/
def ofFix (i : Int) : F32 := packI i (-240)

/-- The FP32 nearest to the quotient of two fixed-point numbers. -/
def ofFixDiv (a b : Int) : F32 := ofRat (if b < 0 then -a else a) b.natAbs

/-- Product in fixed point. -/
def fixMul (a b : Int) : Int := a * b / 2 ^ 240
/-- Quotient in fixed point. -/
def fixDiv (a b : Int) : Int := if b = 0 then 0 else a * 2 ^ 240 / b

/-- The series `t - t x2 / ((k+1)(k+2)) + …` of sine and cosine; `fuel` terms. -/
def sinSeries : Nat → Nat → Int → Int → Int
  | 0, _, _, _ => 0
  | fuel + 1, k, t, x2 => if t = 0 then 0 else t + sinSeries fuel (k + 2) (-(fixMul t x2) / (((k + 1) * (k + 2) : Nat) : Int)) x2

/-- The nearest multiple of π/2 to a fixed-point angle, as its number. -/
def quarterOf (x : Int) : Int := (2 * x + fixPi / 2) / fixPi

/-- Sine and cosine of a fixed-point angle. -/
def fixSinCos (x : Int) : Int × Int :=
  let q := quarterOf x
  let r := x - q * fixPi / 2
  let r2 := fixMul r r
  let s := sinSeries 80 1 r r2
  let c := sinSeries 80 0 fix1 r2
  match (q % 4).toNat with
  | 0 => (s, c)
  | 1 => (c, -s)
  | 2 => (-s, -c)
  | _ => (-c, s)

/-- Square root in fixed point of a non-negative number. -/
def fixSqrt (x : Int) : Int := (isqrtGo (x.toNat * 2 ^ 240) 256 0 : Nat)

/-- The series of the arctangent. -/
def atanSeries : Nat → Nat → Int → Int → Int
  | 0, _, _, _ => 0
  | fuel + 1, k, p, x2 => if p = 0 then 0 else p / ((2 * k + 1 : Nat) : Int) + atanSeries fuel (k + 1) (-(fixMul p x2)) x2

/-- One halving step of the arctangent's argument. -/
def atanHalf (t : Int) : Int := fixDiv t (fix1 + fixSqrt (fix1 + fixMul t t))

/-- Arctangent of a fixed-point number from 0 to 1. -/
def fixAtan (t : Int) : Int :=
  let h := atanHalf (atanHalf t)
  4 * atanSeries 120 0 h (fixMul h h)

/-- The exponential series. -/
def expSeries : Nat → Nat → Int → Int → Int
  | 0, _, _, _ => 0
  | fuel + 1, k, t, x => if t = 0 then 0 else t + expSeries fuel (k + 1) (fixMul t x / ((k + 1 : Nat) : Int)) x

/-- e^r in fixed point times a power of two: the mantissa and the exponent. -/
def fixExp (x : Int) : Int × Int :=
  let k := x / fixLn2
  (expSeries 120 0 fix1 (x - k * fixLn2), k)

/-- Natural logarithm of a positive rational number. -/
def fixLnRat (n d : Nat) : Int :=
  let e : Int := (Nat.log2 n : Int) - (Nat.log2 d : Int)
  let a : Int := if e ≥ 0 then (n : Int) else (n : Int) * 2 ^ (-e).toNat
  let b : Int := if e ≥ 0 then (d : Int) * 2 ^ e.toNat else (d : Int)
  let z := fixDiv (a - b) (a + b)
  -- ln = e ln 2 + 2 artanh z; artanh by the series of arctangent with all signs positive
  e * fixLn2 + 2 * artanh 200 0 z (fixMul z z)
where
  /-- The series of the inverse hyperbolic tangent. -/
  artanh : Nat → Nat → Int → Int → Int
    | 0, _, _, _ => 0
    | fuel + 1, k, p, x2 => if p = 0 then 0 else p / ((2 * k + 1 : Nat) : Int) + artanh fuel (k + 1) (fixMul p x2) x2

/-! ### Free rounding within a bound of n ulp -/

/-- The place of a value in the order of FP32 values: 0 for zero, ±1 for the smallest normal numbers. -/
def ordOf (x : F32) : Int :=
  let m := fld x 30 0
  let v : Int := if expo x = 0 then 0 else (m : Int) - 0x7FFFFF
  if sign x then -v else v

/-- The value at a place of the order. -/
def ofOrd (i : Int) (s : Bool) : F32 :=
  if i = 0 then zeroS s else BitVec.ofNat 32 ((if i < 0 then 2 ^ 31 else 0) + (i.natAbs + 0x7FFFFF))

/-- Does a finite value lie within `n` ulp of the exact value `num / den`, which rounds to `v`? An ulp is the spacing of FP32 values in the binade of the
exact value. All on the scale 2^−170 / den. -/
def nearTo (n : Nat) (v : F32) (num : Int) (den : Nat) (r : F32) : Bool :=
  let on (k : Int) (m : Int) : Int := m * 2 ^ (k + 170).toNat * den
  let e : Int := (expo v : Int) - 127
  let e := if (on e 1) ≤ ((num * 2 ^ 170).natAbs : Int) then e else e - 1
  isFinite r && sign r == sign v && decide (((on (ex r) (smant r) - num * 2 ^ 170).natAbs : Int) ≤ on (e - 23) n)

/-- A result within `n` ulp of the exact value `num / den`, which rounds to `v`: which of them is free. A zero, an infinity and a NaN are exact. -/
def within (n op : Nat) (args : List Word) (v : F32) (num : Int) (den : Nat) : F32 :=
  if isZero v || !isFinite v then v
  else
    let near := ((List.range (4 * n + 1)).map (fun (k : Nat) => ofOrd (ordOf v + ((k : Int) - 2 * (n : Int))) (sign v))).filter (nearTo n v num den)
    nth v near (Sys2Proof.Config.ulps op args % near.length)

/-- A result within `n` ulp of the exact quotient `num / den`. -/
def withinRat (n op : Nat) (args : List Word) (num : Int) (den : Nat) : F32 := within n op args (ofRat num den) num den

/-- A result within `n` ulp of the fixed-point number `i`. -/
def withinFix (n op : Nat) (args : List Word) (i : Int) : F32 := within n op args (ofFix i) i (2 ^ 240)

/-- Is |x| ≤ 2^20 (R93)? -/
def inTrig (x : F32) : Bool := decide (expo x < 147) || (expo x == 147 && frac x == 0)

/-- A free result that is not outside FP32's canonical patterns. -/
def openVal (op : Nat) (args : List Word) : F32 := canon (Sys2Proof.Config.openResult op args)

/-- sin x, within 2 ulp for |x| ≤ 2^20 (R93). -/
def sin (x : F32) : F32 :=
  if isNaN x || isInf x then nan
  else if isZero x then zeroS (sign x)
  else if inTrig x then withinFix 2 20 [x] (fixSinCos (toFix x)).1
  else openVal 20 [x]

/-- cos x, within 2 ulp for |x| ≤ 2^20 (R93). -/
def cos (x : F32) : F32 :=
  if isNaN x || isInf x then nan
  else if inTrig x then withinFix 2 21 [canon x] (fixSinCos (toFix x)).2
  else openVal 21 [x]

/-- The magnitude of atan2(y, x) for operands that are not NaN, as a quotient; a small one is y/x, which differs from it by less than 2^−80 of itself. -/
def atanMag (y x : F32) : Int × Nat :=
  let piPart (k : Int) : Int × Nat := (k * fixPi, 4 * 2 ^ 240)
  if isInf y then piPart (if isInf x then (if sign x then 3 else 1) else 2)
  else if isInf x then (if sign x then piPart 4 else (0, 1))
  else if isZero y then (if sign x then piPart 4 else (0, 1))
  else if isZero x then piPart 2
  else
    let a : Int := (addExact (mant y) (ex y) 0 (ex x)).1
    let b : Int := (addExact (mant x) (ex x) 0 (ex y)).1
    if a * 2 ^ 40 ≤ b && !sign x then (a, b.toNat)
    else
      let base := if a ≤ b then fixAtan (fixDiv a b) else fixPi / 2 - fixAtan (fixDiv b a)
      (if sign x then fixPi - base else base, 2 ^ 240)

/-- atan2(y, x) in −π to π, within 3 ulp (R95). Zeros and infinities as IEEE 754's atan2 (DEDUCED from R86). -/
def atan2 (y x : F32) : F32 :=
  if isNaN y || isNaN x then nan
  else
    let m := atanMag y x
    if m.1 = 0 then zeroS (sign y) else withinRat 3 22 [canon y, canon x] (if sign y then -m.1 else m.1) m.2

/-- e^x, within 2 ulp (R95). -/
def exp (x : F32) : F32 :=
  if isNaN x then nan
  else if isInf x then (if sign x then zero else x)
  else if gt x 0x43000000#32 then inf false
  else if lt x 0xC3000000#32 then zero
  else
    let r := fixExp (toFix x)
    within 2 23 [canon x] (packI r.1 (r.2 - 240)) (r.1 * 2 ^ r.2.toNat) (2 ^ (240 + (-r.2).toNat))

/-- ln x, within 2 ulp; −∞ for 0; NaN for x < 0 (R95). -/
def ln (x : F32) : F32 :=
  if isNaN x then nan
  else if isZero x then inf true
  else if sign x then nan
  else if isInf x then x
  else
    let r := addExact (mant x) (ex x) 0 0
    withinFix 2 24 [x] (fixLnRat r.1.toNat (2 ^ (-r.2).toNat))

/-! ### The sums of R93 -/

/-- All of a list finite. -/
def allFinite (l : List F32) : Bool := l.all isFinite

/-- A finite value as an integer on the scale 2^−160. -/
def toScaled (x : F32) : Int := smant x * 2 ^ (ex x + 160).toNat

/-- CLARKE (R91): α = (2a − b − c)/3, β = (b − c)/√3, z = (a + b + c)/3, each within 1 ulp of the exact sum; an output with a non-finite operand is the
infinity or the NaN that the sum gives. -/
def clarke (a b c : F32) : F32 × F32 × F32 :=
  let A := toScaled a; let B := toScaled b; let C := toScaled c
  let all := allFinite [a, b, c]
  (if all then withinRat 1 100 [a, b, c] (2 * A - B - C) (3 * 2 ^ 160) else sub (sub a b) c,
   if allFinite [b, c] then withinRat 1 101 [b, c] ((B - C) * 2 ^ 240) (fixRt3.toNat * 2 ^ 160) else sub b c,
   if all then withinRat 1 102 [a, b, c] (A + B + C) (3 * 2 ^ 160) else add (add a b) c)

/-- INV_CLARKE (R91), each within 1 ulp of the exact sum. -/
def invClarke (al be z : F32) : F32 × F32 × F32 :=
  if allFinite [al, be, z] then
    let A := toScaled al; let B := toScaled be; let Z := toScaled z
    let h := 2 ^ 240
    (withinRat 1 103 [al, be, z] (A + Z) (2 ^ 160),
     withinRat 1 104 [al, be, z] (-(A * h) + fixRt3 * B + 2 * Z * h) (2 ^ 401),
     withinRat 1 105 [al, be, z] (-(A * h) - fixRt3 * B + 2 * Z * h) (2 ^ 401))
  else (add al z, add (sub be al) z, sub (sub z be) al)

/-- x·u + y·v, within 1 ulp of the exact sum. -/
def dot2 (op : Nat) (x u y v : F32) : F32 :=
  if allFinite [x, u, y, v] then withinRat 1 op [x, u, y, v] (toScaled x * toScaled u + toScaled y * toScaled v) (2 ^ 320)
  else add (mul x u) (mul y v)

/-- PARK (R91): d = αk + βs, q = −αs + βk. -/
def park (al be s k : F32) : F32 × F32 := (dot2 106 al k be s, dot2 107 (neg al) s be k)
/-- INV_PARK (R91): α = dk − qs, β = ds + qk. -/
def invPark (d q s k : F32) : F32 × F32 := (dot2 108 d k (neg q) s, dot2 109 d s q k)

/-! ### Angles -/

/-- π as FP32. -/
def pi : F32 := 0x40490FDB#32
/-- 2π as FP32. -/
def tau : F32 := 0x40C90FDB#32

/-- x mod 2π, from 0, rounded once. -/
def modTau (x : F32) : F32 :=
  if !isFinite x then nan
  else
    let m := toScaled x % toScaled tau
    packI m (-160)

/-- An angle wrapped to −π to π. -/
def wrapPi (x : F32) : F32 := if gt x pi then sub x tau else if lt x (neg pi) then add x tau else x

/-- The magnitude √(x² + y²). -/
def mag (x y : F32) : F32 := sqrt (add (mul x x) (mul y y))

/-- The sign as +1 or −1, with 0 giving +1. -/
def sgn1 (x : F32) : F32 := if lt x zero then neg one else one
/-- The sign as +1, 0 or −1. -/
def sgn (x : F32) : F32 := if lt x zero then neg one else if gt x zero then one else zero

/-- tan(acos a) for 0 < a ≤ 1: √(1 − a²)/a. -/
def tanAcos (a : F32) : F32 := div (sqrt (sub one (mul a a))) a

/-- tan of half an angle given as FP32, for prewarping: 2 ulp of free rounding as for sine and cosine. -/
def tanF (x : F32) : F32 := div (sin x) (cos x)

end Sys2Proof.Machine.Fp
end

