-- ==== Sys2Proof/Machine/BlockRom.lean ====
section
/-! DEFINITION. Machine/BlockRom.lean: what block ROM holds of each block type: its shape, cost, delayed outputs, off-values, parameter ranges and
state words (R91, R92, R95, R96, R131, R135, R136, R160 to R162, R186 to R188, R232 to R235, R253, R299, R315, R432). -/

namespace Sys2Proof.Machine

/-- A decimal constant of the manual as FP32: the nearest. -/
def q (n : Int) (d : Nat) : F32 := Fp.ofRat n d

/-- The range of a parameter word. -/
inductive ParRange where
  /-- FP32 from lo to hi. -/
  | f (lo hi : F32)
  /-- FP32 from lo, finite. -/
  | ge (lo : F32)
  /-- Any finite FP32. -/
  | fin
  /-- Finite FP32 above 0. -/
  | pos
  /-- Finite FP32 from 0. -/
  | nonneg
  /-- FP32 from 0, infinity included. -/
  | from0
  /-- FP32 from −π to π. -/
  | pi
  /-- UINT32 from lo to hi. -/
  | u (lo hi : Nat)
  /-- Any pattern. -/
  | any
  deriving DecidableEq, Repr

/-- Does a word lie in a range? -/
def ParRange.ok (r : ParRange) (w : Word) : Bool :=
  match r with
  | .f lo hi => Fp.isFinite w && Fp.le lo w && Fp.le w hi
  | .ge lo => Fp.isFinite w && Fp.le lo w
  | .fin => Fp.isFinite w
  | .pos => Fp.isFinite w && Fp.gt w Fp.zero
  | .nonneg => Fp.isFinite w && Fp.le Fp.zero w
  | .from0 => Fp.le Fp.zero w
  | .pi => Fp.isFinite w && Fp.le (Fp.neg Fp.pi) w && Fp.le w Fp.pi
  | .u lo hi => decide (lo ≤ w.toNat) && decide (w.toNat ≤ hi)
  | .any => true

/-- The ranges of the parameter words of the types with a fixed number of them. -/
def parTable (typ : Nat) : List ParRange :=
  match typ with
  | 0x0001 => [.fin]
  | 0x0004 => [.fin, .fin]
  | 0x0006 => [.u 0 3]
  | 0x0008 => [.f (q 0 1) (q 340000000000000000000000000000000000000 1)]
  | 0x0009 => [.u 0 4]
  | 0x0020 => [.u 2 32] ++ List.replicate 32 (.any) ++ List.replicate 32 (.fin)
  | 0x0021 => [.u 1 256]
  | 0x1001 => [.u 0 15, .fin, .fin, .f (q 0 1) (q 1000000000 1), .f (q 0 1) (q 1 1), .fin, .fin]
  | 0x1002 => [.u 0 15, .fin, .fin, .f (q 0 1) (q 1000000000 1), .f (q 0 1) (q 10 1), .f (q 0 1) (q 10 1), .f (q 0 1) (q 1 1), .fin, .fin]
  | 0x1003 => [.u 0 15, .fin, .fin, .f (q 0 1) (q 1000000000 1), .u 1 50, .f (q 1 10) (q 1000 1), .pos]
  | 0x1004 => [.u 0 15, .fin, .fin, .f (q 0 1) (q 100 1), .f (q 1 1000000) (q 100 1), .fin, .fin]
  | 0x1005 => [.u 0 15, .fin, .f (q 0 1) (q 100 1)]
  | 0x1006 => [.u 0 15, .fin, .u 0 3, .ge (q 1 10), .f (q 1 10) (q 100 1)]
  | 0x1007 => [.u 0 15, .fin, .pos, .pos]
  | 0x1010 => [.f (q 0 1) (q 340000000000000000000000000000000000000 1)]
  | 0x1011 => [.u 1 65535]
  | 0x1012 => [.pos, .u 1 65535, .u 0 3]
  | 0x2001 => [.f (q 1 10) (q 4 1), .f (q 45 1) (q 65 1)]
  | 0x2002 => [.u 0 15, .fin, .f (q 45 1) (q 65 1), .f (q 1 1) (q 100000 1), .f (q 0 1) (q 10000 1), .f (q 0 1) (q 10000000 1), .ge (q 40 1), .f (q 45 1) (q 70 1), .f (q 0 1) (q 1 2), .f (q 1 1000) (q 1 1), .u 1 100000]
  | 0x2003 => [.u 0 15, .fin, .u 0 1, .f (q 0 1) (q 100 1), .f (q 0 1) (q 1000000 1), .f (q 0 1) (q 1 100), .pos, .f (q 10 1) (q 5000 1), .f (q 1 2) (q 20 1), .f (q 0 1) (q 1 1), .u 0 1, .f (q 10 1) (q 3600 1), .f (q 1 100) (q 1 2), .f (q 0 1) (q 1 1), .f (q 0 1) (q 1 1)]
  | 0x2004 => [.f (q 1 1) (q 100000 1), .pos, .f (q 1 20) (q 1 2), .u 0 1]
  | 0x2005 => [.u 0 15, .fin, .pos, .f (q 45 1) (q 65 1), .f (q 1 1) (q 100000 1), .f (q 1 2) (q 10 1), .f (q 0 1) (q 200 1), .f (q 0 1) (q 1 5), .f (q 1 1000) (q 10 1), .f (q 0 1) (q 1 1), .f (q 0 1) (q 1 1000), .pos, .f (q 0 1) (q 1 1000), .u 0 1]
  | 0x2006 => [.f (q 1 1) (q 100000 1), .pos, .pos, .f (q 1 2) (q 19 20), .f (q 21 20) (q 3 2), .f (q 1 200) (q 1 10), .f (q 0 1) (q 1 1), .f (q 1 10) (q 100 1), .u 0 1, .u 0 3, .u 2 32, .u 2 32, .u 2 8, .u 2 8] ++ List.replicate 32 (.f (q 0 1) (q 60 1)) ++ List.replicate 32 (.f (q 0 1) (q 1 1)) ++ List.replicate 32 (.f (q 0 1) (q 60 1)) ++ List.replicate 32 (.f (q 1 1) (q 2 1)) ++ List.replicate 8 (.f (q 0 1) (q 2 1)) ++ List.replicate 8 (.f (q (-2) 1) (q 2 1)) ++ List.replicate 8 (.f (q 0 1) (q 1 1)) ++ List.replicate 8 (.f (q 0 1) (q 2 1))
  | 0x2007 => [.f (q 45 1) (q 65 1), .f (q 1 1) (q 100000 1), .f (q 1 10) (q 10 1), .u 100 100000, .f (q 7 200) (q 1 2), .ge (q 40 1), .f (q 45 1) (q 70 1), .f (q 1 100) (q 10 1), .f (q 1 2) (q 1 1), .f (q 1 1) (q 3 2), .f (q 1 100) (q 10 1), .u 1 63, .u 0 3]
  | 0x2008 => [.f (q 45 1) (q 65 1), .pos, .f (q 0 1) (q 1 20), .f (q 0 1) (q 1 200), .nonneg, .u 200 20000, .f (q 1 1) (q 60 1), .pos, .u 0 3]
  | 0x2009 => [.pos, .nonneg, .u 10 16, .u 2 16, .u 0 2, .u 100 1000, .u 10 10000]
  | 0x200A => [.u 0 11, .f (q 0 1) (q 1 1)]
  | 0x3001 => [.u 0 15, .fin, .u 1 16, .u 1 200, .f (q 0 1) (q 1 1), .f (q 1 1000000) (q 1 10), .f (q 1 1000000) (q 1 10), .f (q 1 1000) (q 100 1), .f (q 0 1) (q 100 1), .f (q 0 1) (q 1000000 1), .pos, .f (q 1 2) (q 1 1), .f (q 0 1) (q 1000000 1), .f (q 0 1) (q 1000000 1), .pos, .f (q 0 1) (q 10000 1), .f (q 0 1) (q 1000000000 1)]
  | 0x3002 => [.u 0 15, .f (q 0 1) (q 1 100), .f (q 0 1) (q 100 1), .f (q 0 1) (q 1 10), .f (q 0 1) (q 1 20)]
  | 0x3003 => [.u 0 15, .fin, .f (q 0 1) (q 1000000000 1), .f (q 0 1) (q 10000000000 1), .f (q 0 1) (q 1 1), .fin, .fin, .pos]
  | 0x3004 => [.pos, .u 2 32] ++ List.replicate 32 .from0 ++ List.replicate 32 .nonneg ++ [.pos, .nonneg, .nonneg, .u 10 10000, .f (q 1 1000) (q 1 50), .f (q 1 1000) (q 1 50), .f (q 1 1000) (q 1 50), .f (q 1 1) (q 4 1), .f (q 1 10) (q 1 1), .f (q 0 1) (q 1 5), .nonneg]
  | 0x3005 => [.f (q 0 1) (q 2000 1), .f (q 0 1) (q 2000 1), .f (q 0 1) (q 2000 1), .f (q 1 100) (q 10 1), .f (q 1 100) (q 100 1), .f (q 0 1) (q 100 1), .u 1 10000, .f (q 0 1) (q 2000 1), .f (q 0 1) (q 2000 1), .u 2 10000]
  | 0x3006 => [.f (q 0 1) (q 2000 1), .f (q 0 1) (q 2000 1), .f (q 1 100) (q 100 1), .pos, .f (q 1 1) (q 10000 1), .f (q 1 2) (q 19 20), .u 0 3]
  | 0x3007 => [.u 1 200, .f (q 0 1) (q 1 1), .f (q 1 1000000) (q 1 10), .pi, .f (q 0 1) (q 10000 1), .f (q 0 1) (q 10000000 1), .f (q 1 1) (q 10000 1), .f (q 1 100) (q 1 1), .u 1 100000, .u 0 1, .u 0 3]
  | 0x4001 => [.u 0 95]
  | 0x4002 => [.u 0 55]
  | 0x4003 => [.u 0 47]
  | 0x4004 => [.u 0 2, .u 0 95]
  | 0x4005 => [.u 0 55]
  | 0x4006 => [.u 0 1]
  | 0x4007 => [.u 0 95, .u 32 268435455, .u 0 1, .f (q 0 1) (q 1 1)]
  | 0x4008 => [.u 0 95, .u 32 268435455, .f (q 0 1) (q 1 1)]
  | 0x4009 => [.u 0 5]
  | _ => []

/-- The block types of block ROM. -/
def knownTypes : List Nat :=
  [0x0001, 0x0002, 0x0003, 0x0004, 0x0005, 0x0006, 0x0007, 0x0008, 0x0009, 0x0010, 0x0011, 0x0012, 0x0013, 0x0014, 0x0020, 0x0021, 0x0030, 0x0031,
   0x0F00, 0x1001, 0x1002, 0x1003, 0x1004, 0x1005, 0x1006, 0x1007, 0x1010, 0x1011, 0x1012, 0x2001, 0x2002, 0x2003, 0x2004, 0x2005, 0x2006, 0x2007,
   0x2008, 0x2009, 0x200A, 0x3001, 0x3002, 0x3003, 0x3004, 0x3005, 0x3006, 0x3007, 0x4001, 0x4002, 0x4003, 0x4004, 0x4005, 0x4006, 0x4007, 0x4008,
   0x4009, 0x400A]

/-- The ranges of a block's parameter words. -/
def parRanges (typ nPar : Nat) : List ParRange :=
  if typ = 0x0002 then List.replicate nPar .fin
  else if typ = 0x0F00 then List.replicate nPar .any
  else parTable typ

/-- A/B block types (R130, R158, R185). -/
def isAB (typ : Nat) : Bool :=
  (decide (0x1001 ≤ typ) && decide (typ ≤ 0x1007)) || typ == 0x2002 || typ == 0x2003 || typ == 0x2005 || typ == 0x3001 || typ == 0x3003

/-- Input blocks: they run on no engine (R234). -/
def isInput (typ : Nat) : Bool := [0x4001, 0x4002, 0x4003, 0x4006, 0x4009, 0x400A].contains typ

/-- The shared words of an A/B type, by index in the block (R131, R158, R185). -/
def sharedWords (typ : Nat) : List Nat :=
  if !isAB typ then []
  else match typ with
    | 0x2002 => [0, 1, 2, 3]
    | 0x2003 => [0, 1, 2, 10, 11, 12, 13, 14]
    | 0x2005 => [0, 1, 2, 3, 4, 13]
    | 0x3001 => [0, 1, 2, 3]
    | _ => [0, 1]

/-- Do the numbers of inputs, outputs and parameter words match the type (R56)? -/
def shapeOk (typ i o p : Nat) : Bool :=
  let s (a b c : Nat) : Bool := i == a && o == b && p == c
  match typ with
  | 0x0001 => s 1 1 1
  | 0x0002 => decide (2 ≤ i) && decide (i ≤ 16) && o == 1 && p == i
  | 0x0003 => s 2 1 0
  | 0x0004 => s 1 2 2
  | 0x0005 => s 3 1 0
  | 0x0006 => s 1 1 1
  | 0x0007 => s 1 1 0
  | 0x0008 => s 2 1 1
  | 0x0009 => s 2 1 1
  | 0x0010 => s 3 3 0
  | 0x0011 => s 3 3 0
  | 0x0012 => s 4 2 0
  | 0x0013 => s 4 2 0
  | 0x0014 => s 1 2 0
  | 0x0020 => s 1 1 65
  | 0x0021 => s 1 1 1
  | 0x0030 => s 0 2 0
  | 0x0031 => s 0 1 0
  | 0x0F00 => decide (i ≤ 16) && decide (1 ≤ o) && decide (o ≤ 8) && decide (p ≤ 32)
  | 0x1001 => s 4 2 7
  | 0x1002 => s 4 2 9
  | 0x1003 => s 3 3 7
  | 0x1004 => s 3 2 7
  | 0x1005 => s 1 1 3
  | 0x1006 => s 1 1 5
  | 0x1007 => s 3 2 4
  | 0x1010 => decide (2 ≤ i) && decide (i ≤ 8) && o == 3 + i && p == 1
  | 0x1011 => s 1 1 1
  | 0x1012 => s 3 2 3
  | 0x2001 => s 3 4 2
  | 0x2002 => s 2 9 11
  | 0x2003 => s 16 8 15
  | 0x2004 => s 9 5 4
  | 0x2005 => s 10 7 14
  | 0x2006 => s 8 8 174
  | 0x2007 => s 5 3 13
  | 0x2008 => s 4 4 9
  | 0x2009 => s 8 4 7
  | 0x200A => s 4 29 2
  | 0x3001 => decide (11 ≤ i) && decide (i ≤ 56) && i % 3 == 2 && o == 11 && p == 17
  | 0x3002 => s 4 3 5
  | 0x3003 => s 4 2 8
  | 0x3004 => s 3 5 77
  | 0x3005 => s 4 5 10
  | 0x3006 => s 2 3 7
  | 0x3007 => s 8 7 11
  | 0x4001 => s 0 2 1
  | 0x4002 => s 0 3 1
  | 0x4003 => s 0 1 1
  | 0x4004 => s 1 0 2
  | 0x4005 => s 1 1 1
  | 0x4006 => s 0 7 1
  | 0x4007 => s 3 0 4
  | 0x4008 => s 13 0 3
  | 0x4009 => s 0 6 1
  | 0x400A => s 0 3 0
  | _ => false

/-- The operations of a formula block: values popped, values pushed, operand kind (0 none, 1 input, 2 parameter, 3 integer, 4 state, 5 output, 6 bit)
and cost (R95). -/
def opTable : List (Nat × Nat × Nat × Nat) :=
  [(0, 0, 0, 1), (0, 1, 1, 1), (0, 1, 2, 1), (0, 1, 3, 1), (0, 1, 4, 1), (1, 0, 4, 1), (1, 0, 5, 1), (1, 2, 0, 1), (2, 2, 0, 1), (1, 0, 0, 1),
   (2, 1, 0, 1), (2, 1, 0, 1), (2, 1, 0, 1), (3, 1, 0, 1), (2, 1, 0, 8), (1, 1, 0, 8)]
  ++ [(2, 1, 0, 1), (2, 1, 0, 1), (1, 1, 0, 1), (1, 1, 0, 1), (1, 1, 0, 12), (1, 1, 0, 12), (2, 1, 0, 16), (1, 1, 0, 14), (1, 1, 0, 14),
   (1, 1, 0, 2), (2, 1, 0, 1), (3, 1, 0, 1), (3, 1, 0, 2), (1, 1, 0, 1), (1, 1, 0, 1), (1, 1, 6, 1)]

/-- One operation of a formula block. -/
def opOf (c : Nat) : Nat × Nat × Nat × Nat := nth (0, 0, 0, 1) opTable c

/-- The checks of a formula program from a stack depth on (R96). -/
def progOk (nIn nPar nOut : Nat) : Nat → List (Nat × Nat) → Bool
  | _, [] => true
  | depth, (c, v) :: r =>
    let o := opOf c
    let lim := match o.2.2.1 with
      | 0 => 1
      | 1 => nIn
      | 2 => nPar
      | 3 => 65536
      | 4 => 16
      | 5 => nOut
      | _ => 32
    decide (c ≤ 31) && decide (v < lim) && decide (o.1 ≤ depth) && decide (depth - o.1 + o.2.1 ≤ 16)
      && progOk nIn nPar nOut (depth - o.1 + o.2.1) r

/-- The published cost of a block in fc. `par` holds its set A words. -/
def blkCost (b : BlkRec) (par : List Word) : Nat :=
  match b.typ with
  | 0x0002 => 2 + b.ins.length
  | 0x0F00 => 8 + sumOf (b.ops.map (fun o => (opOf o.1).2.2.2))
  | 0x1010 => 20 + 8 * b.ins.length
  | 0x3001 => 300 + 15 * ((b.ins.length - 8) / 3)
  | 0x4007 => if (nth 0 par 2) = 1#32 then 12 else 10
  | t => nth 0 (([(0x0001, 3), (0x0003, 3), (0x0004, 4), (0x0005, 4), (0x0006, 3), (0x0007, 3), (0x0008, 5), (0x0009, 3), (0x0010, 6), (0x0011, 6),
      (0x0012, 6), (0x0013, 6), (0x0014, 14), (0x0020, 18), (0x0021, 6), (0x0030, 3), (0x0031, 2), (0x1001, 32), (0x1002, 44), (0x1003, 60),
      (0x1004, 20), (0x1005, 12), (0x1006, 24), (0x1007, 14), (0x1011, 4), (0x1012, 6), (0x2001, 170), (0x2002, 130), (0x2003, 250), (0x2004, 180),
      (0x2005, 210), (0x2006, 260), (0x2007, 160), (0x2008, 90), (0x2009, 828), (0x200A, 2000), (0x3002, 26), (0x3003, 36), (0x3004, 300),
      (0x3005, 120), (0x3006, 40), (0x3007, 260), (0x4004, 3), (0x4005, 4), (0x4008, 30)].filter (fun p => p.1 == t)).map (·.2)) 0

/-- The outputs declared delayed, by index (R56, R91, R135, R160). -/
def delayedOuts (b : BlkRec) : List Nat :=
  match b.typ with
  | 0x0007 => [0]
  | 0x1010 => (List.range b.outs.length).drop 2
  | 0x2002 => [3]
  | _ => []

/-- The FP32 inputs whose non-finite values R133 and R159 treat, by index. -/
def fpIns (b : BlkRec) (par : List Word) : List Nat :=
  match b.typ with
  | 0x1001 | 0x1002 | 0x1003 | 0x3002 | 0x3003 => [0, 1, 2]
  | 0x1004 | 0x1007 | 0x2001 | 0x2002 | 0x3004 | 0x3005 => [0, 1]
  | 0x1005 | 0x1006 | 0x3006 => [0]
  | 0x2003 => List.range 14
  | 0x2004 => [0, 1, 2, 3, 4, 6, 7, 8]
  | 0x2005 => List.range 9
  | 0x2006 => List.range 7
  | 0x2007 => List.range 4
  | 0x2008 => List.range 3
  | 0x2009 | 0x3007 => List.range 6
  | 0x200A => if nth 0 par 0 = 0#32 then [] else [0, 1, 2]
  | 0x3001 => [0, 1, 2, 3] ++ (List.range b.ins.length).drop 8
  | _ => []

/-- The index of the sat output, if the type has one. -/
def satOut (typ : Nat) : Option Nat :=
  match typ with
  | 0x1001 | 0x1002 | 0x1004 | 0x1007 | 0x3003 => some 1
  | 0x1003 | 0x3002 => some 2
  | 0x2002 => some 8
  | 0x2003 => some 6
  | 0x2004 => some 4
  | 0x2005 => some 6
  | 0x3001 => some 10
  | _ => none

/-- The values a switched-off block's outputs take, none where an output holds (R90, R91, R135, R156, R160, R186, R232). -/
def offVals (b : BlkRec) (par : List Word) : List (Option Word) :=
  let p (i : Nat) : Word := nth 0 par i
  let n := b.outs.length
  if isAB b.typ then
    let uints : List Nat := match b.typ with
      | 0x1003 => [2]
      | 0x1005 | 0x1006 => []
      | 0x2002 => [7, 8]
      | 0x2003 => [6, 7]
      | 0x2005 => [6]
      | 0x3001 => [10]
      | _ => [1]
    (List.range n).map (fun i => some (if uints.contains i then 0 else p 1))
  else match b.typ with
    | 0x0007 | 0x1010 | 0x1011 | 0x200A | 0x4004 | 0x4005 => List.replicate n none
    | 0x0014 => [some 0, some Fp.one]
    | 0x2006 => [some 0, some 0, some 0, some 0, some (p 2), some 0, some 0, some 0]
    | 0x3002 => [some Fp.half, some 0, some 0]
    | 0x3005 => [some (p 2), some 0, some 0, some 0, some 0]
    | _ => List.replicate n (some 0)

/-- Strictly ascending values. -/
def ascending : List F32 → Bool
  | x :: y :: r => Fp.lt x y && ascending (y :: r)
  | _ => true
/-- Non-decreasing values. -/
def nonDecreasing : List F32 → Bool
  | x :: y :: r => Fp.le x y && nonDecreasing (y :: r)
  | _ => true

/-- The ranges that depend on other words or on Ts (R92, R136, R161, R187). -/
def crossOk (typ : Nat) (par : List Word) (ts : F32) : Bool :=
  let p (i : Nat) : Word := nth 0 par i
  let u (i : Nat) : Nat := (p i).toNat
  let sl (i n : Nat) : List Word := (par.drop i).take n
  let f45 : F32 := Fp.div (q 45 100) ts
  match typ with
  | 0x0004 => Fp.le (p 0) (p 1)
  | 0x0020 => let x := sl 1 (u 0); x.all Fp.isFinite && ascending x
  | 0x1001 => Fp.lt (p 5) (p 6)
  | 0x1002 => Fp.lt (p 7) (p 8)
  | 0x1004 => Fp.lt (p 5) (p 6)
  | 0x1006 => Fp.le (p 3) f45
  | 0x2002 => Fp.le (p 6) (p 2) && Fp.le (p 2) (p 7)
  | 0x2003 => Fp.le (p 7) f45 && (u 10 != 1 || u 2 == 0)
  | 0x2006 =>
    Fp.le (p 1) (p 2) && Fp.le (p 2) (Fp.mul Fp.two (p 1)) && nonDecreasing (sl 14 (u 10)) && Fp.eq (p 14) Fp.zero
      && nonDecreasing (sl 78 (u 11)) && Fp.eq (p 78) Fp.zero && ascending (sl 142 (u 12)) && ascending (sl 158 (u 13))
  | 0x2007 => Fp.le (p 5) (p 0) && Fp.le (p 0) (p 6)
  | 0x2008 =>
    Fp.le (p 4) (Fp.mul (q 5 1000) (p 1)) && u 5 % 2 == 0 && Fp.le (Fp.mul (Fp.mul Fp.two (Fp.ofNat (u 5))) ts) (p 6)
  | 0x2009 => Fp.le (p 1) (Fp.mul (q 5 1000) (p 0)) && u 6 % 10 == 0
  | 0x3003 => Fp.lt (p 5) (p 6)
  | 0x3004 =>
    let tr := p 0
    ascending (sl 2 (u 1)) && (sl 34 32).all (fun w => Fp.le w (Fp.mul Fp.two tr)) && Fp.le (p 67) (Fp.mul Fp.two tr)
      && Fp.le (p 70) (p 71) && Fp.le (p 70) (p 72) && Fp.le (p 72) (p 71)
  | 0x3005 =>
    Fp.lt (p 0) (p 1) && Fp.le (p 0) (p 2) && Fp.le (p 2) (p 1) && Fp.le (p 3) (p 4) && Fp.le (p 0) (p 7) && Fp.le (p 7) (p 1)
      && Fp.le (p 7) (p 8) && Fp.le (p 8) (p 1) && u 9 % 2 == 0
  | 0x3006 => Fp.lt (p 0) (p 1)
  | 0x4004 => u 0 == 0 || decide (u 1 ≤ 47)
  | _ => true

/-- Are all words of a block in range, for its run interval (R58)? -/
def parOk (typ : Nat) (par : List Word) (ts : F32) : Bool :=
  (((parRanges typ par.length).zip par).all (fun p => p.1.ok p.2)) && crossOk typ par ts

/-- The run interval Ts of R132 as the nearest FP32. -/
def runTs (n p : Nat) : F32 := Fp.ofRat ((n * p * 2 : Nat) : Int) 1000000000

/-- The number of state words of a block: stated for DELAY, AVERAGE, FORMULA and FOLLOW_SUP, else what block ROM holds (R79, R91, R94, R153). -/
def stateWordsOf (b : BlkRec) : Nat :=
  match b.typ with
  | 0x0007 => 1
  | 0x0021 => 258
  | 0x0F00 => 16
  | 0x1012 => 2
  | t => Sys2Proof.Config.stateWords t b.nPar

/-- A state word of a block type at image load or switch-on: 0 (R90), but 1 for armed of FOLLOW_SUP, its second word (R153). -/
def stateInit (typ k : Nat) : Word := if typ = 0x1012 ∧ k = 1 then 1 else 0

/-- The microcode of a block type in bytes (R79). -/
def microOf (typ : Nat) : Nat := Sys2Proof.Config.microBytes typ

end Sys2Proof.Machine
end

