-- ==== Sys2Proof/Machine/BlkRun.lean ====
section
/-! DEFINITION. Machine/BlkRun.lean: one run of a generic block, a FORMULA block or an output block (R82 to R95, R235, R299 to R302). Each operation of a
formula of the manual rounds once, in the order written (DEDUCED, log entry 42). The order of a block's state words is the model's (log entry 43). -/

namespace Sys2Proof.Machine

/-- What a run of a block sees: its record, Ts and rate, its words of both sets and which set is active, its inputs, its state words, the outputs of its
previous run, whether it has run before, and the facts of the frame. -/
structure BlkEnv where
  rec_ : BlkRec
  ts : F32
  n : Nat
  p : Nat
  a : List Word
  b : List Word
  actB : Bool
  ins : List Word
  st : List Word
  prev : List Word
  /-- What the block's outputs hold in signal memory. -/
  held : List Word
  first : Bool
  frame : Nat
  trig : Nat × Nat
  derate : Bool
  /-- The carrier mode of the block's PWM channel. -/
  mode : Nat
  /-- No cause of R148 but a range refuses a write of the block's inactive set; no swap of its group is pending (R181); and the units of 125 ps since load,
  switch-on or swap boundary, whichever is latest. -/
  wrOk : Bool
  swapOk : Bool
  aged : Nat
  /-- IDENT_SOLVE: the state words and parameters of IDENT_INJ, the buffer, and the outputs and COH_MIN of the other parts. -/
  injSt : List Word
  injPar : List Word
  buf : List (Nat × Word)
  parts : List (List Word)
  cohMin : List Word
  deriving DecidableEq, Repr

/-- What a run leaves: a value for each output it writes, the new state words, the words for its packet, and an expiry: reaction and the value its log
entry carries. -/
structure BlkOut where
  outs : List (Option Word)
  st : List Word
  words : List PWord
  fe : Option (Nat × Word)
  deriving DecidableEq, Repr

/-- Input `i`. -/
def BlkEnv.x (e : BlkEnv) (i : Nat) : Word := nth 0 e.ins i
/-- State word `i`; one never written holds its value at load. -/
def BlkEnv.s (e : BlkEnv) (i : Nat) : Word := nth (stateInit e.rec_.typ i) e.st i
/-- Word `i` of set A. -/
def BlkEnv.pa (e : BlkEnv) (i : Nat) : Word := nth 0 e.a i
/-- Word `i` of the active set. -/
def BlkEnv.pAct (e : BlkEnv) (i : Nat) : Word := nth 0 (if e.actB then e.b else e.a) i
/-- Word `i` of the inactive set. -/
def BlkEnv.pIna (e : BlkEnv) (i : Nat) : Word := nth 0 (if e.actB then e.a else e.b) i
/-- The index of the active instance, and of the inactive one. -/
def BlkEnv.ia (e : BlkEnv) : Nat := b2n e.actB
def BlkEnv.ii (e : BlkEnv) : Nat := b2n (!e.actB)

/-- A Boolean as UINT32. -/
def ofB (b : Bool) : Word := if b then 1 else 0
/-- A run that writes every output. -/
def BlkOut.all (outs st : List Word) : BlkOut := { outs := outs.map some, st := st, words := [], fe := none }
/-- A run that writes nothing and keeps its state. -/
def BlkEnv.hold (e : BlkEnv) : BlkOut := { outs := List.replicate e.rec_.outs.length none, st := e.st, words := [], fe := none }

/-- Linear interpolation over points in ascending order, held outside them (R91). -/
def interp (xs ys : List F32) (x : F32) : F32 :=
  if Fp.isNaN x then Fp.nan
  else if Fp.le x (nth 0 xs 0) then Fp.canon (nth 0 ys 0)
  else
    let k := (xs.filter (fun v => Fp.le v x)).length
    if xs.length ≤ k then Fp.canon (ys.getLastD 0)
    else
      let x0 := nth 0 xs (k - 1); let x1 := nth 0 xs k; let y0 := nth 0 ys (k - 1); let y1 := nth 0 ys k
      Fp.add y0 (Fp.div (Fp.mul (Fp.sub x x0) (Fp.sub y1 y0)) (Fp.sub x1 x0))

/-- A value held between two limits and what limited it: 1 the lower, 2 the upper (R135). -/
def clampSat (u lo hi : F32) : F32 × Nat :=
  if Fp.le u lo then (Fp.canon lo, 1) else if Fp.ge u hi then (Fp.canon hi, 2) else (Fp.canon u, 0)

/-! ### Formula blocks (R94, R95) -/

/-- A formula program in progress: stack (top first), state words, outputs written. -/
structure Fml where
  stack : List Word
  st : List Word
  outs : List (Option Word)
  deriving DecidableEq, Repr

/-- An FP32 operation on the operands in the order a, b, c. -/
def fmlOp (c : Nat) (x y z : Word) : Word :=
  match c with
  | 10 => Fp.add x y
  | 11 => Fp.sub x y
  | 12 => Fp.mul x y
  | 13 => Fp.fma x y z
  | 14 => Fp.div x y
  | 15 => Fp.sqrt x
  | 16 => Fp.min x y
  | 17 => Fp.max x y
  | 18 => Fp.abs (Fp.canon x)
  | 19 => Fp.neg (Fp.canon x)
  | 20 => Fp.sin x
  | 21 => Fp.cos x
  | 22 => Fp.atan2 x y
  | 23 => Fp.exp x
  | 24 => Fp.ln x
  | 25 => Fp.floor x
  | 26 => if Fp.gt x y then Fp.one else Fp.zero
  | 27 => if Fp.eq x Fp.zero then z else y
  | 28 => Fp.clamp x y z
  | 29 => Fp.toI32 x
  | _ => Fp.ofI32 x

/-- One operation: opcode and operand. -/
def Fml.step (ins par : List Word) (m : Fml) (op : Nat × Nat) : Fml :=
  let v := op.2
  let push (w : Word) : Fml := { m with stack := w :: m.stack }
  match op.1, m.stack with
  | 0, _ => m
  | 1, _ => push (nth 0 ins v)
  | 2, _ => push (nth 0 par v)
  | 3, _ => push (Fp.ofInt (toSigned 16 v))
  | 4, _ => push (nth 0 m.st v)
  | 5, x :: r => { m with stack := r, st := upd m.st v (fun _ => x) }
  | 6, x :: r => { m with stack := r, outs := upd m.outs v (fun _ => some x) }
  | 7, x :: r => { m with stack := x :: x :: r }
  | 8, x :: y :: r => { m with stack := y :: x :: r }
  | 9, _ :: r => { m with stack := r }
  | 31, x :: r => { m with stack := (if tbit x v then Fp.one else Fp.zero) :: r }
  | c, z :: y :: x :: r =>
    if (opOf c).1 = 3 then { m with stack := fmlOp c x y z :: r }
    else if (opOf c).1 = 2 then { m with stack := fmlOp c y z 0 :: x :: r }
    else { m with stack := fmlOp c z 0 0 :: y :: x :: r }
  | c, [y, x] => if (opOf c).1 = 2 then { m with stack := [fmlOp c x y 0] } else { m with stack := [fmlOp c y 0 0, x] }
  | c, [x] => { m with stack := [fmlOp c x 0 0] }
  | _, [] => m

/-- A run of a FORMULA block. -/
def runFormula (e : BlkEnv) : BlkOut :=
  let m0 : Fml := { stack := [], st := e.st ++ List.replicate (16 - e.st.length) 0, outs := List.replicate e.rec_.outs.length none }
  let m := e.rec_.ops.foldl (fun (m : Fml) o => m.step e.ins e.a o) m0
  { outs := m.outs, st := m.st, words := [], fe := none }

/-! ### Output blocks (R235, R300 to R302) -/

/-- round(x × k / d) of a finite FP32 value and integers, computed exactly (DEDUCED, log entry 42). -/
def roundMul (x : F32) (k d : Nat) : Int :=
  if Fp.ex x ≥ 0 then roundDiv (Fp.smant x * 2 ^ (Fp.ex x).toNat * k) d else roundDiv (Fp.smant x * k) (d * 2 ^ (-(Fp.ex x)).toNat)

/-- A word saturated to 32 bits. -/
def sat32 (i : Int) : Word := BitVec.ofNat 32 (clampI 0 0xFFFFFFFF i).toNat

/-- The words of a duty (R300): PER first with VARPER = 1. `per` is none where the PER parameter is used. -/
def dutyWords (ch mode per0 : Nat) (varPer : Bool) (per : Option F32) (d dt : F32) : List PWord :=
  let p : Nat := match varPer, per with
    | true, some x =>
      if mode = 2 then (clampI 32 268435454 (2 * roundMul x 1000000000 2)).toNat
      else (clampI 32 268435455 (roundMul x 1000000000 1)).toNat
    | _, _ => per0
  let c : Word × Word :=
    if Fp.le d Fp.zero then (0, 0)
    else if Fp.ge d Fp.one then (0xFFFFFFFF#32, 0xFFFFFFFF#32)
    else if mode = 2 then
      (sat32 (roundMul (Fp.clamp (Fp.add d dt) Fp.zero Fp.one) (4 * p) 1), sat32 (roundMul (Fp.clamp (Fp.sub d dt) Fp.zero Fp.one) (4 * p) 1))
    else let w := sat32 (roundMul d (8 * p) 1); (w, w)
  (if varPer then [{ dst := .pwm ch 0, val := BitVec.ofNat 32 p }] else [])
    ++ [{ dst := .pwm ch 1, val := c.1 }, { dst := .pwm ch 2, val := c.2 }]

/-- A run of PWM_OUT (R300). -/
def runPwmOut (e : BlkEnv) : BlkOut :=
  if !Fp.allFinite [e.x 0, e.x 1, e.x 2] then e.hold
  else { e.hold with words := dutyWords (e.pa 0).toNat e.mode (e.pa 1).toNat (e.pa 2 == 1) (some (e.x 2)) (e.x 0) (e.x 1) }

/-- A run of PWM_EDGES (R300, R301): inputs src, d, dt, lvl, n, t0 to t7. -/
def runPwmEdges (e : BlkEnv) : BlkOut :=
  if e.x 0 = 0 then
    if !Fp.allFinite [e.x 1, e.x 2] then e.hold
    else { e.hold with words := dutyWords (e.pa 0).toNat e.mode (e.pa 1).toNat false none (e.x 1) (e.x 2) }
  else
    let n := Nat.min (e.x 4).toNat 8
    let ts := (e.ins.drop 5).take n
    if !(Fp.allFinite ts) || ts.any (fun t => Fp.lt t Fp.zero) then e.hold
    else
      let word (i : Nat) : PWord :=
        let t := (clampI 0 0x7FFFFFFF (roundMul (nth 0 ts i) 8000000000 1)).toNat
        let lvl := if i % 2 = 0 then tbit (e.x 3) 0 else !tbit (e.x 3) 0
        { dst := .edge (e.pa 0).toNat, val := BitVec.ofNat 32 (t + (if lvl then 2 ^ 31 else 0)) }
      { e.hold with words := (List.range n).map word }

/-- The OFF_DUTY set of a PWM output block (R302). -/
def offDuty (b : BlkRec) (par : List Word) (mode : Nat) : List PWord :=
  let p (i : Nat) : Word := nth 0 par i
  if b.typ = 0x4007 then dutyWords (p 0).toNat mode (p 1).toNat (p 2 == 1) none (p 3) Fp.zero
  else if b.typ = 0x4008 then dutyWords (p 0).toNat mode (p 1).toNat false none (p 2) Fp.zero
  else []

/-- A run of THRESH_OUT (R235). -/
def runThresh (e : BlkEnv) : BlkOut :=
  { e.hold with words := [{ dst := .thresh (e.pa 0).toNat (e.pa 1).toNat, val := e.x 0 }] }

/-- A run of ADC_URG (R235): state words: the previous req, the count. -/
def runUrg (e : BlkEnv) : BlkOut :=
  let go := e.x 0 != 0 && e.s 0 == 0
  let n := if go then e.s 1 + 1 else e.s 1
  { outs := [some n], st := [e.x 0, n], words := if go then [{ dst := .urg, val := e.pa 0 }] else [], fe := none }

/-! ### Generic blocks (R91) -/

/-- Sum of products Σ Wi × xi from the left. -/
def sumProd : List (F32 × F32) → F32
  | [] => Fp.zero
  | (w, x) :: r => r.foldl (fun acc p => Fp.add acc (Fp.mul p.1 p.2)) (Fp.mul w x)

/-- A run of AVERAGE: words 0 to 255 the last values, 256 their number, 257 the place of the next. -/
def runAverage (e : BlkEnv) : BlkOut :=
  let len := (e.pa 0).toNat
  let st := e.st ++ List.replicate (258 - e.st.length) 0
  let i := (nth 0 st 257).toNat % len
  let cnt := Nat.min ((nth 0 st 256).toNat + 1) len
  let st := upd (upd (upd st i (fun _ => e.x 0)) 257 (fun _ => BitVec.ofNat 32 ((i + 1) % len))) 256 (fun _ => BitVec.ofNat 32 cnt)
  BlkOut.all [Fp.div (Fp.sumL (st.take cnt)) (Fp.ofNat cnt)] st

/-- A run of a generic block by its type. Inside the band COMPARE writes nothing, so that its output holds whatever it held. R91 names no sat of LIMIT for a NaN
input: there sat is a free one of its codes 0 to 2 (DESIGN CHOICE, log entry 89). -/
def runGeneric (e : BlkEnv) : BlkOut :=
  let y (w : Word) : BlkOut := BlkOut.all [w] e.st
  match e.rec_.typ with
  | 0x0001 => y (Fp.mul (e.pa 0) (e.x 0))
  | 0x0002 => y (sumProd (e.a.zip e.ins))
  | 0x0003 => y (Fp.mul (e.x 0) (e.x 1))
  | 0x0004 =>
    if Fp.isNaN (e.x 0) then BlkOut.all [Fp.nan, BitVec.ofNat 32 ((Sys2Proof.Config.openResult 4 e.ins).toNat % 3)] e.st
    else let c := clampSat (e.x 0) (e.pa 0) (e.pa 1); BlkOut.all [c.1, BitVec.ofNat 32 c.2] e.st
  | 0x0005 => y (if e.x 0 = 0 then e.x 1 else e.x 2)
  | 0x0006 => y (match (e.pa 0).toNat with
      | 0 => Fp.toI32 (e.x 0)
      | 1 => Fp.ofI32 (e.x 0)
      | 2 => Fp.toU32 (e.x 0)
      | _ => Fp.ofU32 (e.x 0))
  | 0x0007 => BlkOut.all [e.x 0] [e.x 0]
  | 0x0008 =>
    if Fp.gt (e.x 0) (Fp.add (e.x 1) (e.pa 0)) then y 1 else if Fp.lt (e.x 0) (Fp.sub (e.x 1) (e.pa 0)) then y 0 else e.hold
  | 0x0009 => y (match (e.pa 0).toNat with
      | 0 => e.x 0 &&& e.x 1
      | 1 => e.x 0 ||| e.x 1
      | 2 => e.x 0 ^^^ e.x 1
      | 3 => ~~~(e.x 0)
      | _ => e.x 0 &&& ~~~(e.x 1))
  | 0x0010 => let r := Fp.clarke (e.x 0) (e.x 1) (e.x 2); BlkOut.all [r.1, r.2.1, r.2.2] e.st
  | 0x0011 => let r := Fp.invClarke (e.x 0) (e.x 1) (e.x 2); BlkOut.all [r.1, r.2.1, r.2.2] e.st
  | 0x0012 => let r := Fp.park (e.x 0) (e.x 1) (e.x 2) (e.x 3); BlkOut.all [r.1, r.2] e.st
  | 0x0013 => let r := Fp.invPark (e.x 0) (e.x 1) (e.x 2) (e.x 3); BlkOut.all [r.1, r.2] e.st
  | 0x0014 => BlkOut.all [Fp.sin (e.x 0), Fp.cos (e.x 0)] e.st
  | 0x0020 => let n := (e.pa 0).toNat; y (interp ((e.a.drop 1).take n) ((e.a.drop 33).take n) (e.x 0))
  | 0x0021 => runAverage e
  | 0x0030 => BlkOut.all [BitVec.ofNat 32 e.trig.1, BitVec.ofNat 32 e.trig.2] e.st
  | 0x0031 => y (ofB e.derate)
  | _ => e.hold

end Sys2Proof.Machine
end

