-- ==== Sys2Proof/Machine/BlkLoop.lean ====
section
/-! DEFINITION. Machine/BlkLoop.lean: one run of a block of the loop library (R130 to R144, R152, R153). -/

namespace Sys2Proof.Machine

/-- Two words in the order of instances A and B: `act` at the active one's place. -/
def BlkEnv.ab (e : BlkEnv) (act ina : Word) : List Word := if e.actB then [ina, act] else [act, ina]

/-- Is an integration of `err` skipped because it would deepen the limit held from the last run with finite inputs (R133, R137)? -/
def deepens (sat : Nat) (err : F32) : Bool := (sat == 2 && Fp.gt err Fp.zero) || (sat == 1 && Fp.lt err Fp.zero)

/-- The words of a PI or PID: KP, KI, KD, TF, KT, UMIN, UMAX of one set. -/
structure PidPar where
  kp : F32
  ki : F32
  kd : F32
  tf : F32
  kt : F32
  umin : F32
  umax : F32
  deriving DecidableEq, Repr

/-- The words of a set for a PI (`pid` false) or a PID. -/
def pidPar (pid : Bool) (p : Nat → Word) : PidPar :=
  if pid then { kp := p 2, ki := p 3, kd := p 4, tf := p 5, kt := p 6, umin := p 7, umax := p 8 }
  else { kp := p 2, ki := p 3, kd := 0, tf := 0, kt := p 4, umin := p 5, umax := p 6 }

/-- A run of PI or PID (R137, R138, R143) on r, f, trk, te. State words: i of A and B, d of A and B, f of the previous run, sat. -/
def runPid (pid : Bool) (e : BlkEnv) (r f trk : F32) (te : Word) : BlkOut :=
  let pa := pidPar pid e.pAct
  let pb := pidPar pid e.pIna
  let err := Fp.sub r f
  let dOf (p : PidPar) (d : F32) : F32 :=
    Fp.div (Fp.sub (Fp.mul p.tf d) (Fp.mul p.kd (Fp.sub f (e.s 4)))) (Fp.add p.tf e.ts)
  let da := if pid then dOf pa (e.s (2 + e.ia)) else Fp.zero
  let db := if pid then dOf pb (e.s (2 + e.ii)) else Fp.zero
  let i0 := e.s e.ia
  let i1 := if deepens (e.s 5).toNat err then i0 else Fp.add i0 (Fp.mul (Fp.mul pa.ki e.ts) err)
  let i2 := if te = 0 then i1 else Fp.add i1 (Fp.mul pa.kt (Fp.sub trk i1))
  let u0 := Fp.add (Fp.mul pa.kp err) i2
  let u := if pid then Fp.add u0 da else u0
  let c := clampSat u pa.umin pa.umax
  let b0 := Fp.sub u (Fp.mul pb.kp err)
  let ib := if pid then Fp.sub b0 db else b0
  BlkOut.all [c.1, BitVec.ofNat 32 c.2] (e.ab i2 ib ++ e.ab da db ++ [f, BitVec.ofNat 32 c.2])

/-- A second-order section in transposed form: y and the next two states. -/
def section2 (b0 b1 b2 a1 a2 x s1 s2 : F32) : F32 × F32 × F32 :=
  let y := Fp.add (Fp.mul b0 x) s1
  (y, Fp.add (Fp.sub (Fp.mul b1 x) (Fp.mul a1 y)) s2, Fp.sub (Fp.mul b2 x) (Fp.mul a2 y))

/-- The coefficients of PR's resonant term (R139), Tustin with prewarping at H × w: b0 (b1 is 0, b2 is −b0), a1, a2. -/
def prCoef (p : Nat → Word) (w ts : F32) : F32 × F32 × F32 :=
  let lim := Fp.div (Fp.mul (q 9 10) Fp.pi) ts
  let w0 := Fp.min (Fp.abs (Fp.mul (Fp.ofNat (p 4).toNat) w)) lim
  let half := Fp.div (Fp.mul w0 ts) Fp.two
  let c := if Fp.isZero w0 then Fp.div Fp.two ts else Fp.div w0 (Fp.tanF half)
  let c2 := Fp.mul c c
  let ww := Fp.mul w0 w0
  let wc := Fp.mul (Fp.mul Fp.two (p 5)) c
  let a0 := Fp.add (Fp.add c2 wc) ww
  (Fp.div (Fp.mul (p 3) wc) a0, Fp.div (Fp.mul Fp.two (Fp.sub ww c2)) a0, Fp.div (Fp.add (Fp.sub c2 wc) ww) a0)

/-- A run of PR (R139, R143). R143 does not say how the correction of the direct term is formed: the model takes what the active instance's unclamped output leaves
over the inactive direct term and the active resonant part, and an instance that becomes active keeps its correction (DESIGN CHOICE, log entry 91). State words: two resonant states of each axis of A and of B, then the direct term's correction of each axis of A and B. -/
def runPr (e : BlkEnv) : BlkOut :=
  let co := prCoef e.pAct (e.x 2) e.ts
  let axis (j : Nat) : F32 × F32 × F32 × F32 :=
    let r := section2 co.1 Fp.zero (Fp.neg co.1) co.2.1 co.2.2 (e.x j) (e.s (4 * e.ia + 2 * j)) (e.s (4 * e.ia + 2 * j + 1))
    (Fp.add (Fp.add (Fp.mul (e.pAct 2) (e.x j)) r.1) (e.s (8 + 2 * e.ia + j)), r.1, r.2.1, r.2.2)
  let y0 := axis 0
  let y1 := axis 1
  let m := Fp.mag y0.1 y1.1
  let lim := Fp.gt m (e.pAct 6)
  let sc (y : F32) : F32 := if lim then Fp.div (Fp.mul y (e.pAct 6)) m else y
  let st := if lim then ((e.st.drop (4 * e.ia)).take 4) else [y0.2.2.1, y0.2.2.2, y1.2.2.1, y1.2.2.2]
  let st := st ++ List.replicate (4 - st.length) 0
  let corr (j : Nat) (y r : F32) : F32 := Fp.sub (Fp.sub y (Fp.mul (e.pIna 2) (e.x j))) r
  let ca : List Word := [e.s (8 + 2 * e.ia), e.s (9 + 2 * e.ia)]
  let cb : List Word := [corr 0 y0.1 y0.2.1, corr 1 y1.1 y1.2.1]
  BlkOut.all [sc y0.1, sc y1.1, if lim then 2 else 0] (st ++ st ++ (if e.actB then cb ++ ca else ca ++ cb))

/-- The coefficients of LEADLAG (R140), Tustin: b0, b1, a1. -/
def leadLagCoef (p : Nat → Word) (ts : F32) : F32 × F32 × F32 :=
  let c := Fp.div Fp.two ts
  let a0 := Fp.add Fp.one (Fp.mul c (p 4))
  (Fp.div (Fp.mul (p 2) (Fp.add Fp.one (Fp.mul c (p 3)))) a0, Fp.div (Fp.mul (p 2) (Fp.sub Fp.one (Fp.mul c (p 3)))) a0,
   Fp.div (Fp.sub Fp.one (Fp.mul c (p 4))) a0)

/-- A run of LEADLAG (R140, R143). State words: the filter state of A and of B, set as if the filter's output of this run had been the output. -/
def runLeadLag (e : BlkEnv) : BlkOut :=
  let ca := leadLagCoef e.pAct e.ts
  let cb := leadLagCoef e.pIna e.ts
  let u := if e.x 2 = 0 then Fp.add (Fp.mul ca.1 (e.x 0)) (e.s e.ia) else e.x 1
  let c := clampSat u (e.pAct 5) (e.pAct 6)
  let next (k : F32 × F32 × F32) : F32 := Fp.sub (Fp.mul k.2.1 (e.x 0)) (Fp.mul k.2.2 c.1)
  BlkOut.all [c.1, BitVec.ofNat 32 c.2] (e.ab (next ca) (next cb))

/-- One step of the first-order filter y + Ts/(τ + Ts)(x − y). -/
def lowStep (tau ts x y : F32) : F32 := Fp.add y (Fp.mul (Fp.div ts (Fp.add tau ts)) (Fp.sub x y))

/-- A run of LOWPASS (R141, R143). State words: y of A and of B. -/
def runLowPass (e : BlkEnv) : BlkOut :=
  let f (tau y : F32) : F32 := if Fp.isZero tau then Fp.canon (e.x 0) else lowStep tau e.ts (e.x 0) y
  let ya := f (e.pAct 2) (e.s e.ia)
  let yb := f (e.pIna 2) (e.s e.ii)
  BlkOut.all [ya] (e.ab ya yb)

/-- The coefficients of a second-order section of BIQUAD (R141), Tustin with prewarping at F0: b0, b1, b2, a1, a2. -/
def biquadCoef (typ : Nat) (f0 qf ts : F32) : F32 × F32 × F32 × F32 × F32 :=
  let k := Fp.tanF (Fp.mul (Fp.mul Fp.pi f0) ts)
  let kq := Fp.div k qf
  let k2 := Fp.mul k k
  let a0 := Fp.add (Fp.add Fp.one kq) k2
  let d (x : F32) : F32 := Fp.div x a0
  let n1 := Fp.mul Fp.two (Fp.sub k2 Fp.one)
  let b : F32 × F32 × F32 := match typ with
    | 0 => (d k2, d (Fp.mul Fp.two k2), d k2)
    | 1 => (d Fp.one, d (Fp.neg Fp.two), d Fp.one)
    | 2 => (d kq, Fp.zero, d (Fp.neg kq))
    | _ => (d (Fp.add Fp.one k2), d n1, d (Fp.add Fp.one k2))
  (b.1, b.2.1, b.2.2, d n1, d (Fp.add (Fp.sub Fp.one kq) k2))

/-- A section run with its coefficients. -/
def biquadRun (c : F32 × F32 × F32 × F32 × F32) (x s1 s2 : F32) : F32 × F32 × F32 :=
  section2 c.1 c.2.1 c.2.2.1 c.2.2.2.1 c.2.2.2.2 x s1 s2

/-- A run of BIQUAD (R141, R143). State words: two of A, two of B. -/
def runBiquad (e : BlkEnv) : BlkOut :=
  let go (p : Nat → Word) (i : Nat) := biquadRun (biquadCoef (p 2).toNat (p 3) (p 4) e.ts) (e.x 0) (e.s (2 * i)) (e.s (2 * i + 1))
  let a := go e.pAct e.ia
  let b := go e.pIna e.ii
  BlkOut.all [a.1] (if e.actB then [b.2.1, b.2.2, a.2.1, a.2.2] else [a.2.1, a.2.2, b.2.1, b.2.2])

/-- A run of RATE_LIMIT (R142, R143). State words: y of A and of B, which are equal after each run. -/
def runRate (e : BlkEnv) : BlkOut :=
  let yp := e.s e.ia
  let dlt := Fp.sub (e.x 0) yp
  let lo := Fp.neg (Fp.mul (e.pAct 3) e.ts)
  let hi := Fp.mul (e.pAct 2) e.ts
  let r : F32 × Nat :=
    if e.x 2 != 0 then (Fp.canon (e.x 1), 0)
    else if Fp.lt dlt lo then (Fp.add yp lo, 1)
    else if Fp.gt dlt hi then (Fp.add yp hi, 2)
    else (Fp.add yp dlt, 0)
  BlkOut.all [r.1, BitVec.ofNat 32 r.2] [r.1, r.1]

/-- The index of the lowest of a list of values, ties to the lowest index; a non-finite value counts as +∞ (R144). -/
def lowestIdx (xs : List F32) : Nat :=
  let v (i : Nat) : F32 := let x := nth 0 xs i; if Fp.isFinite x then x else Fp.inf false
  (List.range xs.length).foldl (fun m i => if Fp.lt (v i) (v m) then i else m) 0

/-- A run of MIN_SELECT (R144). State words: has it run, the winner, y. At a first run with no finite input y holds what its signal holds. The delayed outputs are given as this run leaves them. -/
def runMinSel (e : BlkEnv) : BlkOut :=
  let n := e.ins.length
  let v (i : Nat) : F32 := let x := e.x i; if Fp.isFinite x then Fp.canon x else Fp.inf false
  let m := lowestIdx e.ins
  let c0 := if e.s 0 = 0 then m else (e.s 1).toNat
  let ts (c : Nat) : List (Option Word) := (List.range n).map (fun i => some (if i = c then 0 else 1))
  if (List.range n).all (fun i => !Fp.isFinite (e.x i)) then
    let y := if e.s 0 = 0 then nth 0 e.held 0 else e.s 2
    { outs := [none, some 0xFFFFFFFF#32, some y] ++ ts c0, st := [1, BitVec.ofNat 32 c0, y], words := [], fe := none }
  else
    let c := if Fp.lt (v m) (Fp.sub (v c0) (e.pa 0)) then m else c0
    let y := v c
    { outs := [some y, some (BitVec.ofNat 32 c), some y] ++ ts c, st := [1, BitVec.ofNat 32 c, y], words := [], fe := none }

/-- A run of SWAP_REQ (R152). State words: the previous req, n. -/
def runSwapReq (e : BlkEnv) : BlkOut :=
  let go := e.x 0 != 0 && e.s 0 == 0
  let n := if go then e.s 1 + 1 else e.s 1
  { outs := [some n], st := [e.x 0, n], words := if go then [{ dst := .swap, val := e.pa 0 }] else [], fe := none }

/-- A run of FOLLOW_SUP (R153). State words: cnt, armed. -/
def runFollow (e : BlkEnv) : BlkOut :=
  let err := Fp.abs (Fp.sub (e.x 0) (e.x 1))
  let beyond := Fp.isNaN err || Fp.gt err (e.pa 0)
  let exceeds := e.x 2 == 0 && beyond
  let cnt : Nat := if exceeds then Nat.min ((e.s 0).toNat + e.n) 65535 else 0
  let armed : Bool := !exceeds || e.s 1 != 0
  let exp := decide ((e.pa 1).toNat ≤ cnt)
  let fire := exp && armed
  { outs := [some (ofB exp), some (BitVec.ofNat 32 cnt)], st := [BitVec.ofNat 32 cnt, ofB (armed && !fire)], words := [],
    fe := if fire then some ((e.pa 2).toNat, err) else none }

/-- A run of SPEED_TORQUE (R194): PI on wm and min(w_ref, WMAX). -/
def runSpeed (e : BlkEnv) : BlkOut := runPid false e (e.x 1) (Fp.min (e.x 0) (e.pAct 7)) (e.x 2) (e.x 3)

/-- A run of a block of the loop library with finite inputs. -/
def runLoop (e : BlkEnv) : BlkOut :=
  match e.rec_.typ with
  | 0x1001 => runPid false e (e.x 0) (e.x 1) (e.x 2) (e.x 3)
  | 0x1002 => runPid true e (e.x 0) (e.x 1) (e.x 2) (e.x 3)
  | 0x1003 => runPr e
  | 0x1004 => runLeadLag e
  | 0x1005 => runLowPass e
  | 0x1006 => runBiquad e
  | 0x1007 => runRate e
  | 0x1010 => runMinSel e
  | 0x1011 => runSwapReq e
  | _ => runFollow e

end Sys2Proof.Machine
end

