-- ==== Sys2Proof/Machine/BlkGrid.lean ====
section
/-! DEFINITION. Machine/BlkGrid.lean: one run of a block of the grid library (R157 to R182). -/

namespace Sys2Proof.Machine

/-- 2π × f. -/
def omega (f : F32) : F32 := Fp.mul Fp.tau f
/-- A counter of runs as FP32 seconds. -/
def runsTime (n : Nat) (ts : F32) : F32 := Fp.mul (Fp.ofNat n) ts
/-- A natural number as a state word. -/
def wN (n : Nat) : Word := BitVec.ofNat 32 n

/-- One step of a second-order generalised integrator (R163): x′, qx′ and the two next states. -/
def sogi (k t x v1 v2 : F32) : F32 × F32 × F32 × F32 :=
  let kt := Fp.mul k t
  let t2 := Fp.mul t t
  let a0 := Fp.add (Fp.add Fp.one kt) t2
  let a1 := Fp.div (Fp.mul Fp.two (Fp.sub t2 Fp.one)) a0
  let a2 := Fp.div (Fp.add (Fp.sub Fp.one kt) t2) a0
  let v := Fp.sub (Fp.sub x (Fp.mul a1 v1)) (Fp.mul a2 v2)
  (Fp.mul (Fp.div kt a0) (Fp.sub v v2), Fp.mul (Fp.div (Fp.mul k t2) a0) (Fp.add (Fp.add v (Fp.mul Fp.two v1)) v2), v, v1)

/-- A run of SEQ_SEP (R163). State words: two of each axis. -/
def runSeqSep (e : BlkEnv) : BlkOut :=
  let w0 := omega (e.pa 1)
  let w := if Fp.isFinite (e.x 2) then Fp.clamp (e.x 2) (Fp.mul w0 (q 8 10)) (Fp.mul w0 (q 12 10)) else w0
  let t := Fp.tanF (Fp.div (Fp.mul w e.ts) Fp.two)
  let a := sogi (e.pa 0) t (e.x 0) (e.s 0) (e.s 1)
  let b := sogi (e.pa 0) t (e.x 1) (e.s 2) (e.s 3)
  let h (x : F32) : F32 := Fp.div x Fp.two
  BlkOut.all [h (Fp.sub a.1 b.2.1), h (Fp.add a.2.1 b.1), h (Fp.add a.1 b.2.1), h (Fp.sub b.1 a.2.1)]
    [a.2.2.1, a.2.2.2, b.2.2.1, b.2.2.2]

/-- A run of PLL (R164, R165). State words: θ, s, k, integ of A, integ of B, w, sat, run of locked runs, has run. -/
def runPll (e : BlkEnv) : BlkOut :=
  let p := e.pAct
  let pb := e.pIna
  let s0 := e.s 1
  let k0 := if e.s 8 = 0 then Fp.one else e.s 2
  let vd := Fp.add (Fp.mul (e.x 0) k0) (Fp.mul (e.x 1) s0)
  let vq := Fp.add (Fp.mul (Fp.neg (e.x 0)) s0) (Fp.mul (e.x 1) k0)
  let m := Fp.mag vd vq
  let live := Fp.ge m (Fp.mul (p 8) (p 3))
  let eps := Fp.div vq m
  let i0 := e.s (3 + e.ia)
  let i1 := if live && !deepens (e.s 6).toNat eps then Fp.add i0 (Fp.mul (Fp.mul (p 5) e.ts) eps) else i0
  let w1 := if live then Fp.add (Fp.add (omega (p 2)) (Fp.mul (p 4) eps)) i1 else e.s 5
  let c := clampSat w1 (omega (p 6)) (omega (p 7))
  let w := c.1
  let th := Fp.modTau (Fp.add (e.s 0) (Fp.mul w e.ts))
  let sn := Fp.sin th
  let cs := Fp.cos th
  let ib := if live then Fp.sub (Fp.sub w (omega (pb 2))) (Fp.mul (pb 4) eps) else Fp.sub w (omega (pb 2))
  let run := if live && Fp.lt (Fp.abs eps) (p 9) then Nat.min ((e.s 7).toNat + 1) 100000 else 0
  BlkOut.all [th, sn, cs, w, Fp.div w Fp.tau, vd, vq, ofB (decide ((p 10).toNat ≤ run)), wN c.2]
    ([th, sn, cs] ++ e.ab i1 ib ++ [w, wN c.2, wN run, 1])

/-- KV_new of R181. -/
def kvNew (e : BlkEnv) : F32 := Fp.min (e.pAct 14) (Fp.mul (e.pAct 13) (e.x 13))

/-- Does a CURRENT_DQ retune in this run (R181)? The age is compared exactly, in units of 125 ps. -/
def dqRetunes (e : BlkEnv) : Bool :=
  let kv := e.pAct 9
  let dev := e.pAct 12
  e.pAct 10 == 1 && e.x 14 != e.s 12 && e.x 15 == 1 && e.swapOk
    && decide (Fp.toScaled (e.pAct 11) * 8000000000 ≤ (e.aged : Int) * 2 ^ 160)
    && (Fp.gt (Fp.div (Fp.abs (Fp.sub (e.x 11) (e.pAct 7))) (e.pAct 7)) dev
        || Fp.gt (Fp.abs (Fp.sub (kvNew e) kv)) (Fp.mul dev (Fp.max kv (q 1 1000))))

/-- The words a retune writes: the active set's, with the three new damping words. -/
def dqNewWords (e : BlkEnv) : List Word :=
  let f := Fp.min (Fp.max (e.x 11) (q 10 1)) (Fp.div (q 45 100) e.ts)
  let qq := Fp.min (Fp.max (e.x 12) Fp.half) (q 20 1)
  upd (upd (upd (if e.actB then e.b else e.a) 7 (fun _ => f)) 8 (fun _ => qq)) 9 (fun _ => kvNew e)

/-- A run of CURRENT_DQ (R166, R167, R181). State words: xd, xq of A and B; band-pass states of A (four) and B (four); the previous rseq; sat; the
limited command of the last run. -/
def runCurrent (e : BlkEnv) : BlkOut :=
  let p := e.pAct
  let pb := e.pIna
  let neg := p 2 == 1
  let g : F32 := if neg then Fp.neg Fp.one else Fp.one
  let gs := Fp.mul g (e.x 6)
  let k := e.x 7
  let i := Fp.park (e.x 2) (e.x 3) gs k
  let ed := Fp.sub (e.x 0) i.1
  let eq := Fp.sub (e.x 1) i.2
  let st (j : Nat) : Word := nth 0 e.st j
  let held := st 13 == 2
  let deep (u err : F32) : Bool := held && Fp.gt (Fp.mul u err) Fp.zero
  let xd0 := st (2 * e.ia)
  let xq0 := st (2 * e.ia + 1)
  let xd1 := if deep (st 14) ed then xd0 else Fp.add xd0 (Fp.mul (Fp.mul (p 4) e.ts) ed)
  let xq1 := if deep (st 15) eq then xq0 else Fp.add xq0 (Fp.mul (Fp.mul (p 4) e.ts) eq)
  let gwl := Fp.mul (Fp.mul g (e.x 10)) (p 5)
  let ud := Fp.sub (Fp.add (Fp.add (Fp.mul (p 3) ed) xd1) (e.x 8)) (Fp.mul gwl i.2)
  let uq := Fp.add (Fp.add (Fp.add (Fp.mul (p 3) eq) xq1) (e.x 9)) (Fp.mul gwl i.1)
  let m := Fp.mag ud uq
  let lim := Fp.gt m (p 6)
  let sc (u : F32) : F32 := if lim then Fp.div (Fp.mul u (p 6)) m else u
  let v := Fp.invPark (sc ud) (sc uq) gs k
  let ev := Fp.invPark ed eq gs k
  let bp (w : Nat → Word) (inst : Nat) (x : F32) (ax : Nat) : F32 × F32 × F32 :=
    biquadRun (biquadCoef 2 (w 7) (w 8) e.ts) x (st (4 + 4 * inst + 2 * ax)) (st (5 + 4 * inst + 2 * ax))
  let ba := bp p e.ia (e.x 4) 0
  let bb := bp p e.ia (e.x 5) 1
  let ca := bp pb e.ii (e.x 4) 0
  let cb := bp pb e.ii (e.x 5) 1
  let damp := !neg && Fp.gt (p 9) Fp.zero
  let va := if damp then Fp.sub v.1 (Fp.mul (p 9) ba.1) else v.1
  let vb := if damp then Fp.sub v.2 (Fp.mul (p 9) bb.1) else v.2
  let xa := if lim then [xd0, xq0] else [xd1, xq1]
  let xb := [Fp.sub ud (Fp.mul (pb 3) ed), Fp.sub uq (Fp.mul (pb 3) eq)]
  let fa := [ba.2.1, ba.2.2, bb.2.1, bb.2.2]
  let fb := [ca.2.1, ca.2.2, cb.2.1, cb.2.2]
  let retunes := dqRetunes e
  let nw := dqNewWords e
  let rq := retunes && e.wrOk && parOk 0x2003 nw e.ts
  let words := if retunes then ((List.range 15).filter (fun j => !(sharedWords 0x2003).contains j)).map
      (fun j => ({ dst := .par e.ii (e.rec_.pIdx + j), val := nth 0 nw j } : PWord)) else []
  { outs := [va, vb, ev.1, ev.2, i.1, i.2, if lim then 2 else 0, ofB rq].map some
    st := (if e.actB then xb ++ xa ++ fb ++ fa else xa ++ xb ++ fa ++ fb) ++ [e.x 14, if lim then 2 else 0, sc ud, sc uq]
    words := words, fe := none }

/-- A run of GRID_FOLLOW (R168). -/
def runFollowGrid (e : BlkEnv) : BlkOut :=
  let vdn := Fp.max (e.x 3) (Fp.mul (e.pa 2) (e.pa 0))
  let ride := e.x 5 == 1 || e.x 5 == 2
  let pf := if Fp.isZero (e.x 2) || Fp.gt (Fp.abs (e.x 2)) Fp.one then Fp.one else e.x 2
  let iq0 :=
    if ride then Fp.canon (e.x 6)
    else if e.pa 3 = 0 then Fp.div (Fp.neg (e.x 1)) (Fp.mul (q 3 2) vdn)
    else Fp.mul (Fp.mul (Fp.neg (e.x 0)) (Fp.tanAcos (Fp.abs pf))) (Fp.sgn pf)
  let dn := if ride then Fp.canon (e.x 7) else Fp.zero
  let qn := if ride then Fp.canon (e.x 8) else Fp.zero
  let a := Fp.sub (e.pa 1) (Fp.mag dn qn)
  let id0 := Fp.canon (e.x 0)
  let lim := Fp.gt (Fp.mag id0 iq0) a
  let iq := if lim then Fp.clamp iq0 (Fp.neg a) a else iq0
  let id := if lim then Fp.mul (Fp.sgn id0) (Fp.sqrt (Fp.sub (Fp.mul a a) (Fp.mul iq iq))) else id0
  let c := Fp.cos (e.x 4)
  let s := Fp.sin (e.x 4)
  BlkOut.all [Fp.sub (Fp.mul id c) (Fp.mul iq s), Fp.add (Fp.mul id s) (Fp.mul iq c), dn, qn, if lim then 2 else 0] e.st

/-- A run of VSM (R169, R170). State words: w_pu, θ and e of both instances, which are equal after each run, and has run. -/
def runVsm (e : BlkEnv) : BlkOut :=
  let p := e.pAct
  let w2 := omega (p 3)
  let wgPu := Fp.div (e.x 6) w2
  let start := e.s 3 == 0
  let te := e.x 9 != 0
  let w0 := if start then Fp.one else e.s 0
  let wr := if p 13 = 0 then Fp.one else wgPu
  let w1 := Fp.add w0 (Fp.div (Fp.mul e.ts (Fp.sub (Fp.div (Fp.sub (e.x 0) (e.x 2)) (p 2)) (Fp.mul (p 6) (Fp.sub w0 wr)))) (Fp.mul Fp.two (p 5)))
  let wpu := if te then wgPu else if start then Fp.one else w1
  let th := if te || start then Fp.canon (e.x 7)
    else Fp.modTau (Fp.add (e.s 1) (Fp.mul (Fp.mul (Fp.mul wpu Fp.tau) (p 3)) e.ts))
  let em0 := e.s 2
  let tgt := Fp.mul (p 4) (Fp.add Fp.one (Fp.div (Fp.mul (p 7) (Fp.sub (e.x 1) (e.x 3))) (p 2)))
  let em := if te || start then Fp.canon (e.x 8)
    else Fp.add em0 (Fp.mul (Fp.div e.ts (Fp.add (p 8) e.ts)) (Fp.sub tgt em0))
  let im := Fp.mag (e.x 4) (e.x 5)
  let exceeds := Fp.gt im (p 11)
  let rv := Fp.add (p 9) (Fp.mul (p 12) (Fp.max Fp.zero (Fp.sub im (p 11))))
  let w := Fp.mul (Fp.mul wpu Fp.tau) (p 3)
  let wl := Fp.mul w (p 10)
  let sn := Fp.sin th
  let cs := Fp.cos th
  let va := Fp.add (Fp.sub (Fp.mul em cs) (Fp.mul rv (e.x 4))) (Fp.mul wl (e.x 5))
  let vb := Fp.sub (Fp.sub (Fp.mul em sn) (Fp.mul rv (e.x 5))) (Fp.mul wl (e.x 4))
  BlkOut.all [th, sn, cs, w, va, vb, if exceeds then 2 else 0] [wpu, th, em, 1]

/-! ### Fault ride-through (R171 to R173) -/

/-- A profile over time: linear interpolation, of two points that share a time the later from that time on. -/
def profile (ts us : List F32) (t : F32) : F32 := interp ts us t

/-- A run of FRT. State words: state, runs since its entry, runs in which recovery has held, previous rst, id_e, id_lim, trip cause. -/
def runFrt (e : BlkEnv) : BlkOut :=
  let p := e.pa
  let sl (i n : Nat) : List Word := (e.a.drop i).take n
  let up := Fp.div (Fp.mag (e.x 0) (e.x 1)) (p 0)
  let un := Fp.div (Fp.mag (e.x 2) (e.x 3)) (p 0)
  let st0 := (e.s 0).toNat
  let k0 := (e.s 1).toNat + 1
  let tf := runsTime k0 e.ts
  let ul := p 3
  let uh := p 4
  let uy := p 5
  let lvT := sl 14 (p 10).toNat
  let hvT := sl 78 (p 11).toNat
  let lv := profile lvT (sl 46 (p 10).toNat) tf
  let hv := profile hvT (sl 110 (p 11).toNat) tf
  let within := Fp.le (Fp.add ul uy) up && Fp.le up (Fp.sub uh uy)
  let okL := Fp.le (Fp.add ul uy) up && Fp.le up uh
  let okH := Fp.le ul up && Fp.le up (Fp.sub uh uy)
  let ok := if st0 = 1 then okL else okH
  let h0 := (e.s 2).toNat
  let heldFor := ok && Fp.le (p 6) (runsTime h0 e.ts)
  let limPrev := if e.first then p 2 else e.s 5
  -- new state, runs since entry, trip cause
  let r : Nat × Nat × Nat :=
    match st0 with
    | 1 =>
      if Fp.lt up lv then (4, 0, 1)
      else if Fp.gt tf (lvT.getLastD 0) then (4, 0, 2)
      else if Fp.gt up uh then (2, 0, 0)
      else if heldFor then (3, 0, 0)
      else (1, k0, 0)
    | 2 =>
      if Fp.gt up hv then (4, 0, 3)
      else if Fp.gt tf (hvT.getLastD 0) then (4, 0, 4)
      else if Fp.lt up ul then (1, 0, 0)
      else if heldFor then (3, 0, 0)
      else (2, k0, 0)
    | 4 => if e.x 7 != 0 && e.s 3 == 0 && within then (0, 0, 0) else (4, 0, (e.s 6).toNat)
    | s =>
      if Fp.lt up ul then (1, 0, 0)
      else if Fp.gt up uh then (2, 0, 0)
      else if s = 3 && !Fp.ge limPrev (p 2) then (3, 0, 0)
      else (0, 0, 0)
  let new := r.1
  let fault := new == 1 || new == 2
  let idE := if fault && (st0 == 0 || st0 == 3) then e.x 6 else e.s 4
  let cp := interp (sl 142 (p 12).toNat) (sl 150 (p 12).toNat) up
  let cn := interp (sl 158 (p 13).toNat) (sl 166 (p 13).toNat) un
  let imax := p 2
  let sq (x : F32) : F32 := Fp.mul x x
  let cpi := Fp.mul (Fp.abs cp) (p 1)
  let cni := Fp.mul cn (p 1)
  let prio := p 8 == 1
  let lim1 := Fp.min (Fp.abs idE) imax
  let ap := if prio then Fp.min cpi (Fp.sqrt (Fp.sub (sq imax) (sq lim1))) else Fp.min cpi imax
  let an := if prio then Fp.min cni (Fp.sub imax (Fp.sqrt (Fp.add (sq lim1) (sq ap)))) else Fp.min cni (Fp.sub imax ap)
  let lim0 := Fp.sqrt (Fp.max Fp.zero (Fp.sub (sq (Fp.sub imax an)) (sq ap)))
  let vn := Fp.mag (e.x 2) (e.x 3)
  let vdq := Fp.park (e.x 2) (e.x 3) (Fp.neg (e.x 4)) (e.x 5)
  let small := Fp.lt vn (Fp.mul (q 1 100) (p 0))
  let idn := if fault && !small then Fp.div (Fp.mul (Fp.neg an) vdq.2) vn else Fp.zero
  let iqn := if fault && !small then Fp.div (Fp.mul an vdq.1) vn else Fp.zero
  let iqp := if fault then Fp.mul (Fp.neg ap) (Fp.sgn cp) else Fp.zero
  let idLim := match new with
    | 0 => Fp.canon imax
    | 3 => Fp.min (Fp.add limPrev (Fp.mul (Fp.mul (p 7) (p 1)) e.ts)) imax
    | 4 => Fp.zero
    | _ => if prio then lim1 else lim0
  let tOut := if fault then runsTime r.2.1 e.ts else Fp.openVal 310 [up, un, wN e.frame]
  let trip := if new = 4 then r.2.2 else 0
  let fires := trip != 0 && st0 != 4
  let h := if fault && new == st0 && ok then h0 + 1 else 0
  { outs := [wN new, iqp, idn, iqn, idLim, up, tOut, wN trip].map some
    st := [wN new, wN r.2.1, wN h, e.x 7, idE, idLim, wN trip], words := []
    fe := if fires then some ((p 9).toNat, wN trip) else none }

/-! ### Islanding (R174, R175) -/

/-- A criterion that must hold for a time without a break: its run counter and whether it trips. -/
def heldTimer (cond : Bool) (n : Nat) (ts lim : F32) : Nat × Bool :=
  if cond then (Nat.min (n + 1) (2 ^ 31), Fp.le lim (runsTime n ts)) else (0, false)

/-- A run of ISLAND_PASSIVE. State words: trip, φ_lp, sum of f, runs summed, the previous mean, whether there is one, the four timers, rocof. -/
def runIslPassive (e : BlkEnv) : BlkOut :=
  let p := e.pa
  let blk := e.x 4 != 0
  let mask := (p 11).toNat
  let trip0 := (e.s 0).toNat
  let up := Fp.div (Fp.mag (e.x 0) (e.x 1)) (p 1)
  let f := e.x 3
  let phi := Fp.wrapPi (Fp.sub (Fp.atan2 (e.x 1) (e.x 0)) (e.x 2))
  let lp0 := if blk then Fp.zero else e.s 1
  let lp := lowStep (Fp.div Fp.one (p 0)) e.ts phi lp0
  let vs := Fp.sub phi lp
  let win := (p 3).toNat
  let n := (e.s 3).toNat + 1
  let sum := Fp.add (e.s 2) f
  let full := decide (win ≤ n)
  let mean := Fp.div sum (Fp.ofNat win)
  let judged := full && e.s 5 == 1
  let rocof := if judged then Fp.div (Fp.sub mean (e.s 4)) (Fp.mul (Fp.ofNat win) e.ts) else e.s 10
  let tU := heldTimer (Fp.lt f (p 5)) (e.s 6).toNat e.ts (p 7)
  let tO := heldTimer (Fp.gt f (p 6)) (e.s 7).toNat e.ts (p 7)
  let tL := heldTimer (!blk && Fp.lt up (p 8)) (e.s 8).toNat e.ts (p 10)
  let tH := heldTimer (!blk && Fp.gt up (p 9)) (e.s 9).toNat e.ts (p 10)
  let b (i : Nat) (c : Bool) : Nat := if c && mask.testBit i then 2 ^ i else 0
  let new := b 0 (!blk && judged && Fp.gt (Fp.abs rocof) (p 2)) ||| b 1 (!blk && Fp.gt (Fp.abs vs) (p 4)) ||| b 2 tU.2 ||| b 3 tO.2
    ||| b 4 tL.2 ||| b 5 tH.2
  let trip := trip0 ||| new
  let avg : List Word := if blk then [0, 0, 0, 0] else if full then [0, 0, mean, 1] else [sum, wN n, e.s 4, e.s 5]
  { outs := [some (wN trip), if blk then none else some rocof, if blk then none else some vs]
    st := [wN trip, if blk then 0 else lp] ++ avg ++ [wN tU.1, wN tO.1, wN tL.1, wN tH.1, if blk then e.s 10 else rocof], words := []
    fe := if trip0 = 0 && trip != 0 then some ((p 12).toNat, wN trip) else none }

/-- The first run index at or after the m-th step's time m × STEP_PERIOD (R175), Ts being `tsNs` ns. -/
def stepStart (period : F32) (tsNs m : Nat) : Nat :=
  let r := Fp.toScaled period * m * 1000000000
  ceilDiv r.toNat (tsNs * 2 ^ 160)

/-- A natural number of up to 64 bits in two state words, the low one first. -/
def n64 (lo hi : Word) : Nat := lo.toNat + 2 ^ 32 * hi.toNat

/-- A run of ISLAND_ACTIVE. State words: run index, next step's number (low words), running step's runs (0 none), the two sums, consecutive steps above the
limit, trip, z_step, and the high words of the first two. -/
def runIslActive (e : BlkEnv) : BlkOut :=
  let p := e.pa
  let blk := e.x 3 != 0
  let k := n64 (e.s 0) (e.s 8)
  let m := Nat.max (n64 (e.s 1) (e.s 9)) 1
  let m' (due : Bool) : Nat := if due then m + 1 else m
  let len := (p 5).toNat
  let half := len / 2
  let up := Fp.div (Fp.mag (e.x 1) (e.x 2)) (q 56338 100)
  let tsNs := e.n * e.p * 2
  let start := stepStart (p 6) tsNs m
  let due := k == start
  let begins := due && !blk
  let running := (e.s 2).toNat
  let idx := if begins then 1 else if blk then 0 else running
  let inStep := idx != 0
  let pre := !inStep && decide (k < start) && decide (start ≤ k + half)
  let s1 := if pre then (if k + half = start then up else Fp.add (e.s 3) up) else e.s 3
  let late := inStep && decide (half < idx)
  let s2 := if late then (if idx = half + 1 then up else Fp.add (e.s 4) up) else e.s 4
  let ends := inStep && decide (len ≤ idx)
  let mean (s : F32) : F32 := Fp.div s (Fp.ofNat half)
  let z := if ends then Fp.div (Fp.mul (Fp.abs (Fp.sub (mean s2) (mean s1))) (q 56338 100)) (p 4) else e.s 7
  let above := ends && Fp.gt z (p 7)
  let cnt := if blk then 0 else if ends then (if above then Nat.min ((e.s 5).toNat + 1) 2 else 0) else (e.s 5).toNat
  let trip := e.s 6 == 1 || (ends && decide (2 ≤ cnt))
  let dth := if blk then Fp.zero else Fp.mul Fp.tau (Fp.clamp (Fp.mul (p 2) (Fp.sub (e.x 0) (p 0))) (Fp.neg (p 3)) (p 3))
  let fires := trip && e.s 6 == 0
  { outs := [some dth, some (if inStep then Fp.canon (p 4) else Fp.zero), if ends then some z else none, some (ofB trip)]
    st := [wN (k + 1), wN (m' due), wN (if inStep && !ends then idx + 1 else 0), s1, s2, wN cnt, ofB trip, z, wN ((k + 1) / 2 ^ 32), wN (m' due / 2 ^ 32)]
    words := []
    fe := if fires then some ((p 8).toNat, 1) else none }

/-! ### Impedance identification (R177 to R180) -/

/-- The taps of the feedback polynomial of an order, as a mask of stages (R177). -/
def lfsrTaps (order : Nat) : List Nat :=
  match order with
  | 10 => [10, 7]
  | 11 => [11, 9]
  | 12 => [12, 11, 10, 4]
  | 13 => [13, 12, 11, 8]
  | 14 => [14, 13, 12, 2]
  | 15 => [15, 14]
  | _ => [16, 15, 13, 4]

/-- One advance of the Fibonacci register: stage 1 takes the sum of the taps; the chip is the last stage. -/
def lfsrNext (order v : Nat) : Nat :=
  let fb := (lfsrTaps order).foldl (fun acc t => (acc + (v / 2 ^ (t - 1)) % 2) % 2) 0
  (v * 2 + fb) % 2 ^ order

/-- A number of advances. -/
def lfsrAdvance (order : Nat) : Nat → Nat → Nat
  | 0, v => v
  | n + 1, v => lfsrAdvance order n (lfsrNext order v)

/-- The frequency of point m in fixed point: 10 Hz × 500^(m/95) (R178). -/
def identFreq (m : Nat) : Int :=
  let r := Fp.fixExp ((m : Int) * Fp.fixLnRat 500 1 / 95)
  10 * r.1 * 2 ^ r.2.toNat

/-- h_j × e^(−j2πft) at an offset of `off` frames of P fc, the sub-window being `sub` frames: real and imaginary part, each the nearest FP32 (log entry
44). -/
def identCoef (m p off sub : Nat) : F32 × F32 :=
  let ang := Fp.fixMul (2 * Fp.fixPi) (identFreq m * ((off * p * 2 : Nat) : Int) / 1000000000)
  let sc := Fp.fixSinCos ang
  let hann := (Fp.fix1 - (Fp.fixSinCos (2 * Fp.fixPi * ((off % sub : Nat) : Int) / (sub : Int))).2) / 2
  (Fp.ofFix (Fp.fixMul hann sc.2), Fp.ofFix (-(Fp.fixMul hann sc.1)))

/-- Complex product added to an accumulator: acc + (a + jb)(c + jd). -/
def cmac (acc : F32 × F32) (a b c d : F32) : F32 × F32 :=
  (Fp.add acc.1 (Fp.sub (Fp.mul a c) (Fp.mul b d)), Fp.add acc.2 (Fp.add (Fp.mul a d) (Fp.mul b c)))

/-- Frames from IDENT_INJ's first run to its previous one, by its window counters: whole windows, and frames into the window, which a mirror's correction may
leave outside the window's range (R336). -/
def identWas (winLen : Nat) (s : Nat → Word) : Nat := ((s 3).toNat * winLen + (s 1).toInt).toNat

/-- Frames from IDENT_INJ's first run to a frame, by its state words: they are counted from one of its runs to the next. -/
def identPos (winLen : Nat) (s : Nat → Word) (frame : Nat) : Nat := if s 0 = 0 then 0 else identWas winLen s + (frame + 2 ^ 32 - (s 2).toNat) % 2 ^ 32

/-- A run of IDENT_INJ (R177 to R179). State words: has run, the frames into the window at its previous run, previous frame, the number of that window (the
window counters, R336), the present window valid so far, shift register, the previous window valid, then four sums of each point of the sub-window in progress, then the four
words of each point of the sub-window that ended. A window whose first frame the block does not run in begins, with a register of all ones, in that frame all the
same. -/
def runIdentInj (e : BlkEnv) : BlkOut :=
  let p := e.pa
  let on := e.x 6 != 0 && e.x 7 == 0
  let ran := e.s 0 != 0
  let seg := (p 5).toNat
  let winLen := (p 6).toNat * seg
  let was := identWas winLen e.s
  let pos := identPos winLen e.s e.frame
  let sub := winLen / 10
  let w := pos / winLen
  let off := pos % winLen
  let newWin := !ran || w != was / winLen
  let valid := on && (if newWin then off == 0 else e.s 4 == 1 && pos == was + 1)
  let lastValid := if newWin then ran && e.s 4 == 1 && was + 1 == w * winLen else e.s 6 == 1
  let ord := (p 2).toNat
  let chipF := (p 3).toNat
  let reg := if newWin then lfsrAdvance ord (off / chipF) (2 ^ ord - 1)
    else lfsrAdvance ord (off / chipF - was % winLen / chipF) (e.s 5).toNat
  let chip := if (reg / 2 ^ (ord - 1)) % 2 = 1 then Fp.canon (p 1) else Fp.neg (p 1)
  let alpha := (p 4).toNat == 0 || ((p 4).toNat == 2 && w % 2 == 0)
  let inj := Fp.park (if alpha then chip else Fp.zero) (if alpha then Fp.zero else chip) (e.x 4) (e.x 5)
  let subOff := off % sub
  let newSub := !ran || pos / sub != was / sub
  let acc (m : Nat) : List Word :=
    let base (j : Nat) : Word := if newSub then 0 else e.s (7 + 4 * m + j)
    let c := identCoef m e.p off sub
    let v := cmac (base 0, base 1) (e.x 0) (e.x 1) c.1 c.2
    let i := cmac (base 2, base 3) (e.x 2) (e.x 3) c.1 c.2
    [v.1, v.2, i.1, i.2]
  let sums := (List.range 96).flatMap acc
  let done := (List.range 384).map (fun j => e.s ((if newSub then 7 else 391) + j))
  -- in the 96 frames after a sub-window ends, the words of point m go out in frame m (R178)
  let prevSub := (pos / sub + 9) % 10
  let posts := decide (sub ≤ pos) && decide (subOff < 96)
  let words := if posts then (List.range 4).map (fun j => ({ dst := .ident ((prevSub * 96 + subOff) * 4 + j), val := nth 0 done (4 * subOff + j) } : PWord)) else []
  { outs := [some (if on then inj.1 else Fp.zero), some (if on then inj.2 else Fp.zero), some (ofB on), some (wN w)]
    st := [1, wN off, wN e.frame, wN w, ofB valid, wN reg, ofB lastValid] ++ sums ++ done
    words := words, fe := none }

/-- The frequency of a point with a fractional part added to its index (R180). -/
def identF (b : F32) : F32 := Fp.mul (q 10 1) (Fp.exp (Fp.mul (Fp.div b (q 95 1)) (Fp.ofFix (Fp.fixLnRat 500 1))))

/-- The first crossing of `lim` from point b downward or upward, by interpolation in ln f between neighbours that meet the coherence limit. -/
def findCross (z : List F32) (ok : List Bool) (lim : F32) (up : Bool) : Nat → Nat → Option F32
  | 0, _ => none
  | fuel + 1, i =>
    if (up && i == 95) || (!up && i == 0) then none
    else
      let j := if up then i + 1 else i - 1
      if !nth false ok j then none
      else
        let zi := nth 0 z i
        let zj := nth 0 z j
        if Fp.le zj lim then
          let t := Fp.div (Fp.sub zi lim) (Fp.sub zi zj)
          some (identF (if up then Fp.add (Fp.ofNat i) t else Fp.sub (Fp.ofNat i) t))
        else findCross z ok lim up fuel j

/-- The frequency of a point as FP32. -/
def pointF (m : Nat) : F32 := Fp.ofFix (identFreq m)

/-- The larger of two peaks of the chain of R180, each a point's index and zmag; the first where they are equal. -/
def higher (a b : Option (Nat × F32)) : Option (Nat × F32) :=
  match a, b with
  | none, b => b
  | a, none => a
  | some x, some y => if Fp.gt y.2 x.2 then some y else some x

/-- The largest zmag among points that meet the coherence limit: `first` is the index of the first point of the list. -/
def peakOf (first : Nat) (pts : List (F32 × Bool)) : Option (Nat × F32) :=
  (List.range pts.length).foldl (fun b i => let t := nth (0, false) pts i; if t.2 then higher b (some (first + i, t.1)) else b) none

/-- The chain word cq that PART 0 to 10 pass on: R180 does not say what it holds; it is free, and finite, so that it holds up no reader (log entry 44). -/
def chainQ (args : List Word) : Word := let v := Sys2Proof.Config.openResult 331 args; if Fp.isFinite v then v else 0

/-- A run of IDENT_SOLVE (R180). State words: sub-windows taken (low word), the sums S_vi, S_ii, S_vv of the eight points, the high word of the first. A
block that starts within a window waits for the next. The chain passes on the peak among the points so far: f_res its frequency, z_res its zmag, valid whether
there is one; PART 11 reads the other points' results beside it (DEDUCED, log entry 44). -/
def runIdentSolve (e : BlkEnv) : BlkOut :=
  let part := (e.pa 0).toNat
  let inj (i : Nat) : Word := nth 0 e.injSt i
  let seg := (nth 0 e.injPar 5).toNat
  let winLen := (nth 0 e.injPar 6).toNat * seg
  let sub := winLen / 10
  if inj 0 = 0 || sub = 0 then e.hold
  else
    let pos := identPos winLen inj e.frame
    -- sub-windows that ended at least SEG frames ago
    let ready := if pos < seg then 0 else (pos - seg) / sub
    let had := n64 (e.s 0) (e.s 33)
    let taken := if e.first || ready < had then ceilDiv ready 10 * 10 else had
    let pt (sw m j : Nat) : Word := (assocGet ((((sw % 10) * 96) + 8 * part + m) * 4 + j) e.buf).getD 0
    let add (acc : List Word) (sw : Nat) : List Word :=
      (List.range 8).flatMap (fun m =>
        let b (j : Nat) : Word := if sw % 10 = 0 then 0 else nth 0 acc (4 * m + j)
        let vr := pt sw m 0; let vi := pt sw m 1; let ir := pt sw m 2; let ii := pt sw m 3
        let s := cmac (b 0, b 1) vr vi ir (Fp.neg ii)
        [s.1, s.2, Fp.add (b 2) (Fp.add (Fp.mul ir ir) (Fp.mul ii ii)), Fp.add (b 3) (Fp.add (Fp.mul vr vr) (Fp.mul vi vi))])
    let n := if ready > taken then Nat.min (ready - taken) 10 else 0
    let sums0 : List Word := (List.range 32).map (fun j => e.s (1 + j))
    let steps := (List.range n).map (fun i => taken + i)
    -- the window that closes in this run is the one whose tenth sub-window is taken now
    let closes := steps.any (fun s => s % 10 == 9)
    let r := steps.foldl (fun (acc : List Word × List Word) s => let a := add acc.1 s; (a, if s % 10 = 9 then a else acc.2)) (sums0, sums0)
    let st := wN (taken + n) :: (r.1 ++ [wN ((taken + n) / 2 ^ 32)])
    if !closes then { e.hold with st := st }
    else
      let w := (taken + n) / 10 - 1
      let valid := if identWas winLen inj / winLen = w then inj 4 == 1 else inj 6 == 1
      let f := r.2
      let point (m : Nat) : F32 × F32 × F32 :=
        let sr := nth 0 f (4 * m); let si := nth 0 f (4 * m + 1); let sii := nth 0 f (4 * m + 2); let svv := nth 0 f (4 * m + 3)
        let a2 := Fp.add (Fp.mul sr sr) (Fp.mul si si)
        (Fp.div (Fp.sqrt a2) sii, Fp.atan2 si sr, Fp.div a2 (Fp.mul svv sii))
      let pts := (List.range 8).map point
      let outs8 : List (Option Word) := pts.flatMap (fun t => if valid then [some t.1, some t.2.1, some t.2.2] else [none, none, some Fp.zero])
      let own : List (F32 × Bool) := pts.map (fun t => (t.1, valid && Fp.ge t.2.2 (e.pa 1)))
      let chain : Option (Nat × F32) := if part = 0 || e.x 3 = 0 then none
        else ((List.range 96).find? (fun m => pointF m == e.x 0)).map (fun m => (m, e.x 2))
      let peak := higher chain (peakOf (8 * part) own)
      if part != 11 then
        let c : F32 × F32 × Word := match peak with | none => (Fp.zero, Fp.zero, 0) | some b => (pointF b.1, b.2, 1)
        { outs := outs8 ++ [some c.1, some (chainQ [wN part, wN w, nth 0 f 0, e.x 1]), some c.2.1, some (wN w), some c.2.2], st := st, words := [], fe := none }
      else
        let all : List (F32 × Bool) := (List.range 11).flatMap (fun k => (List.range 8).map (fun m =>
          let o := nth [] e.parts k
          (nth 0 o (3 * m), Fp.ge (nth 0 o (3 * m + 2)) (nth 0 e.cohMin k)))) ++ own
        let z := all.map (·.1)
        let ok := all.map (·.2)
        let bad : BlkOut := { outs := outs8 ++ [none, none, none, some (wN w), some 0], st := st, words := [], fe := none }
        match peak with
        | none => bad
        | some (b, zb) =>
          if !valid || b = 0 || b = 95 || !nth false ok (b - 1) || !nth false ok (b + 1) then bad
          else
            let lim := Fp.div zb (Fp.sqrt Fp.two)
            match findCross z ok lim false 96 b, findCross z ok lim true 96 b with
            | some lo, some hi =>
              let l (i : Nat) : F32 := Fp.ln (if i = b then zb else nth 0 z i)
              let den := Fp.add (Fp.sub (l (b - 1)) (Fp.mul Fp.two (l b))) (l (b + 1))
              let dl := Fp.mul Fp.half (Fp.div (Fp.sub (l (b - 1)) (l (b + 1))) den)
              let fr := identF (Fp.add (Fp.ofNat b) dl)
              { outs := outs8 ++ [some fr, some (Fp.div fr (Fp.sub hi lo)), some zb, some (wN w), some 1], st := st, words := [], fe := none }
            | _, _ => bad

/-- A run of a block of the grid library with finite inputs. -/
def runGrid (e : BlkEnv) : BlkOut :=
  match e.rec_.typ with
  | 0x2001 => runSeqSep e
  | 0x2002 => runPll e
  | 0x2003 => runCurrent e
  | 0x2004 => runFollowGrid e
  | 0x2005 => runVsm e
  | 0x2006 => runFrt e
  | 0x2007 => runIslPassive e
  | 0x2008 => runIslActive e
  | 0x2009 => runIdentInj e
  | _ => runIdentSolve e

end Sys2Proof.Machine
end

