-- ==== Sys2Proof/Machine/BlkSrc.lean ====
section
/-! DEFINITION. Machine/BlkSrc.lean: one run of a block of the source library (R184 to R202), and the choice of the run function by block type. -/

namespace Sys2Proof.Machine

/-- Largest and smallest of three. -/
def max3 (a b c : F32) : F32 := Fp.max (Fp.max a b) c
def min3 (a b c : F32) : F32 := Fp.min (Fp.min a b) c

/-- The healthy legs' count and the sum of their currents (R189). -/
def legSum (ok : Word) (is : List F32) : Nat × F32 :=
  let l := ((List.range is.length).filter (fun j => tbit ok j)).map (fun j => nth 0 is j)
  (l.length, Fp.sumL l)

/-- A run of PMSG_FOC (R189 to R191). State words: xd, xq of A and B, xfw, sat, the limited command of the last run. -/
def runPmsg (e : BlkEnv) : BlkOut :=
  let p := e.pAct
  let pb := e.pIna
  let l := (e.ins.length - 8) / 3
  let legs (i : Nat) : List F32 := (e.ins.drop (8 + i * l)).take l
  let u := legSum (e.x 5) (legs 0)
  let v := legSum (e.x 6) (legs 1)
  let w := legSum (e.x 7) (legs 2)
  let im (s : Nat × F32) : F32 := if s.1 = 0 then Fp.zero else Fp.div s.2 (Fp.ofNat s.1)
  let cl := Fp.clarke u.2 v.2 w.2
  let sn := Fp.sin (e.x 1)
  let cs := Fp.cos (e.x 1)
  let i := Fp.park cl.1 cl.2.1 sn cs
  let om := e.x 2
  let vdc := e.x 3
  let blk := e.x 4 != 0
  let imax := Fp.mul (p 10) (Fp.ofNat (Nat.min u.1 (Nat.min v.1 w.1)))
  let teff := Fp.clamp (Fp.sub (e.x 0) (Fp.mul (p 16) (Fp.max Fp.zero (Fp.sub vdc (p 15))))) (Fp.neg (p 14)) (p 14)
  let pp := Fp.ofNat (p 3).toNat
  let xfw0 := e.s 4
  let idRef := xfw0
  let kt := Fp.mul (Fp.mul (q 3 2) pp) (Fp.add (p 7) (Fp.mul (Fp.sub (p 5) (p 6)) idRef))
  let iqlim := Fp.sqrt (Fp.max Fp.zero (Fp.sub (Fp.mul imax imax) (Fp.mul idRef idRef)))
  let want := Fp.div (Fp.neg teff) kt
  let c := clampSat want (Fp.neg iqlim) iqlim
  let limQ := Fp.lt want (Fp.neg iqlim) || Fp.gt want iqlim
  let iqRef := c.1
  let tAvail := Fp.mul kt iqlim
  let ed := Fp.sub idRef i.1
  let eq := Fp.sub iqRef i.2
  let held := e.s 5 == 2
  let deep (uu err : F32) : Bool := held && Fp.gt (Fp.mul uu err) Fp.zero
  let xd0 := e.s (2 * e.ia)
  let xq0 := e.s (2 * e.ia + 1)
  let int (kx : Word) (x0 uu err : F32) : F32 := if deep uu err then x0 else Fp.add x0 (Fp.mul (Fp.mul kx e.ts) err)
  let xd1 := if blk then Fp.sub (Fp.mul (p 4) i.1) (Fp.mul (p 8) ed) else int (p 9) xd0 (e.s 6) ed
  let xq1 := if blk then Fp.sub (Fp.mul (p 4) i.2) (Fp.mul (p 8) eq) else int (p 9) xq0 (e.s 7) eq
  let ffd (r : Nat → Word) : F32 := Fp.neg (Fp.mul (Fp.mul om (r 6)) i.2)
  let ffq (r : Nat → Word) : F32 := Fp.mul om (Fp.add (Fp.mul (r 5) i.1) (r 7))
  let ud := Fp.add (Fp.add (Fp.mul (p 8) ed) xd1) (ffd p)
  let uq := Fp.add (Fp.add (Fp.mul (p 8) eq) xq1) (ffq p)
  let m := Fp.mag ud uq
  let umax := Fp.div (Fp.mul (p 11) vdc) (Fp.sqrt Fp.three)
  let fw := Fp.min Fp.zero (Fp.max (Fp.neg (p 13)) (Fp.add xfw0 (Fp.mul (Fp.mul (p 12) e.ts) (Fp.sub umax m))))
  let xfw := if blk then xfw0 else fw
  let lim := Fp.gt m umax
  let sc (x : F32) : F32 := if lim then Fp.div (Fp.mul x umax) m else x
  let ab := Fp.invPark (sc ud) (sc uq) sn cs
  let ph := Fp.invClarke ab.1 ab.2 Fp.zero
  let v0 := Fp.div (Fp.neg (Fp.add (max3 ph.1 ph.2.1 ph.2.2) (min3 ph.1 ph.2.1 ph.2.2))) Fp.two
  let duty (x : F32) : F32 :=
    if Fp.lt vdc Fp.one then Fp.half else Fp.clamp (Fp.add Fp.half (Fp.div (Fp.add x v0) vdc)) Fp.zero Fp.one
  let tEst := Fp.mul (Fp.mul (Fp.mul (q (-3) 2) pp) (Fp.add (p 7) (Fp.mul (Fp.sub (p 5) (p 6)) i.1))) i.2
  let sat : Word := if lim || limQ then 2 else 0
  let xa := if lim && !blk then [xd0, xq0] else [xd1, xq1]
  let xb := [Fp.sub (Fp.sub ud (Fp.mul (pb 8) ed)) (ffd pb), Fp.sub (Fp.sub uq (Fp.mul (pb 8) eq)) (ffq pb)]
  BlkOut.all [duty ph.1, duty ph.2.1, duty ph.2.2, im u, im v, im w, i.1, i.2, tEst, tAvail, sat]
    ((if e.actB then xb ++ xa else xa ++ xb) ++ [xfw, if lim then 2 else 0, sc ud, sc uq])

/-- A run of LEG_SHARE (R192). State words: x, c, sat. -/
def runLegShare (e : BlkEnv) : BlkOut :=
  let p := e.pa
  if !tbit (e.x 3) (p 0).toNat then BlkOut.all [Fp.canon (e.x 0), Fp.zero, 0] [0, 0, 0]
  else
    let x := lowStep (p 3) e.ts (Fp.sub (e.x 2) (e.x 1)) (e.s 0)
    let c := if deepens (e.s 2).toNat x then e.s 1 else Fp.add (e.s 1) (Fp.mul (Fp.mul (p 2) e.ts) x)
    let k := clampSat (Fp.add (Fp.mul (p 1) x) c) (Fp.neg (p 4)) (p 4)
    BlkOut.all [Fp.clamp (Fp.add (e.x 0) k.1) Fp.zero Fp.one, k.1, wN k.2] [x, c, wN k.2]

/-- A run of ROTOR_MPPT (R195, R196). State words: has run, runs in the period, sum of p, period invalid, trim, step, direction (1 for −1), have_prev,
the previous mean. -/
def runRotor (e : BlkEnv) : BlkOut :=
  let p := e.pa
  let n := (p 1).toNat
  let tr := p 0
  let start := e.s 0 == 0
  let step0 := if start then Fp.mul (p 72) tr else e.s 5
  let trim0 := e.s 4
  let tc := interp ((e.a.drop 2).take n) ((e.a.drop 34).take n) (e.x 0)
  let tref := min3 (Fp.max (Fp.add tc trim0) Fp.zero) (Fp.div (p 66) (Fp.max (e.x 0) (q 1 100))) (p 67)
  let k := (e.s 1).toNat + 1
  let sum := if k = 1 then Fp.canon (e.x 1) else Fp.add (e.s 2) (e.x 1)
  let inv := (k != 1 && e.s 3 == 1) || e.x 2 != 0 || Fp.lt (e.x 0) (p 68)
  let last := decide ((p 69).toNat ≤ k)
  let pbar := Fp.div sum (Fp.ofNat (p 69).toNat)
  let lim := Fp.mul (p 75) tr
  let cl (t : F32) : F32 := Fp.clamp t (Fp.neg lim) lim
  let mv (dir : Word) (st : F32) : F32 := if dir = 0 then Fp.add trim0 st else Fp.sub trim0 st
  let dir0 := e.s 6
  let shr := Fp.max (Fp.mul step0 (p 74)) (Fp.mul (p 70) tr)
  let flip := 1 - dir0
  -- trim, step, direction, have_prev, previous mean
  let r : F32 × F32 × Word × Word × F32 :=
    if !last then (trim0, step0, dir0, e.s 7, e.s 8)
    else if inv then (trim0, step0, dir0, 0, e.s 8)
    else if e.s 7 = 0 then (cl (mv dir0 step0), step0, dir0, 1, pbar)
    else if Fp.gt pbar (Fp.add (e.s 8) (p 76)) then
      let st := Fp.min (Fp.mul step0 (p 73)) (Fp.mul (p 71) tr)
      (cl (mv dir0 st), st, dir0, 1, pbar)
    else if Fp.lt pbar (Fp.sub (e.s 8) (p 76)) then (cl (mv flip shr), shr, flip, 1, pbar)
    else (cl (mv dir0 shr), shr, dir0, 1, pbar)
  BlkOut.all [tref, tc, r.1, r.2.1, r.2.2.1]
    [1, if last then 0 else wN k, sum, ofB (inv && !last), r.1, r.2.1, r.2.2.1, r.2.2.2.1, r.2.2.2.2]

/-- A run of DC_MPPT (R197, R198). State words: tracking (0 off, 1 tracking, 2 scanning, 3 the last point of a scan has stood its runs), runs in the period, sums of p and v, first period, previous means of p
and v, direction (1 for −1), v_ref, previous scan input, scan point, run within it, sum of its power, best voltage and power of the scan, published v_best, p_best. -/
def runDcMppt (e : BlkEnv) : BlkOut :=
  let p := e.pa
  let pw := Fp.mul (e.x 0) (e.x 1)
  let en := e.x 2 != 0
  let vinit := Fp.canon (p 2)
  if !en then
    BlkOut.all [vinit, pw, e.s 15, e.s 16, 0] ([0, 0, 0, 0, 1, 0, 0, 0, vinit, e.x 3, 0, 0, 0, 0, 0] ++ [e.s 15, e.s 16])
  else
    let was := (e.s 0).toNat
    let ended := was == 3
    let vBest := if ended then e.s 13 else e.s 15
    let pBest := if ended then e.s 14 else e.s 16
    let vref0 := if was = 0 then vinit else if ended then vBest else e.s 8
    let edge := e.x 3 != 0 && e.s 9 == 0
    let begins := was == 1 && edge
    if was = 2 || begins then
      let k := if begins then 0 else (e.s 10).toNat
      let r := if begins then 0 else (e.s 11).toNat
      let dwell := (p 9).toNat
      let vp (j : Nat) : F32 := Fp.add (p 7) (Fp.div (Fp.mul (Fp.ofNat j) (Fp.sub (p 8) (p 7))) (q 63 1))
      let acc := if r < dwell / 2 then Fp.zero else Fp.add (e.s 12) pw
      let endPt := decide (dwell ≤ r + 1)
      let mean := Fp.div acc (Fp.ofNat (dwell / 2))
      let better := k == 0 || Fp.gt mean (e.s 14)
      let bv := if endPt && better then vp k else e.s 13
      let bp := if endPt && better then mean else e.s 14
      let fin := endPt && k == 63
      let st : List Word := [if fin then 3 else 2, 0, 0, 0, 1, 0, 0, e.s 7, vp k, e.x 3, wN (if endPt then k + 1 else k), wN (if endPt then 0 else r + 1),
        if endPt then 0 else acc, bv, bp, e.s 15, e.s 16]
      BlkOut.all [vp k, pw, e.s 15, e.s 16, 2] st
    else
      let k := (e.s 1).toNat + 1
      let sp := if k = 1 then pw else Fp.add (e.s 2) pw
      let sv := if k = 1 then Fp.canon (e.x 0) else Fp.add (e.s 3) (e.x 0)
      let per := (p 6).toNat
      let last := decide (per ≤ k)
      let firstP := was == 0 || e.s 4 == 1
      let pbar := Fp.div sp (Fp.ofNat per)
      let vbar := Fp.div sv (Fp.ofNat per)
      let dp := Fp.sub pbar (e.s 5)
      let dv := Fp.sub vbar (e.s 6)
      let dir0 : Word := if was = 0 then 0 else e.s 7
      let dir := if last && !firstP && Fp.lt dp Fp.zero then 1 - dir0 else dir0
      let step := Fp.min (Fp.max (Fp.div (Fp.mul (p 5) (Fp.abs dp)) (Fp.max (Fp.abs dv) (p 3))) (p 3)) (p 4)
      let moved := Fp.clamp (if dir = 0 then Fp.add vref0 step else Fp.sub vref0 step) (p 0) (p 1)
      let vref := if last && !firstP then moved else vref0
      BlkOut.all [vref, pw, vBest, pBest, 1]
        [1, if last then 0 else wN k, sp, sv, ofB (firstP && !last), if last then pbar else e.s 5, if last then vbar else e.s 6, dir, vref, e.x 3, 0, 0, 0, 0, 0,
         vBest, pBest]

/-- A run of CHOPPER (R199, R202). State words: e_r, limiting. -/
def runChopper (e : BlkEnv) : BlkOut :=
  let p := e.pa
  let vdc := e.x 0
  let d0 := if e.x 1 != 0 then Fp.clamp (Fp.div (Fp.sub vdc (p 0)) (Fp.sub (p 1) (p 0))) Fp.zero Fp.one else Fp.zero
  let d := if e.s 1 = 1 then Fp.zero else d0
  let er := Fp.add (e.s 0) (Fp.mul e.ts (Fp.sub (Fp.div (Fp.mul (Fp.mul d vdc) vdc) (p 2)) (Fp.div (e.s 0) (p 4))))
  let l1 := e.s 1 == 1 || Fp.ge er (p 3)
  let lim := l1 && !Fp.lt er (Fp.mul (p 5) (p 3))
  { outs := [some d, some er, some (ofB lim)], st := [er, ofB lim], words := []
    fe := if lim && e.s 1 == 0 then some ((p 6).toNat, 1) else none }

/-- A run of EMF_OBSERVER (R200 to R202). State words: has run, previous iα and iβ, xo, wo, θo, runs of cause 2, src, trip. -/
def runEmf (e : BlkEnv) : BlkOut :=
  let p := e.pa
  let blk := e.x 7 != 0
  let start := e.s 0 == 0
  let ia0 := if start then e.x 2 else e.s 1
  let ib0 := if start then e.x 3 else e.s 2
  let ea := Fp.sub (Fp.sub (e.x 0) (Fp.mul (p 1) (e.x 2))) (Fp.div (Fp.mul (p 2) (Fp.sub (e.x 2) ia0)) e.ts)
  let eb := Fp.sub (Fp.sub (e.x 1) (Fp.mul (p 1) (e.x 3))) (Fp.div (Fp.mul (p 2) (Fp.sub (e.x 3) ib0)) e.ts)
  let m := Fp.mag ea eb
  let upd := !blk && Fp.gt m Fp.zero
  let th0 := e.s 5
  let eps := Fp.div (Fp.mul (Fp.sgn1 (e.s 4)) (Fp.sub (Fp.mul (Fp.neg ea) (Fp.cos th0)) (Fp.mul eb (Fp.sin th0)))) m
  let xo := if upd then Fp.add (e.s 3) (Fp.mul (Fp.mul (p 5) e.ts) eps) else e.s 3
  let wo := if upd then Fp.add (Fp.mul (p 4) eps) xo else e.s 4
  let tho := Fp.modTau (Fp.add th0 (Fp.mul wo e.ts))
  let pp := Fp.ofNat (p 0).toNat
  let thEnc := Fp.modTau (Fp.add (Fp.mul pp (e.x 4)) (p 3))
  let dev := Fp.wrapPi (Fp.sub thEnc tho)
  let we := Fp.mul pp (e.x 5)
  let fast := Fp.ge (Fp.abs wo) (p 6)
  let src0 := (e.s 7).toNat
  let trip0 := (e.s 8).toNat
  let run := if !blk && fast && Fp.gt (Fp.abs dev) (p 7) then Nat.min ((e.s 6).toNat + 1) 100000 else 0
  let c1 := !blk && e.x 6 == 0
  let c2 := !blk && decide ((p 8).toNat ≤ run)
  let fails := (c1 || c2) && trip0 == 0
  let trip := if !fails then trip0 else if !fast then 3 else if c1 then 1 else 2
  let src := if fails && fast && p 9 == 1 then 1 else src0
  { outs := [tho, wo, if src = 1 then tho else thEnc, if src = 1 then wo else we, dev, wN src, wN trip].map some
    st := [1, e.x 2, e.x 3, xo, wo, tho, wN run, wN src, wN trip], words := []
    fe := if fails then some ((p 10).toNat, wN trip) else none }

/-- A run of a block of the source library with finite inputs. -/
def runSource (e : BlkEnv) : BlkOut :=
  match e.rec_.typ with
  | 0x3001 => runPmsg e
  | 0x3002 => runLegShare e
  | 0x3003 => runSpeed e
  | 0x3004 => runRotor e
  | 0x3005 => runDcMppt e
  | 0x3006 => runChopper e
  | _ => runEmf e

/-- One run of a block on an engine. With a non-finite FP32 input, an A/B block, a grid block or a source block changes no state, holds its outputs and sets its
sat output to 3 (R133, R159); rq of CURRENT_DQ is 0. -/
def runBlock (e : BlkEnv) : BlkOut :=
  let t := e.rec_.typ
  if (fpIns e.rec_ e.a).any (fun i => !Fp.isFinite (e.x i)) then
    let o := match satOut t with
      | none => e.hold.outs
      | some i => upd e.hold.outs i (fun _ => some 3)
    { e.hold with outs := if t = 0x2003 then upd o 7 (fun _ => some 0) else o }
  else if t = 0x0F00 then runFormula e
  else if t < 0x1000 then runGeneric e
  else if t < 0x2000 then runLoop e
  else if t < 0x3000 then runGrid e
  else if t < 0x4000 then runSource e
  else match t with
    | 0x4004 => runThresh e
    | 0x4005 => runUrg e
    | 0x4007 => runPwmOut e
    | 0x4008 => runPwmEdges e
    | _ => e.hold

end Sys2Proof.Machine
end

