-- ==== Sys2Proof/Machine/Place.lean ====
section
/-! DEFINITION. Machine/Place.lean: how the Placer forms tasks, assigns them to engines and gives signals their homes, and the limits a placed graph
must meet (R77 to R79, R110 to R113, R115, R128). -/

namespace Sys2Proof.Machine

/-- A block record that stands for none. -/
def BlkRec.none_ : BlkRec :=
  { id := 0, typ := 0, ins := [], outs := [], rate := 0, noShare := false, sheddable := false, trigger := 0xFFFF, pIdx := 0, nPar := 0, ops := [] }

/-- A task that stands for none. -/
def Task.none_ : Task := { blks := [], rate := 0, trig := 0xFFFF, noShare := false, eng := 64 }

/-- A graph with its set A words, the writer of each signal (block and output), and the frame period. -/
structure GF where
  g : Graph
  par : List Word
  wr : List (Option (Nat × Nat))
  p : Nat
  deriving DecidableEq, Repr

/-- The writer of a signal. -/
def Graph.writerOf (g : Graph) (s : Nat) : Option (Nat × Nat) :=
  (List.range g.blks.length).findSome? (fun j => match g.blks[j]? with
    | none => none
    | some b => if b.outs.contains s then some (j, b.outs.idxOf s) else none)

/-- The facts of a graph. -/
def Graph.facts (g : Graph) (par : List Word) (p : Nat) : GF :=
  { g := g, par := par, wr := (List.range g.sigs.length).map g.writerOf, p := p }

/-- Block `j`. -/
def GF.blk (F : GF) (j : Nat) : BlkRec := nth BlkRec.none_ F.g.blks j
/-- The set A words of block `j`. -/
def GF.words (F : GF) (j : Nat) : List Word := (F.par.drop (F.blk j).pIdx).take (F.blk j).nPar
/-- Is block `j` an input block? -/
def GF.input (F : GF) (j : Nat) : Bool := isInput (F.blk j).typ
/-- The rate entry N, K of block `j`. -/
def GF.rate (F : GF) (i : Nat) : Nat × Nat := nth (1, 0) F.g.rates i
/-- The writer of a signal through an output that is not delayed. -/
def GF.live (F : GF) (s : Nat) : Option Nat :=
  match nth none F.wr s with
  | none => none
  | some (j, k) => if (delayedOuts (F.blk j)).contains k then none else some j
/-- The blocks whose outputs block `j` reads, not through delayed outputs. -/
def GF.reads (F : GF) (j : Nat) : List Nat := ((F.blk j).ins.filterMap F.live).eraseDups
/-- May the two blocks run in one frame (R79)? -/
def GF.sameFrame (F : GF) (w r : Nat) : Bool :=
  let a := F.rate (F.blk w).rate
  let b := F.rate (F.blk r).rate
  !(a.1 == b.1 && a.2 != b.2)
/-- The blocks whose results block `j` waits for: those in the same frame that run on engines (R79, R80). -/
def GF.waits (F : GF) (j : Nat) : List Nat := (F.reads j).filter (fun w => !F.input w && F.sameFrame w j)

/-- Topological order of blocks, ties by ascending INSTANCE_ID (R110); shorter than the graph where there is a cycle (R56). -/
def GF.topo (F : GF) : Nat → List Nat → List Nat → List Nat
  | 0, _, done => done
  | fuel + 1, todo, done =>
    match minBy? (fun j => (F.blk j).id) (todo.filter (fun j => (F.reads j).all (fun w => done.contains w))) with
    | none => done
    | some j => GF.topo F fuel (todo.erase j) (done ++ [j])

/-- The whole order. -/
def GF.order (F : GF) : List Nat := let n := F.g.blks.length; F.topo n (List.range n) []

/-! ### Forming tasks (R110) -/

/-- The task of a block, by index. -/
def taskOf (ts : List Task) (j : Nat) : Option Nat := (List.range ts.length).find? (fun i => (nth Task.none_ ts i).blks.contains j)

/-- The tasks that task `i` reads from. -/
def GF.taskReads (F : GF) (ts : List Task) (i : Nat) : List Nat :=
  (((nth Task.none_ ts i).blks.flatMap F.reads).filterMap (taskOf ts)).eraseDups.filter (fun k => k != i)

/-- Does task `a` read from task `b`, directly or through others? -/
def GF.depends (F : GF) (ts : List Task) : Nat → List Nat → Nat → Bool
  | 0, _, _ => false
  | fuel + 1, front, b =>
    if front.isEmpty then false
    else if front.contains b then true
    else GF.depends F ts fuel ((front.flatMap (F.taskReads ts)).eraseDups) b

/-- Would the join of block `j` to task `c` close a cycle among tasks (R110)? -/
def GF.joinCycles (F : GF) (ts : List Task) (c j : Nat) : Bool :=
  let n := ts.length + 1
  let xs := ((F.reads j).filterMap (taskOf ts)).eraseDups.filter (fun k => k != c)
  let ys := (List.range ts.length).filter (fun i => i != c && (nth Task.none_ ts i).blks.any (fun k => (F.reads k).contains j))
  xs.any (fun x => F.depends ts n [x] c) || ys.any (fun y => F.depends ts n [c] y)

/-- The formation cost of a task: 16 fc and the published costs of its blocks. -/
def GF.formCost (F : GF) (t : Task) : Nat := 16 + sumOf (t.blks.map (fun j => blkCost (F.blk j) (F.words j)))

/-- Block `j` joins the task of its input 0's writer or opens a new one; tasks before `fresh` may not grow (R110, R128). -/
def GF.formOne (F : GF) (fresh : Nat) (ts : List Task) (j : Nat) : List Task :=
  let b := F.blk j
  let alone := b.noShare || F.input j
  let opened := ts ++ [{ blks := [j], rate := b.rate, trig := b.trigger, noShare := alone, eng := 64 }]
  if alone then opened
  else
    match b.ins.head?.bind (fun s => nth none F.wr s) with
    | none => opened
    | some (w, _) =>
      match taskOf ts w with
      | none => opened
      | some c =>
        let t := nth Task.none_ ts c
        let grown := { t with blks := t.blks ++ [j] }
        if fresh ≤ c && !t.noShare && t.blks.getLast? == some w && t.rate == b.rate && t.trig == b.trigger
            && decide (F.formCost grown ≤ 600) && !F.joinCycles ts c j
        then upd ts c (fun _ => grown) else opened

/-- The tasks of a graph; `kept` are running tasks that stay as they are (R128). -/
def GF.form (F : GF) (kept : List Task) : List Task :=
  let have_ := kept.flatMap (·.blks)
  (F.order.filter (fun j => !have_.contains j)).foldl (F.formOne kept.length) kept

/-! ### Costs (R78) and limits (R79) -/

/-- The words a block sends off its engine whatever the homes: recorder taps, PWM sets, thresholds, requests, parameter writes, identification words (R97,
R111). -/
def GF.fixedWords (F : GF) (j : Nat) : Nat :=
  let b := F.blk j
  let w := F.words j
  if F.input j then 0
  else
    let taps := (b.outs.filter (fun s => match F.g.sigs[s]? with | some r => r.tap | none => false)).length
    taps + match b.typ with
      | 0x4007 => if nth 0 w 2 = 1#32 then 3 else 2
      | 0x4008 => 8
      | 0x4004 => 1
      | 0x4005 => 1
      | 0x1011 => 1
      | 0x2009 => 4
      | 0x2003 => if nth 0 w 10 = 1#32 then 15 - (sharedWords 0x2003).length else 0
      | _ => 0

/-- An assignment: each task's engine (64 none), each engine's tasks in run order, the commit time of each signal and the finish of each task, in fc. -/
structure Asg where
  eng : List Nat
  on : List (List Nat)
  commit : List (Nat × Nat)
  fin : List (Nat × Nat)
  deriving DecidableEq, Repr

/-- The engines whose tasks read a signal. -/
def GF.readers (F : GF) (ts : List Task) (eng : List Nat) (s : Nat) : List Nat :=
  ((List.range ts.length).filterMap (fun i =>
    let e := nth 64 eng i
    if e < 64 && (nth Task.none_ ts i).blks.any (fun j => (F.blk j).ins.contains s) then some e else none)).eraseDups

/-- The words that a write of a signal sends off engine `e`: one to its home in system SRAM or DDR, else a copy for each other engine that reads it (R88). -/
def GF.sigWords (F : GF) (ts : List Task) (home eng : List Nat) (e s : Nat) : Nat :=
  if nth 0 home s = 1 || nth 0 home s = 2 then 1 else ((F.readers ts eng s).filter (fun k => k != e)).length

/-- Does a write of a signal leave engine `e`? -/
def GF.leaves (F : GF) (ts : List Task) (home eng : List Nat) (e s : Nat) : Bool := F.sigWords ts home eng e s != 0

/-- The words block `j` posts from engine `e` with the given homes. -/
def GF.postWords (F : GF) (ts : List Task) (home eng : List Nat) (e j : Nat) : Nat :=
  F.fixedWords j + sumOf ((F.blk j).outs.map (F.sigWords ts home eng e))

/-- The words block `j` on engine `e` reads from signals in system SRAM; the writer's own engine reads at no cost (R88). -/
def GF.sramReads (F : GF) (ts : List Task) (home eng : List Nat) (e j : Nat) : Nat :=
  ((F.blk j).ins.filter (fun s => nth 0 home s == 1
    && (match nth none F.wr s with
        | none => false
        | some (w, _) => (match taskOf ts w with | none => 64 | some i => nth 64 eng i) != e))).length

/-- The share of block `j` in the cost of its task. -/
def GF.share (F : GF) (ts : List Task) (home eng : List Nat) (e j : Nat) : Nat :=
  blkCost (F.blk j) (F.words j) + F.postWords ts home eng e j + 12 * F.sramReads ts home eng e j

/-- c_task (R78). -/
def GF.cost (F : GF) (ts : List Task) (home eng : List Nat) (e i : Nat) : Nat :=
  16 + sumOf ((nth Task.none_ ts i).blks.map (F.share ts home eng e))

/-- The fill limit L (R79). -/
def fillLimit (p : Nat) : Nat := 900 + 85 * (p - 1500) / 100

/-- A sum over tasks in the heaviest frame: all at frame rate, and for each sub-rate n the largest sum of one offset (R79). -/
def GF.heaviest (F : GF) (ts : List Task) (is : List Nat) (f : Nat → Nat) : Nat :=
  let rateOf (i : Nat) : Nat × Nat := F.rate (nth Task.none_ ts i).rate
  let ns := (is.map (fun i => (rateOf i).1)).eraseDups
  sumOf (ns.map (fun n =>
    let of_n := is.filter (fun i => (rateOf i).1 == n)
    if n = 1 then sumOf (of_n.map f)
    else maxOf (((of_n.map (fun i => (rateOf i).2)).eraseDups).map (fun k => sumOf ((of_n.filter (fun i => (rateOf i).2 == k)).map f)))))

/-- The offset of sub-rate n whose tasks weigh most among those of a list. -/
def GF.heavyK (F : GF) (ts : List Task) (is : List Nat) (f : Nat → Nat) (n : Nat) : Nat :=
  let rateOf (i : Nat) : Nat × Nat := F.rate (nth Task.none_ ts i).rate
  let of_n := is.filter (fun i => (rateOf i).1 == n)
  let ks := (of_n.map (fun i => (rateOf i).2)).eraseDups
  let sum (k : Nat) : Nat := sumOf ((of_n.filter (fun i => (rateOf i).2 == k)).map f)
  (ks.foldl (fun (best : Option Nat) k => match best with
    | none => some k
    | some b => if sum k > sum b then some k else some b) none).getD 0

/-- The signals for which block `j` waits: those that another block on an engine writes in the same frame (R79, R80). -/
def GF.waitSigs (F : GF) (j : Nat) : List Nat :=
  (F.blk j).ins.filter (fun s => match F.live s with | none => false | some w => !F.input w && F.sameFrame w j)

/-- Start and finish of task `i`, run last on engine `e`, in its heaviest frame (R79, R80). -/
def GF.timeOn (F : GF) (ts : List Task) (home : List Nat) (a : Asg) (e i : Nat) : Nat × Nat :=
  let l := nth [] a.on e ++ [i]
  let cost (k : Nat) : Nat := F.cost ts home a.eng e k
  let rateOf (k : Nat) : Nat × Nat := F.rate (nth Task.none_ ts k).rate
  let runs (k : Nat) : Bool :=
    let r := rateOf k
    r.1 == 1 || (if r.1 == (rateOf i).1 then r.2 == (rateOf i).2 else r.2 == F.heavyK ts l cost r.1)
  let startOf (cur k : Nat) : Nat :=
    maxOf (cur :: (((nth Task.none_ ts k).blks.flatMap F.waitSigs).filterMap (fun s =>
      match (F.live s).bind (taskOf ts) with
      | none => none
      | some t => if nth 64 a.eng t = e then none else (assocGet s a.commit).map (· + 1))))
  (l.filter runs).foldl (fun (acc : Nat × Nat) k => let s := startOf acc.2 k; (s, s + cost k)) (900, 900)

/-- The words of data SRAM an engine's tasks take (R79). -/
def GF.dataWords (F : GF) (ts : List Task) (home : List Nat) (is : List Nat) : Nat :=
  let bs := is.flatMap (fun i => (nth Task.none_ ts i).blks)
  let sigs := (bs.flatMap (fun j => (F.blk j).ins ++ (F.blk j).outs)).eraseDups.filter (fun s => nth 0 home s != 1 && nth 0 home s != 2)
  sumOf (bs.map (fun j => stateWordsOf (F.blk j))) + sigs.length

/-- The microcode an engine's tasks take (R79). -/
def GF.microBytes (F : GF) (ts : List Task) (is : List Nat) : Nat :=
  sumOf (((is.flatMap (fun i => (nth Task.none_ ts i).blks.map (fun j => (F.blk j).typ))).eraseDups).map microOf)

/-- Start and finish of task `i` put last on engine `e`, where every limit of R79 for that engine still holds. -/
def GF.fits (F : GF) (ts : List Task) (home : List Nat) (a : Asg) (e i : Nat) : Option (Nat × Nat) :=
  let l := nth [] a.on e ++ [i]
  let r := F.timeOn ts home a e i
  let shareOk := l.length == 1 || l.all (fun k => !(nth Task.none_ ts k).noShare)
  if shareOk && decide (r.2 ≤ fillLimit F.p) && decide (F.cost ts home a.eng e i ≤ fillLimit F.p - 900)
      && decide (F.heaviest ts l (fun k => sumOf ((nth Task.none_ ts k).blks.map (F.postWords ts home a.eng e))) ≤ 512)
      && decide (F.dataWords ts home l ≤ 15360) && decide (F.microBytes ts l ≤ 32768)
  then some r else none

/-- Task `i` put last on engine `e`, with the planned commit time of each of its outputs: what leaves the engine with its packet, the rest at the end of its
block's run (R80). -/
def GF.put (F : GF) (ts : List Task) (home : List Nat) (a : Asg) (e i : Nat) (r : Nat × Nat) : Asg :=
  let go := (nth Task.none_ ts i).blks.foldl (fun (acc : Nat × List (Nat × Nat)) j =>
    let p := acc.1 + F.share ts home a.eng e j
    let later := p + Sys2Proof.Config.commitDelay (F.postWords ts home a.eng e j)
    (p, acc.2 ++ (F.blk j).outs.map (fun s => (s, if F.leaves ts home a.eng e s then later else p)))) (r.1 + 16, a.commit)
  { a with on := upd a.on e (fun l => l ++ [i]), commit := go.2, fin := a.fin ++ [(i, r.2)] }

/-- The evaluation of tasks on the engines they have, taken in a given order; none where a limit of R79 fails (R111). -/
def GF.reval (F : GF) (ts : List Task) (home : List Nat) : List Nat → Asg → Option Asg
  | [], a => some a
  | i :: rest, a =>
    let e := nth 64 a.eng i
    match F.fits ts home a e i with
    | none => none
    | some r => GF.reval F ts home rest (F.put ts home a e i r)

/-- The collector words of the heaviest frame. -/
def GF.colWords (F : GF) (ts : List Task) (home eng : List Nat) : Nat :=
  let is := (List.range ts.length).filter (fun i => decide (nth 64 eng i < 64))
  F.heaviest ts is (fun i => sumOf ((nth Task.none_ ts i).blks.map (F.postWords ts home eng (nth 64 eng i))))

/-- The tasks whose results task `i` waits for in a frame. -/
def GF.taskWaits (F : GF) (ts : List Task) (i : Nat) : List Nat :=
  (((nth Task.none_ ts i).blks.flatMap F.waits).filterMap (taskOf ts)).filter (fun k => k != i)

/-- A sequence of the tasks of given engine orders in which each task follows its engine's task before it and the writers of its same-frame inputs; none
where there is none. -/
def GF.seqOf (F : GF) (ts : List Task) (orders : List (List Nat)) : Nat → List Nat → Option (List Nat)
  | 0, done => if orders.all (fun l => l.all done.contains) then some done else none
  | fuel + 1, done =>
    let heads := orders.filterMap (fun l => (l.filter (fun i => !done.contains i)).head?)
    match heads.find? (fun i => (F.taskWaits ts i).all done.contains) with
    | none => if heads.isEmpty then some done else none
    | some i => GF.seqOf F ts orders fuel (done ++ [i])

/-- The engine of each task under given engine orders, 64 for a task in none. -/
def engsOf (ts : List Task) (orders : List (List Nat)) : List Nat :=
  (List.range ts.length).map (fun i => ((List.range 64).find? (fun e => (nth [] orders e).contains i)).getD 64)

/-- The commit and finish times under given engine orders and homes, where every limit of R79 holds; tasks in no order do not run. -/
def GF.evalOrders (F : GF) (ts : List Task) (home : List Nat) (orders : List (List Nat)) : Option Asg :=
  let eng := engsOf ts orders
  let out := (List.range ts.length).filter (fun i => nth 64 eng i = 64)
  match F.seqOf ts orders (ts.length + 1) out with
  | none => none
  | some seq =>
    match F.reval ts home (seq.drop out.length) { eng := eng, on := List.replicate 64 [], commit := [], fin := [] } with
    | none => none
    | some b => if F.colWords ts home eng ≤ 8192 then some b else none

/-- Task `i` put last on engine `e` of an assignment: its finish, and the assignment with every task's costs, posts and times as they then are. None where a
limit of R79 fails anywhere. -/
def GF.tryOn (F : GF) (ts : List Task) (home : List Nat) (a : Asg) (i e : Nat) : Option (Nat × Asg) :=
  (F.evalOrders ts home (upd a.on e (fun l => l ++ [i]))).map (fun b => ((assocGet i b.fin).getD 0, b))

/-- The engine of a list on which a task finishes earliest; of several the one with the lowest number (R121; for R111 DESIGN CHOICE, log entry 89). -/
def GF.bestOn (F : GF) (ts : List Task) (home : List Nat) (a : Asg) (i : Nat) (engs : List Nat) : Option (Nat × Asg) :=
  minBy? (fun (c : Nat × Asg) => c.1) (engs.filterMap (F.tryOn ts home a i))

/-- Free spares in the order E00, E16, E32, E48, E01, … (R111). -/
def spareOrder : List Nat := (List.range 64).map (fun k => k % 4 * 16 + k / 4)

/-- Task `i` goes to the engine of R111 steps 2 and 3: the open engine on which it finishes earliest; past the midpoint the next free spare, where it finishes
earlier there. `open_` are running engines that take tasks, `spares` the engines free at the start. -/
def GF.choose (F : GF) (ts : List Task) (open_ spares : List Nat) (emax : Nat) (a : Asg) (i : Nat) : Option Asg :=
  let active := (List.range 64).filter (fun e => !(nth [] a.on e).isEmpty)
  let best := F.bestOn ts [] a i (active.filter (fun e => open_.contains e || spares.contains e))
  let late := match best with | none => true | some c => decide (900 + (fillLimit F.p - 900) / 2 < c.1)
  let spare := if late && decide (active.length < emax) then (spareOrder.find? (fun e => spares.contains e && !active.contains e)).bind (F.tryOn ts [] a i) else none
  match best, spare with
  | none, s => s.map (·.2)
  | some c, none => some c.2
  | some c, some s => some (if s.1 < c.1 then s.2 else c.2)

/-- The earliest start of a task (R111 step 1). -/
def GF.earliest (F : GF) (ts : List Task) (a : Asg) (i : Nat) : Nat :=
  maxOf (900 :: ((nth Task.none_ ts i).blks.flatMap F.waitSigs).filterMap (fun s => assocGet s a.commit))

/-- The task of a list that is taken next: by earliest start, ties to the order of forming, and only after the tasks of the list that write what it waits for
(R111 step 1). -/
def GF.nextTask (F : GF) (ts : List Task) (a : Asg) (todo : List Nat) : Option Nat :=
  minBy? (fun i => F.earliest ts a i * 65536 + i) (todo.filter (fun i => (F.taskWaits ts i).all (fun k => !todo.contains k)))

/-- Assignment of the tasks of a list (R111); none where a task fits on no engine. -/
def GF.assign (F : GF) (ts : List Task) (open_ spares : List Nat) (emax : Nat) : Nat → List Nat → Asg → Option Asg
  | 0, todo, a => if todo.isEmpty then some a else none
  | fuel + 1, todo, a =>
    if todo.isEmpty then some a
    else
      match F.nextTask ts a todo with
      | none => none
      | some i => match F.choose ts open_ spares emax a i with
        | none => none
        | some b => GF.assign F ts open_ spares emax fuel (todo.erase i) b

/-- The homes of R112. R234 takes the outputs of input blocks out of it: code 3, like a signal that nothing writes. -/
def GF.homes (F : GF) (ts : List Task) (eng : List Nat) : List Nat :=
  (List.range F.g.sigs.length).map (fun s =>
    let w := (nth none F.wr s).map (·.1)
    if (match w with | none => false | some j => F.input j) then 3
    else if (match F.g.sigs[s]? with | some r => r.cls | none => 0) = 1 then 2
    else match w with
      | none => 3
      | some j =>
        let e := match taskOf ts j with | none => 64 | some i => nth 64 eng i
        if ((F.readers ts eng s).filter (fun k => k != e)).length > 4 then 1 else 0)

/-- The block types whose tables declare bulk access to DDR (R88): this device's tables declare none. -/
def bulkTypes : List Nat := []

/-- Only blocks that declare bulk access read a signal homed in DDR (R88); a graph in which another block reads one has no placement (DESIGN CHOICE, log entry
89: no step of R65 names the case). -/
def GF.bulkOk (F : GF) (home : List Nat) : Bool :=
  F.g.blks.all (fun b => bulkTypes.contains b.typ || b.ins.all (fun s => nth 3 home s != 2))

/-- The tasks of a list with their engines. -/
def withEngines (ts : List Task) (eng : List Nat) : List Task := (List.range ts.length).map (fun i => { nth Task.none_ ts i with eng := nth 64 eng i })

/-- The planned finish of each engine. -/
def Asg.plan (a : Asg) : List Nat := (List.range 64).map (fun e => maxOf ((nth [] a.on e).filterMap (fun i => assocGet i a.fin)))

/-- A placement of the tasks `ts`, of which the first `kept` stay where `orders` have them (R111, R128). `open_` are running engines that take tasks, `spares` the
free spares, `usable` the number of engines neither faulted nor retired. None where the graph does not fit. -/
def GF.place (F : GF) (ts : List Task) (kept : Nat) (orders : List (List Nat)) (open_ spares : List Nat) (usable : Nat) : Option Placement :=
  let todo := (List.range ts.length).filter (fun i => decide (kept ≤ i) && !(nth Task.none_ ts i).blks.any F.input)
  match (F.evalOrders ts [] orders).bind (F.assign ts open_ spares (Nat.min 60 (usable - 4)) (todo.length + 1) todo) with
  | none => none
  | some a =>
    let home := F.homes ts a.eng
    -- every limit once more, with the final homes (R111)
    match F.evalOrders ts home a.on with
    | none => none
    | some b =>
      if sumOf (F.g.blks.map stateWordsOf) ≤ 262144 ∧ F.bulkOk home = true then
        some { tasks := withEngines ts b.eng, order := b.on, home := home, plan := b.plan }
      else none

/-- A placement from nothing (R67, R113). -/
def GF.placeAll (F : GF) (usable : List Nat) : Option Placement := F.place (F.form []) 0 (List.replicate 64 []) [] usable usable.length

end Sys2Proof.Machine
end

