-- ==== Sys2Proof/Machine/Lp.lean ====
section
/-! DEFINITION. Machine/Lp.lean: parameter sets, parameter writes and swaps (R146 to R152, R337). -/

namespace Sys2Proof.Machine

/-- A block of the running graph, by index. -/
def Dev.blkAt (d : Dev) (j : Nat) : BlkRec := nth BlkRec.none_ d.hrt.graph.blks j
/-- A parameter set: 0 A, 1 B. -/
def Dev.parSet (d : Dev) (set : Nat) : List Word := if set = 0 then d.hrt.setA else d.hrt.setB
/-- The words of a block in a set. -/
def Dev.blkWords (d : Dev) (set : Nat) (b : BlkRec) : List Word := ((d.parSet set).drop b.pIdx).take b.nPar
/-- The swap group of an A/B block: its first word (R131). -/
def Dev.groupOf (d : Dev) (b : BlkRec) : Option Nat := if isAB b.typ then some ((nth 0 d.hrt.setA b.pIdx).toNat % 16) else none
/-- Set B is active in a group (R146). -/
def Dev.actB (d : Dev) (g : Nat) : Bool := d.bit Reg.LP_SWAP_STAT (16 + g)
/-- A swap of a group is pending (R149). -/
def Dev.swapPend (d : Dev) (g : Nat) : Bool := d.bit Reg.LP_SWAP_STAT g
/-- Is set B the active set of a block? A block without A/B sets reads set A (R58). -/
def Dev.blkActB (d : Dev) (b : BlkRec) : Bool := match d.groupOf b with | none => false | some g => d.actB g
/-- IMG_STAT.STATE. -/
def Dev.imgState (d : Dev) : Nat := d.fld Reg.IMG_STAT 3 0
/-- A hot update is in progress, from HOT_LOAD to its switch boundary or its end (R148). -/
def Dev.hotBusy (d : Dev) : Bool := d.img.hot && d.imgState != 0
/-- The chip's words come from the owner: its pair state is SYNCING, STANDBY or HANDOVER (R148). -/
def Dev.follows (d : Dev) : Bool := d.pair != 1 && d.pair != 2
/-- The chip is an owner whose partner is in SYNCING or STANDBY (R336, R337). -/
def Dev.mirroring (d : Dev) : Bool :=
  d.owner && d.bit Reg.TWN_CFG 31 && (match d.twn.peer with | none => false | some h => h.pair == 0 || h.pair == 3)
/-- The block that owns a parameter word. -/
def Dev.wordBlk (d : Dev) (i : Nat) : Option Nat :=
  (List.range d.hrt.graph.blks.length).find? (fun j => let b := d.blkAt j; decide (b.pIdx ≤ i) && decide (i < b.pIdx + b.nPar))
/-- The frame an instant belongs to: a write in the fc of a T0 belongs to the frame that T0 begins (R147, R149). -/
def Dev.frameOf (d : Dev) (x : Nat) : Nat := if d.running && decide (d.frm.nextT0 ≤ x) then (d.frame + 1) % 2 ^ 32 else d.frame

/-- A set as it will stand at the next T0: the applied words, with every staged word (R148). -/
def Dev.parAhead (d : Dev) (set : Nat) : List Word :=
  (d.lp.staged.filter (fun p => p.set == set)).foldl (fun l p => upd l p.idx (fun _ => p.val)) (d.parSet set)

/-- The lowest cause for which a write of words of a set is refused, for the word of one index; 0 for none (R148). An index of PARAM_COUNT or above belongs
to no block and carries cause 6 alone or with 4 (DEDUCED, log entry 50). -/
def Dev.parCause (d : Dev) (set : Nat) (ws : List (Nat × Word)) (i : Nat) : Nat :=
  if d.hrt.setA.length ≤ i then (if d.hotBusy then 4 else 6)
  else
    match d.wordBlk i with
    | none => 2
    | some j =>
      let b := d.blkAt j
      match d.groupOf b with
      | none => 2
      | some g =>
        let new := (ws.foldl (fun l w => upd l w.1 (fun _ => w.2)) (d.parAhead set)).drop b.pIdx
        if decide (set = b2n (d.actB g)) then 1
        else if (sharedWords b.typ).contains (i - b.pIdx) then 2
        else if d.swapPend g then 3
        else if d.hotBusy then 4
        else if !parOk b.typ (new.take b.nPar) (runTs (nth (1, 0) d.hrt.graph.rates b.rate).1 d.P) then 5
        else if d.follows then 7
        else 0

/-- A refused write: PWR_REFUSED with its cause (R148). -/
def Dev.parRefuse (d : Dev) (cause : Nat) : Dev := (d.setB Reg.LP_STAT 0 true).setF Reg.LP_STAT 7 4 cause

/-- Words of a set written together in the frame `k`: all staged for the T0 of the next frame, one frame later while the partner mirrors (R147, R337), or
all refused with the first cause that applies (R148, R181). The words of mirrored blocks go to the partner (R335). -/
def Dev.parWrite (d : Dev) (k set : Nat) (ws : List (Nat × Word)) : Dev :=
  match (ws.map (fun w => d.parCause set ws w.1)).find? (fun c => c != 0) with
  | some c => d.parRefuse c
  | none =>
    let at_ := (k + (if d.mirroring then 2 else 1)) % 2 ^ 32
    let tx := if d.mirroring then ws.filterMap (fun w => match d.wordBlk w.1 with
      | none => none
      | some j => if d.twn.mirrored.contains j then some (at_, ({ id := (d.blkAt j).id, word := w.1 - (d.blkAt j).pIdx, set := set, value := w.2 } : ParamEntry)) else none) else []
    { d with lp := { d.lp with staged := d.lp.staged ++ ws.map (fun w => { set := set, idx := w.1, val := w.2, frame := at_ }), txPar := d.lp.txPar ++ tx } }

/-- A write of LP_PDATA (R147): the word for the set and index of LP_PSEL; INDEX increments whether or not the write is accepted. -/
def Dev.wrPdata (d : Dev) (x : Nat) (v : Word) : Dev :=
  let i := d.fld Reg.LP_PSEL 23 0
  (d.parWrite (d.frameOf x) (d.fld Reg.LP_PSEL 31 31) [(i, v)]).setF Reg.LP_PSEL 23 0 (i + 1)

/-- LP_PDATA_WRITE (R147). -/
def execLpPdataWrite (t : Nat) (v : Word) (s : State) : Out := act t s fun x d => d.live fun d => d.wrPdata x v

/-- A swap command for the groups of a mask, issued in the frame `k` (R149, R150, R337): on a chip that follows an owner it is counted and not executed; a
group already pending merges; during PLACING or STAGED the boundary waits for the switch. -/
def Dev.swapCmd (d : Dev) (k mask : Nat) : Dev :=
  if d.follows then d.inc Reg.LP_SWAP_HELD 31 0
  else
    let bound := (k + (if d.mirroring then 3 else 2)) % 2 ^ 32
    let hot := d.img.hot && (d.imgState == 2 || d.imgState == 3)
    let d1 := (onesBelow 16 mask).foldl (fun d g =>
      if d.swapPend g then d
      else { d.setB Reg.LP_SWAP_STAT g true with lp := { d.lp with swaps := d.lp.swaps ++ [{ group := g, frame := bound, hot := hot }] } }) d
    if d.mirroring then { d1 with lp := { d1.lp with txSwap := d1.lp.txSwap ++ [(bound, mask % 2 ^ 16)] } } else d1

/-- LP_SWAP_CMD (R149). -/
def execLpSwapCmd (t : Nat) (groups : Nat) (s : State) : Out :=
  act t s fun x d => d.live fun d => d.swapCmd (d.frameOf x) groups

/-- A group's swap boundary in the frame `n` (R149). -/
def Dev.swapNow (d : Dev) (x n g : Nat) : Dev :=
  let d := ((d.setB Reg.LP_SWAP_STAT g false).setB Reg.LP_SWAP_STAT (16 + g) (!d.actB g)).wrN Reg.LP_SWAP_FRM n
  { d.inc Reg.LP_SWAP_CNT 31 0 with lp := { d.lp with swapAt := updN 16 0 d.lp.swapAt g (fun _ => x) } }

/-- A swap boundary before STAGED aborts a hot update with 0xD111 (R150). -/
def Dev.swapAborts (d : Dev) (x : Nat) (swapped : Bool) : Dev :=
  if swapped && d.img.hot && (d.imgState == 1 || d.imgState == 2) then (d.setB Reg.LP_STAT 1 true).hotAbort x else d

/-- The T0 of frame `n` (R147, R149, R150): staged words are applied together, and the groups whose boundary this is swap. -/
def Dev.lpT0 (d : Dev) (x n : Nat) : Dev :=
  let now := d.lp.staged.filter (fun p => p.frame == n)
  let set (k : Nat) (l : List Word) : List Word := (now.filter (fun p => p.set == k)).foldl (fun l p => upd l p.idx (fun _ => p.val)) l
  let d := { d with hrt := { d.hrt with setA := set 0 d.hrt.setA, setB := set 1 d.hrt.setB }
                    lp := { d.lp with staged := d.lp.staged.filter (fun p => p.frame != n) } }
  let due := d.lp.swaps.filter (fun p => p.frame == n && !p.hot)
  let d := { d with lp := { d.lp with swaps := d.lp.swaps.filter (fun p => !(p.frame == n && !p.hot)) } }
  (due.foldl (fun d p => d.swapNow x n p.group) d).swapAborts x (!due.isEmpty)

/-- What LP_PDATA reads: the staged word if one exists, else the applied word; 0 at PARAM_COUNT or above (R147). -/
def Dev.lpRead (d : Dev) : Word :=
  let set := d.fld Reg.LP_PSEL 31 31
  let i := d.fld Reg.LP_PSEL 23 0
  match (d.lp.staged.filter (fun p => p.set == set && p.idx == i)).getLast? with
  | some p => p.val
  | none => nth 0 (d.parSet set) i

end Sys2Proof.Machine
end

