-- ==== Sys2Proof/Machine/Rec.lean ====
section
/-! DEFINITION. Machine/Rec.lean: the disturbance recorder (R454 to R457). -/

namespace Sys2Proof.Machine

/-- REC_STAT.STATE: 0 DISABLED, 1 ARMED, 2 TRIGGERED, 3 FROZEN. -/
def Dev.recState (d : Dev) : Nat := d.fld Reg.REC_STAT 31 30
/-- The taps of the running image, in ascending signal number (R454). -/
def Graph.taps (g : Graph) : List Nat := (List.range g.sigs.length).filter (fun i => match g.sigs[i]? with | some r => r.tap | none => false)
/-- The length of a record with `n` taps (R454). -/
def recLen (n : Nat) : Nat := ceilDiv (16 + 4 * n) 64 * 64
/-- REC_BASE. -/
def Dev.recBase (d : Dev) : Nat := d.rd64 Reg.REC_BASE_LO Reg.REC_BASE_HI
/-- The ring's size in bytes. -/
def Dev.recBytes (d : Dev) : Nat := d.fld Reg.REC_SIZE 12 0 * 2 ^ 20
/-- C: the records the ring holds (R455). -/
def Dev.recCap (d : Dev) : Nat := divN d.recBytes (d.fld Reg.REC_LAYOUT 31 16)
/-- A ring lies within the fitted DDR (R455, R501). -/
def Dev.inDdr (d : Dev) (base bytes : Nat) : Bool :=
  d.bit Reg.DDR_STAT 31 && decide (0x800000000 ≤ base) && decide (base + bytes ≤ 0x800000000 + d.fld Reg.DDR_STAT 3 0 * 2 ^ 30)
/-- A ring's values are legal (R455). -/
def Dev.ringOk (d : Dev) (base mib : Nat) : Bool := base % 2 ^ 20 == 0 && decide (1 ≤ mib) && decide (mib ≤ 7168) && d.inDdr base (mib * 2 ^ 20)

/-- The recorder enters a state. -/
def Dev.recTo (d : Dev) (st : Nat) : Dev := d.setF Reg.REC_STAT 31 30 st
/-- A write to a REC register is refused. -/
def Dev.recRefuse (d : Dev) : Dev := d.setB Reg.REC_STAT 0 true

/-- The recorder becomes DISABLED (R456). -/
def Dev.recDisable (d : Dev) : Dev := { (d.recTo 0).setB Reg.REC_CTRL 31 false with rec_ := { d.rec_ with waiting := [], trigFrame := false } }

/-- The recorder becomes ARMED with an empty pre-history; `fresh` starts at the ring's first record. -/
def Dev.recArm (d : Dev) (fresh : Bool) : Dev :=
  { (d.recTo 1).setB Reg.REC_STAT 29 false with
    rec_ := { d.rec_ with count := 0, idx := if fresh then 0 else d.rec_.idx % d.recCap, waiting := [], postLeft := 0, trigFrame := false, dropped := false } }

/-- Entry into FROZEN: event 250 with the trigger frame and the triggers (R456, R459). -/
def Dev.recFreeze (d : Dev) (x : Nat) (cut : Bool) : Dev :=
  ((d.recTo 3).setB Reg.REC_STAT 29 cut).raise .per x 250 0xE110 [(4, (d.rd Reg.REC_CAP_FRM).toNat), (1, d.fld Reg.REC_CAP_INFO 7 0)]

/-- The sample of the triggers at the T0 of the frame with FRM_COUNT `k` (R456, R457): entry into TRIGGERED, or ignored triggers. -/
def Dev.recSample (d : Dev) (x k : Nat) : Dev :=
  let hit := d.rec_.trig
  let d := { d with rec_ := { d.rec_ with trig := d.rec_.trigNext, trigNext := 0, sampled := hit % 256, trigFrame := false } }
  if hit = 0 then d
  else if d.recState = 1 then
    let held := Nat.min (d.rd Reg.REC_PRE).toNat (d.rec_.count + d.rec_.waiting.length)
    let cap := d.recCap
    let here := (d.rec_.idx + d.rec_.waiting.length) % cap
    let first := (here + cap - held % cap) % cap
    let d := ((d.recTo 2).wrN Reg.REC_CAP_FRM k).wrN Reg.REC_CAP_PRE held
    let d := d.wr64 Reg.REC_CAP_ADDR_LO Reg.REC_CAP_ADDR_HI (d.recBase + first * d.fld Reg.REC_LAYOUT 31 16)
    let d := d.setF Reg.REC_CAP_INFO 7 0 (hit % 256)
    { d with rec_ := { d.rec_ with trigFrame := true, postLeft := (d.rd Reg.REC_POST).toNat } }
  else if d.recState = 0 then d
  else (d.setB Reg.REC_STAT 1 true).raise .per x 250 0xE111 [(4, (d.rd Reg.REC_CAP_FRM).toNat), (1, hit % 256)]

/-- The record of frame `k`, formed at the end of Collect from the taps' values (R454). -/
def Dev.recForm (d : Dev) (k : Nat) : Dev :=
  if d.recState = 1 || d.recState = 2 then
    let flags := d.hrt.recFlags % 8 + 8 * b2n d.rec_.trigFrame + 256 * d.rec_.sampled
    let vals := d.hrt.graph.taps.map (fun s => nth 0 d.hrt.tap s)
    { d with rec_ := { d.rec_ with waiting := d.rec_.waiting ++ [(k, d.ns d.frm.t0, flags, vals)] } }
  else d

/-- Records that wait since frame k at the T0 of frame k + 2 are dropped and counted (R454). -/
def Dev.recDrop (d : Dev) (now : Nat) : Dev :=
  let late := d.rec_.waiting.filter (fun r => decide (2 ≤ frmSince now r.1))
  if late.isEmpty then d
  else
    let d := { d with rec_ := { d.rec_ with waiting := d.rec_.waiting.filter (fun r => decide (frmSince now r.1 < 2)), dropped := true } }
    late.foldl (fun d _ => d.inc Reg.REC_DROP_CNT 31 0) (d.setB Reg.REC_STAT 2 true)

/-- The bytes of a record (R454). -/
def recBytesOf (k ns flags : Nat) (vals : List Word) : List Byte :=
  let bs := leBytes 4 k ++ leBytes 4 flags ++ leBytes 8 ns ++ vals.flatMap (fun w => leBytes 4 w.toNat)
  bs ++ List.replicate (recLen vals.length - bs.length) 0#8

/-- RECORDER_RECORD_WRITE (R454, R456): the oldest record that waits goes into the ring in DDR, or is dropped after the T0 of frame k + 2. Record POST after the
trigger frame ends the capture. -/
def execRecorderRecordWrite (t : Nat) (s : State) : Out :=
  actE t s fun s =>
    let d := s.dev.recDrop s.dev.frame
    match d.rec_.waiting with
    | [] => { dev := d, cells := [], fuses := [] }
    | (k, ns, flags, vals) :: rest =>
      if !d.runs || d.recState = 0 || d.recCap = 0 then { dev := d, cells := [], fuses := [] }
      else
        let bytes := recBytesOf k ns (flags + 16 * b2n d.rec_.dropped) vals
        let at_ := d.recBase + d.rec_.idx * recLen vals.length
        let d := { d with rec_ := { d.rec_ with waiting := rest, count := d.rec_.count + 1, idx := (d.rec_.idx + 1) % d.recCap, dropped := false } }
        let trig := (d.rd Reg.REC_CAP_FRM).toNat
        let after := frmSince k trig
        let d :=
          if d.recState = 2 && decide (after < 2 ^ 31) then
            let left := if after = 0 then d.rec_.postLeft else d.rec_.postLeft - 1
            let d := { d with rec_ := { d.rec_ with postLeft := left } }
            if left = 0 then { d.recFreeze s.now false with rec_ := { d.rec_ with waiting := [] } } else d
          else d
        { dev := d, cells := ramCells at_ bytes, fuses := [] }

/-- The tap set of the new image differs at a hot update's switch boundary (R456). -/
def Dev.recCut (d : Dev) (x : Nat) : Dev :=
  if d.recState = 1 then d.recArm true
  else if d.recState = 2 then d.recFreeze x true
  else d

/-- REC_LAYOUT for a graph (R454). -/
def Dev.recLayout (d : Dev) (g : Graph) : Dev := (d.setF Reg.REC_LAYOUT 31 16 (recLen g.taps.length)).setF Reg.REC_LAYOUT 9 0 g.taps.length

/-- A bus write of REC_CTRL (R456). -/
def Dev.wrRecCtrl (d : Dev) (v : Word) : Dev :=
  let en := d.bit Reg.REC_CTRL 31
  let d :=
    if tbit v 31 && !en then
      if d.recCap < (d.rd Reg.REC_PRE).toNat + (d.rd Reg.REC_POST).toNat + 1 || !d.ringOk d.recBase (d.fld Reg.REC_SIZE 12 0) then
        d.recRefuse
      else (d.rw Reg.REC_CTRL v).recArm true
    else if !tbit v 31 && en then (d.rw Reg.REC_CTRL v).recDisable
    else d.rw Reg.REC_CTRL v
  let d := if tbit v 30 && d.recState = 3 then d.recArm (d.bit Reg.REC_STAT 29) else d
  if tbit v 29 then { d with rec_ := { d.rec_ with trig := d.rec_.trig ||| 256 } } else d

/-- A bus write of REC_BASE_LO, REC_BASE_HI or REC_SIZE (R455, R501): refused if the ring it makes is illegal. -/
def Dev.wrRecRing (d : Dev) (a : Nat) (v : Word) : Dev :=
  let d' := d.rw a v
  if d'.ringOk d'.recBase (d'.fld Reg.REC_SIZE 12 0) then d' else d.recRefuse

/-- REC_ENABLE_WRITE (R456). -/
def execRecEnableWrite (t : Nat) (v : Word) (s : State) : Out := act t s fun _ d => d.live fun d => d.wrRecCtrl v

/-- REARM (R456): a write of 1 to REC_CTRL.REARM that leaves the other fields. -/
def execRearm (t : Nat) (s : State) : Out := act t s fun _ d => d.live fun d => d.wrRecCtrl (setBit (setBit (d.rd Reg.REC_CTRL) 29 false) 30 true)

/-- SWTRIG (R456): a write of 1 to REC_CTRL.SWTRIG that leaves the other fields. -/
def execSwtrig (t : Nat) (s : State) : Out := act t s fun _ d => d.live fun d => d.wrRecCtrl (setBit (setBit (d.rd Reg.REC_CTRL) 30 false) 29 true)

end Sys2Proof.Machine
end

