-- ==== Sys2Proof/Machine/Hearth.lean ====
section
/-! DEFINITION. Machine/Hearth.lean: how engines run tasks and how the collector carries their results out (R73 to R106, R114, R154). What the Placer does with
the outcome stands in Machine/Placer.lean. -/

namespace Sys2Proof.Machine

/-- An engine. -/
def Dev.engAt (d : Dev) (e : Nat) : Eng := nth Eng.init d.hrt.eng e
/-- The device with an engine changed. -/
def Dev.setEng (d : Dev) (e : Nat) (f : Eng → Eng) : Dev := { d with hrt := { d.hrt with eng := updN 64 Eng.init d.hrt.eng e f } }
/-- A task of the placement. -/
def Dev.taskAt (d : Dev) (i : Nat) : Task := nth Task.none_ d.hrt.place.tasks i
/-- The engine that owns each task. -/
def Dev.taskEngs (d : Dev) : List Nat := d.hrt.place.tasks.map (·.eng)
/-- A block at run time that has not run. -/
def BlkRt.fresh (x : Nat) : BlkRt := { st := [], prev := [], mode := 1, ran := false, bank0 := none, bank1 := none, bankWas := none, since := x }
/-- What the bank of frame `f` holds of a block: the banks alternate by frame (R115). -/
def BlkRt.bank (r : BlkRt) (f : Nat) : Option (Nat × List Word) := if f % 2 = 0 then r.bank0 else r.bank1
/-- A block's part of the bank of frame `f` is replaced. -/
def BlkRt.setBank (r : BlkRt) (f : Nat) (c : Option (Nat × List Word)) : BlkRt := if f % 2 = 0 then { r with bank0 := c } else { r with bank1 := c }
/-- A block at run time. -/
def Dev.rtAt (d : Dev) (j : Nat) : BlkRt := nth (BlkRt.fresh 0) d.hrt.rt j
/-- The device with a block's run-time state changed. -/
def Dev.setRt (d : Dev) (j : Nat) (f : BlkRt → BlkRt) : Dev := { d with hrt := { d.hrt with rt := upd d.hrt.rt j f } }
/-- The facts of the running graph. -/
def Dev.gf (d : Dev) : GF := d.hrt.graph.facts d.hrt.setA d.P

/-! ### What runs in a frame (R20, R82, R83) -/

/-- Is a rate entry due in this frame (R20)? -/
def Dev.rateDue (d : Dev) (r : Nat × Nat) : Bool := r.1 == 1 || assocGet r.1 d.hrt.rate == some r.2

/-- Does a block run in this frame: switched on, due, triggered and not shed (R82, R83, R105)? TRIG_IN only names its latch. -/
def Dev.blkRuns (d : Dev) (j : Nat) : Bool :=
  let b := d.blkAt j
  let m := (d.rtAt j).mode
  (m == 1 || m == 2) && d.rateDue (nth (1, 0) d.hrt.graph.rates b.rate)
    && (decide (31 < b.trigger) || b.typ == 0x0030 || decide (1 ≤ (nth (0, 0) d.anv.htSample b.trigger).1))
    && !(b.sheddable && d.tmp.shed)

/-- The blocks of a task that run in this frame. -/
def Dev.taskBlks (d : Dev) (i : Nat) : List Nat := (d.taskAt i).blks.filter d.blkRuns

/-! ### Inputs (R80, R81, R88) -/

/-- The engine of the task that writes a signal; 64 for an input block or no writer. -/
def Dev.writerEng (d : Dev) (F : GF) (s : Nat) : Nat :=
  match nth none F.wr s with
  | none => 64
  | some (w, _) => match taskOf d.hrt.place.tasks w with | none => 64 | some i => (d.taskAt i).eng

/-- The first input of a task that another engine's task writes in this frame and that has not been committed by an instant: block and signal (R80). -/
def Dev.missing (d : Dev) (F : GF) (x i : Nat) : Option (Nat × Nat) :=
  let own := (d.taskAt i).eng
  ((d.taskBlks i).flatMap (fun j => (d.blkAt j).ins.map (fun s => (j, s)))).find? (fun p =>
    match F.live p.2 with
    | none => false
    | some w =>
      !F.input w && d.blkRuns w &&
        (match taskOf d.hrt.place.tasks w with
         | none => false
         | some tw => d.hrt.due.contains tw && (d.taskAt tw).eng != own
             && !(d.hrt.comm.any (fun c => c.1 == w && decide (c.2 ≤ x)))))

/-- The value of a signal as its writer's delayed output gives it in a frame in which the writer runs: its previous run's (R56, R91). -/
def Dev.delayedNow (d : Dev) (F : GF) (s : Nat) : Option Word :=
  match nth none F.wr s with
  | none => none
  | some (w, k) =>
    if (delayedOuts (d.blkAt w)).contains k && d.blkRuns w && (d.rtAt w).ran then some (nth 0 (d.rtAt w).prev k) else none

/-- The value of a signal as task `i` reads it: a target's own results first (R116), then a delayed output, then the writer's value on its engine, else the
most recent committed one (R81, R88). -/
def Dev.readSig (d : Dev) (F : GF) (own : List BlkRes) (i s : Nat) : Word :=
  match (own.flatMap (·.outs)).find? (fun p => p.1 == s) with
  | some p => p.2
  | none =>
    match d.delayedNow F s with
    | some v => v
    | none =>
      let e := d.writerEng F s
      if e = 64 || e = (d.taskAt i).eng then nth 0 d.hrt.sig s else nth 0 d.hrt.copy s

/-! ### One run of a block (R80, R97) -/

/-- The IDENT_INJ block of the graph. -/
def Dev.injBlk (d : Dev) : Option Nat := (List.range d.hrt.graph.blks.length).find? (fun j => (d.blkAt j).typ == 0x2009)

/-- The IDENT_SOLVE blocks of PART 0 to 10 (R180). -/
def Dev.identSolve (d : Dev) : List (Option Nat) :=
  (List.range 11).map (fun p =>
    (List.range d.hrt.graph.blks.length).find? (fun j => (d.blkAt j).typ == 0x200A && (nth 0 (d.blkWords 0 (d.blkAt j)) 0).toNat == p))
/-- Their previous outputs. -/
def Dev.identParts (d : Dev) : List (List Word) := d.identSolve.map (fun o => match o with | none => [] | some j => (d.rtAt j).prev)
/-- Their COH_MIN. -/
def Dev.identCoh (d : Dev) : List Word := d.identSolve.map (fun o => match o with | none => 0 | some j => nth 0 (d.blkWords 0 (d.blkAt j)) 1)

/-- What a run of block `j` that starts at `x` sees. -/
def Dev.blkEnv (d : Dev) (x j : Nat) (ins : List Word) : BlkEnv :=
  let b := d.blkAt j
  let r := d.rtAt j
  let n := (nth (1, 0) d.hrt.graph.rates b.rate).1
  let g := (d.groupOf b).getD 16
  { rec_ := b, ts := runTs n d.P, n := n, p := d.P, a := d.blkWords 0 b, b := d.blkWords 1 b, actB := d.blkActB b, ins := ins, st := r.st
    prev := r.prev ++ List.replicate (b.outs.length - r.prev.length) 0, held := b.outs.map (nth 0 d.hrt.sig), first := !r.ran, frame := d.frame
    trig := nth (0, 0) d.anv.htSample b.trigger, derate := d.anv.derateIn
    mode := d.fld (Reg.PWM_CH_CFG (nth 0 (d.blkWords 0 b) 0).toNat) 30 29
    wrOk := !d.hotBusy && !d.follows, swapOk := !(decide (g < 16) && d.swapPend g), aged := x - Nat.max r.since (nth 0 d.lp.swapAt g)
    injSt := match d.injBlk with | none => [] | some k => (d.rtAt k).st
    injPar := match d.injBlk with | none => [] | some k => d.blkWords 0 (d.blkAt k)
    buf := d.hrt.ident, parts := d.identParts, cohMin := d.identCoh }

/-- The outputs a run commits: a delayed output gives the value of the run before; at its first run DELAY gives its state word, 0, and another block nothing
(R91, log entry 51). -/
def Dev.runOuts (d : Dev) (j : Nat) (o : BlkOut) : List (Nat × Word) :=
  let b := d.blkAt j
  let r := d.rtAt j
  (List.range b.outs.length).filterMap (fun k =>
    let v : Option Word :=
      if (delayedOuts b).contains k then (if r.ran then some (nth 0 r.prev k) else if b.typ = 0x0007 then some 0 else none) else nth none o.outs k
    v.map (fun w => (nth 0 b.outs k, w)))

/-- The migrations to which a word of signal `s` goes as well: frame n or n + 1 of a load that reads it from outside, homed in its writer's local SRAM (R116). -/
def Dev.migCopies (d : Dev) (F : GF) (s : Nat) : Nat :=
  if nth 0 d.hrt.place.home s != 0 then 0
  else (d.plc.migs.filter (fun m =>
    d.writerEng F s != m.src && (F.readers d.hrt.place.tasks d.taskEngs s).contains m.src)).length

/-- The words of a run's packet: copies for other engines or the word for the signal's home, recorder taps, then what the block itself sends (R88, R97). -/
def Dev.runWords (d : Dev) (F : GF) (e : Nat) (outs : List (Nat × Word)) (o : BlkOut) : List PWord :=
  let homes := d.hrt.place.home
  let copies (s : Nat) : Nat :=
    if nth 0 homes s = 1 || nth 0 homes s = 2 then 1
    else ((F.readers d.hrt.place.tasks d.taskEngs s).filter (fun k => k != e)).length + d.migCopies F s
  outs.flatMap (fun p => List.replicate (copies p.1) { dst := .sig p.1, val := p.2 })
    ++ (outs.filter (fun p => match d.hrt.graph.sigs[p.1]? with | some r => r.tap | none => false)).map (fun p => { dst := .tap p.1, val := p.2 })
    ++ o.words

/-- A run of block `j` of task `i` that starts at `x`, on the task's own engine or, with the target's own results, on a migration's target (R116). -/
def Dev.runBlk (d : Dev) (F : GF) (x i : Nat) (own : List BlkRes) (j : Nat) : BlkRes :=
  let b := d.blkAt j
  let o := runBlock (d.blkEnv x j (b.ins.map (d.readSig F own i)))
  let outs := d.runOuts j o
  let r := d.rtAt j
  { blk := j, outs := outs, words := d.runWords F (d.taskAt i).eng outs o, st := o.st
    prev := (List.range b.outs.length).map (fun k => (nth none o.outs k).getD (nth 0 r.prev k)), fe := o.fe }

/-- The fc a run of a block takes: its published cost, its posts and its reads of system SRAM (R74, R78). -/
def Dev.blkFc (d : Dev) (F : GF) (i j : Nat) : Nat :=
  F.share d.hrt.place.tasks d.hrt.place.home d.taskEngs (d.taskAt i).eng j + sumOf ((d.blkAt j).outs.map (d.migCopies F))

/-! ### The course of a task (R80, R81, R114) -/

/-- Task `i` starts on engine `e` in the fc of an instant: entry and exit, and the fc that stretched cycles and corrections add, come before its first block
(R74, R78; log entry 52). -/
def Dev.taskStart (d : Dev) (F : GF) (x e i extra : Nat) (shadow : Bool) : Dev :=
  let at_ := d.fcAt (d.fcOf x)
  match d.taskBlks i with
  | [] => d.setEng e fun q => { q with todo := q.todo.erase i }
  | j :: rest =>
    let own := if shadow then (d.engAt e).done.flatMap (·.2) else []
    let r := d.runBlk F at_ i own j
    d.setEng e fun q => { q with
      todo := q.todo.erase i
      run := some { task := i, todo := rest, cur := some r, endAt := at_ + (16 + extra + d.blkFc F i j) * uFc, fin := [], shadow := shadow } }

/-- Is a word a parameter write of a retune (R181)? -/
def PWord.isPar (w : PWord) : Bool := match w.dst with | .par _ _ => true | _ => false
/-- The request output rq of a CURRENT_DQ, its eighth. -/
def Dev.rqOf (d : Dev) (j : Nat) : Nat := nth 0x10000 (d.blkAt j).outs 7
/-- A retune's packet that has not committed yet decides on the request output `s` (R181, R183). -/
def Dev.rqOpen (d : Dev) (s : Nat) : Bool := d.hrt.posts.any (fun p => !p.shadow && p.words.any PWord.isPar && d.rqOf p.blk == s)

/-- A block's outputs at the end of its run: on its own engine they hold at once; what needs no packet is committed (R80), but the request output of a retune
only with the packet that decides on it. -/
def Dev.blkEnd (d : Dev) (e task endAt : Nat) (shadow : Bool) (r : BlkRes) : Dev :=
  let local_ (s : Nat) : Bool := !r.words.any (fun w => w.dst == .sig s) && !(r.words.any PWord.isPar && s == d.rqOf r.blk)
  let h := d.hrt
  let h := if shadow then h else
    { h with sig := r.outs.foldl (fun l p => upd l p.1 (fun _ => p.2)) h.sig
             copy := r.outs.foldl (fun l p => if local_ p.1 then upd l p.1 (fun _ => p.2) else l) h.copy }
  let h := if r.words.isEmpty then (if shadow then h else { h with comm := h.comm ++ [(r.blk, endAt)] })
    else { h with posts := h.posts ++ [{ eng := e, blk := r.blk, task := task, shadow := shadow, elig := endAt, words := r.words, granted := 0 }] }
  { d with hrt := h }

/-- A task finishes: every block's state is checkpointed in the bank of the frame (R114, R115), and its expiries stand for the frame (R154). Its state commits at the end of Collect, where
it is known not to be late (R103). -/
def Dev.taskEnd (d : Dev) (e : Nat) (r : Run) (fin : List BlkRes) : Dev :=
  let d := d.setEng e fun q => { q with run := none, done := q.done ++ [(r.task, fin)], finish := r.endAt }
  if r.shadow then d
  else
    let st (j : Nat) : List Word := match fin.find? (fun b => b.blk == j) with | some b => b.st | none => (d.rtAt j).st
    let d := (d.taskAt r.task).blks.foldl (fun d j => d.setRt j fun q => { q.setBank d.frame (some (d.frame, st j)) with bankWas := q.bank d.frame }) d
    { d with hrt := { d.hrt with feExp := d.hrt.feExp ++ fin.filterMap (fun b => b.fe.map (fun p =>
        { id := (d.blkAt b.blk).id, reaction := p.1, err := p.2, task := r.task })) } }

/-- The present block of an engine's run ends; the next one starts, or the task finishes. -/
def Dev.runStep (d : Dev) (F : GF) (e : Nat) (r : Run) : Dev :=
  match r.cur with
  | none => d.setEng e fun q => { q with run := none }
  | some b =>
    let d := d.blkEnd e r.task r.endAt r.shadow b
    let fin := r.fin ++ [b]
    match r.todo with
    | [] => d.taskEnd e r fin
    | j :: rest =>
      let own := if r.shadow then (d.engAt e).done.flatMap (·.2) ++ fin else []
      let nb := d.runBlk F r.endAt r.task own j
      d.setEng e fun q => { q with run := some { r with todo := rest, cur := some nb, endAt := r.endAt + d.blkFc F r.task j * uFc, fin := fin } }

/-- The block that ends first, by an instant: its engine and run; of several the lowest engine. -/
def Dev.nextEnd (d : Dev) (x : Nat) : Option (Nat × Run) :=
  minBy? (fun p => p.2.endAt) ((List.range 64).filterMap (fun e => match (d.engAt e).run with
    | none => none
    | some r => if r.endAt ≤ x then some (e, r) else none))

/-- Every block that ends by an instant ends, in the order of time. -/
def Dev.settleGo (F : GF) (x : Nat) : Nat → Dev → Dev
  | 0, d => d
  | fuel + 1, d => match d.nextEnd x with
    | none => d
    | some (e, r) => settleGo F x fuel (d.runStep F e r)

/-- The engines as they stand at an instant. -/
def Dev.hrtSettle (d : Dev) (x : Nat) : Dev :=
  Dev.settleGo d.gf x (sumOf (d.hrt.eng.map (fun q => match q.run with | none => 0 | some r => r.todo.length + 1))) d

/-- c_task of a placed task (R78). -/
def Dev.taskCost (d : Dev) (F : GF) (i : Nat) : Nat := F.cost d.hrt.place.tasks d.hrt.place.home d.taskEngs (d.taskAt i).eng i

/-- The engine is the target of a migration in its compare frame (R116). -/
def Dev.isTarget (d : Dev) (e : Nat) : Bool := d.plc.migs.any (fun m => m.tgt == e && m.stage == 2)

/-- The task an engine may start at an instant: none is running, and the fc lies from 900 to the end of Collect (R80, R103). -/
def Dev.mayStart (d : Dev) (x e : Nat) : Option Nat :=
  if d.running && !d.frm.colDone && decide (900 ≤ d.fcOf x) && decide (d.fcOf x + 88 < d.P) && (d.engAt e).run.isNone
      && (d.engState e == 1 || d.engState e == 2) then (d.engAt e).todo.head? else none

/-- A corrected memory error of an engine (R75). -/
def Dev.eccCorrected (d : Dev) (x : Nat) (q : EccError) : Dev :=
  ((d.inc (Reg.HRT_ENG_ECC q.engine) 31 16).setB Reg.HRT_STAT 0 true).raise .fabric x 162 0x4102 [(1, q.engine), (1, q.sram), (2, q.word)]

/-- An engine stops in the fc of an uncorrectable error (R76): its unfinished tasks are late, and its packets not yet committed are discarded whole. -/
def Dev.engHalt (d : Dev) (x e : Nat) : Dev :=
  let target := d.isTarget e
  let q := d.engAt e
  let lost := d.hrt.posts.filter (fun p => p.eng == e && !p.shadow)
  let late := if target then [] else q.todo ++ (match q.run with | none => [] | some r => [r.task]) ++ lost.map (·.task)
  let d := { d.setEng e (fun q => { q with todo := [], run := none }) with
    hrt := { (d.setEng e (fun q => { q with todo := [], run := none })).hrt with
      posts := d.hrt.posts.filter (fun p => p.eng != e), lateTasks := (d.hrt.lateTasks ++ late).eraseDups } }
  match lost with
  | [] => d
  | p :: _ =>
    let d := (lost.foldl (fun d _ => d.inc Reg.COL_DISC_CNT 31 0) d).setB Reg.HRT_STAT 4 true
    { d with hrt := { d.hrt with recFlags := d.hrt.recFlags ||| 4 } }.raise .fabric x 164 0x4104 [(4, (d.blkAt p.blk).id), (1, p.words.length - p.granted)]

/-! ### The collector (R98 to R101, R235) -/

/-- Is a destination guarded (R101)? -/
def Dest.guarded : Dest → Bool
  | .pwm _ _ => true
  | .edge _ => true
  | .thresh _ _ => true
  | _ => false

/-- A word that makes its packet's guarded words discarded: non-finite, or for a sigma-delta limit not greater than 0 (R101, R212). -/
def PWord.held (w : PWord) : Bool :=
  match w.dst with
  | .thresh k _ => !Fp.isFinite w.val || (k == 0 && !Fp.gt w.val Fp.zero)
  | _ => false

/-- The register address of a guarded destination. -/
def Dest.addr : Dest → Nat
  | .thresh 0 i => Reg.SDM_CH_PLIM i
  | .thresh _ i => Reg.CMP_CH_THR i
  | _ => 0

/-- A threshold word is committed (R212, R235). -/
def Dev.threshCommit (d : Dev) (k i : Nat) (v : Word) : Dev :=
  if k = 0 then d.wr (Reg.SDM_CH_PLIM i) v
  else
    let r := Fp.add (Fp.div v (d.rd (Reg.ADC_CH_GAIN i))) (d.rd (Reg.ADC_CH_OFFSET i))
    let f := d.fresh
    let c : Int × Dev := if Fp.isNaN r then (toSigned 14 (Sys2Proof.Config.freeWord f.1).toNat, f.2) else (Fp.toIntSat (-8192) 8191 r, d)
    let d := c.2
    let a := Reg.CMP_CH_THR i
    let hi := if k = 1 then c.1 else toSigned 14 (d.fld a 29 16)
    let lo := if k = 2 then c.1 else toSigned 14 (d.fld a 13 0)
    if hi < lo then d.setB Reg.CMP_STAT 0 true
    else (d.setF a 29 16 (ofSigned 14 hi)).setF a 13 0 (ofSigned 14 lo)

/-- A word of a packet reaches its destination. PWM sets, edge lists and parameter words are taken together. -/
def Dev.wordCommit (d : Dev) (x : Nat) (w : PWord) : Dev :=
  match w.dst with
  | .sig s => { d with hrt := { d.hrt with copy := upd d.hrt.copy s (fun _ => w.val) } }
  | .tap s => { d with hrt := { d.hrt with tap := upd d.hrt.tap s (fun _ => w.val) } }
  | .thresh k i => d.threshCommit k i w.val
  | .swap => d.swapCmd d.frame w.val.toNat
  | .urg => let c := w.val.toNat; d.urgReq x (adcBankOf c) (c - 12 * adcBankOf c)
  | .ident i => { d with hrt := { d.hrt with ident := assocSet i w.val d.hrt.ident } }
  | .pwm _ _ => d
  | .edge _ => d
  | .par _ _ => d

/-- The CMPU and CMPD last committed in this frame to a channel whose writer is mirrored (R339). -/
def Dev.noteResult (d : Dev) (n : Nat) (u v : Word) : Dev :=
  let old := d.twn.results.filter (fun (q : Nat × Nat × Word × Word) => !(q.1 == d.frame && q.2.1 == n))
  { d with twn := { d.twn with results := old ++ [(d.frame, n, u, v)] } }

/-- The PWM words of a packet are committed as sets and lists; they present on the fourth PWM clock after `end_` (R285). -/
def Dev.pwmWords (d : Dev) (x end_ blk : Nat) (ws : List PWord) : Dev :=
  let chans := (ws.filterMap (fun w => match w.dst with | .pwm n _ => some n | _ => none)).eraseDups
  let val (n r : Nat) : Option Word := (ws.find? (fun w => w.dst == .pwm n r)).map (·.val)
  let d := chans.foldl (fun d n =>
    let d := if d.twn.mirrored.contains blk then d.noteResult n ((val n 1).getD 0) ((val n 2).getD 0) else d
    d.pwmCommit x (presentAt end_) n (val n 0) (val n 1) (val n 2)) d
  let lists := (ws.filterMap (fun w => match w.dst with | .edge n => some n | _ => none)).eraseDups
  lists.foldl (fun d n => d.pwmCommitList (presentAt end_) n ((ws.filter (fun w => w.dst == .edge n)).map (·.val))) d

/-- A SWAP_REQ on engine `e` that has read a request output as a retune's run foresaw it runs as if it had read what the commit then decided: its result, its
packet, which stands behind the retune's, and its output. -/
def Dev.rerunSwap (d : Dev) (F : GF) (end_ e s : Nat) : Dev :=
  let q := d.engAt e
  let old : List (Nat × BlkRes) := (q.done.flatMap (fun p => p.2.map (fun b => (p.1, b)))) ++
    (match q.run with | none => [] | some r => (r.fin ++ r.cur.toList).map (fun b => (r.task, b)))
  let stale := old.filter (fun p => let b := d.blkAt p.2.blk; b.typ == 0x1011 && b.ins.contains s)
  stale.foldl (fun d p =>
    let b := d.runBlk F (d.fcAt 0) p.1 [] p.2.blk
    let f (o : BlkRes) : BlkRes := if o.blk = b.blk then b else o
    let cur := match q.run with | none => false | some r => (r.cur.toList).any (fun o => o.blk == b.blk)
    let d := d.setEng e fun q => { q with
      done := q.done.map (fun t => (t.1, t.2.map f)), run := q.run.map (fun r => { r with cur := r.cur.map f, fin := r.fin.map f }) }
    let put (l : List Word) : List Word := if cur then l else b.outs.foldl (fun l o => upd l o.1 (fun _ => o.2)) l
    let mine (t : Packet) : Bool := t.eng == e && t.blk == b.blk && !t.shadow
    let posts := (d.hrt.posts.map (fun t => if mine t then { t with words := b.words } else t)).filter (fun t => !t.words.isEmpty)
    let more : List Packet := if cur || b.words.isEmpty || posts.any mine then []
      else [{ eng := e, blk := b.blk, task := p.1, shadow := false, elig := end_, words := b.words, granted := 0 }]
    { d with hrt := { d.hrt with
        sig := put d.hrt.sig, copy := if p.2.words.any (fun w => match w.dst with | .sig _ => true | _ => false) then d.hrt.copy else put d.hrt.copy
        posts := posts ++ more } }) d

/-- The parameter words of a retune are written together. Whether they are accepted is decided here, and with it rq of the block's run (R181, R183). -/
def Dev.parWords (d : Dev) (end_ : Nat) (p : Packet) (ws : List PWord) : Dev :=
  let ps := ws.filterMap (fun w => match w.dst with | .par set i => some (set, i, w.val) | _ => none)
  match ps with
  | [] => d
  | (set, _, _) :: _ =>
    let list := ps.map (fun p => (p.2.1, p.2.2))
    let rq := ofB (list.all (fun w => d.parCause set list w.1 == 0))
    let d := d.parWrite d.frame set list
    let s := d.rqOf p.blk
    let foreseen := nth 0 d.hrt.sig s
    let put (l : List Word) : List Word := upd l s (fun _ => rq)
    let tapped := match d.hrt.graph.sigs[s]? with | some r => r.tap | none => false
    let d := { d with hrt := { d.hrt with sig := put d.hrt.sig, copy := put d.hrt.copy, tap := if tapped then put d.hrt.tap else d.hrt.tap } }
    if foreseen = rq then d else d.rerunSwap d.gf end_ p.eng s

/-- A packet commits at all its destinations together, in the fc that ends at `end_` (R99, R101). -/
def Dev.packetCommit (d : Dev) (x end_ : Nat) (p : Packet) : Dev :=
  if p.shadow then d
  else
    let bad := p.words.find? PWord.held
    let ws := if bad.isSome then p.words.filter (fun w => !w.dst.guarded) else p.words
    let d := match bad with
      | none => d
      | some w =>
        let d := if Fp.isFinite w.val then d.setB Reg.SDM_STAT 0 true else d
        (d.setB Reg.HRT_STAT 5 true).raise .fabric x 161 0x4101 [(4, (d.blkAt p.blk).id), (4, w.dst.addr)]
    let d := ws.foldl (fun d w => d.wordCommit x w) d
    let d := (d.pwmWords x end_ p.blk ws).parWords end_ p ws
    { d with hrt := { d.hrt with comm := d.hrt.comm ++ [(p.blk, end_)] }, frm := { d.frm with lastFc := d.fcOf x } }

/-- The first packet of an engine that has words left. -/
def Dev.headPacket (d : Dev) (e : Nat) : Option Packet := d.hrt.posts.find? (fun p => p.eng == e)

/-- One grant (R98): the next engine after the last granted one with an eligible word. -/
def Dev.grantOne (d : Dev) (x end_ : Nat) : Option Dev :=
  let last := d.fld Reg.COL_RR 5 0
  let able := (List.range 64).filterMap (fun k =>
    let e := (last + 1 + k) % 64
    match d.headPacket e with
    | none => none
    | some p => if p.elig ≤ x then some p else none)
  match able with
  | [] => none
  | p :: _ =>
    let q := { p with granted := p.granted + 1 }
    let d := (d.setF Reg.COL_RR 5 0 p.eng)
    let d := { d with hrt := { d.hrt with colWords := d.hrt.colWords + 1 } }
    if q.granted < q.words.length then
      some { d with hrt := { d.hrt with posts := upd d.hrt.posts (d.hrt.posts.idxOf p) (fun _ => q) } }
    else some ({ d with hrt := { d.hrt with posts := d.hrt.posts.erase p } }.packetCommit x end_ q)

/-- The grants of one fc. -/
def Dev.grants (x end_ : Nat) : Nat → Dev → Dev
  | 0, d => d
  | n + 1, d => match d.grantOne x end_ with
    | none => d
    | some d' => grants x end_ n d'

/-- COLLECTOR_CYCLE (R98): in one fc, from Compute to the end of Collect, up to 16 eligible words are granted. -/
def execCollectorCycle (t : Nat) (s : State) : Out :=
  act t s fun x d => d.liveIn 5 fun d =>
    let k := d.fcOf x
    if !d.running || d.frm.colDone || decide (d.P < k + 89) || decide (d.fcAt k < d.hrt.colAt) then d
    else
      let d := d.hrtSettle (d.fcAt k)
      let d := { d with hrt := { d.hrt with colAt := d.fcAt (k + 1) } }
      Dev.grants (d.fcAt k) (d.fcAt (k + 1)) 16 d

/-- CLR_MAX (R98): COL_WORDS.MAX_WORDS clears. -/
def execClrMax (t : Nat) (s : State) : Out := act t s fun _ d => d.live fun d => d.setF Reg.COL_WORDS 29 16 0

/-! ### Switching blocks (R105) -/

/-- The block of an INSTANCE_ID. -/
def Dev.blkOfId (d : Dev) (id : Nat) : Option Nat := (List.range d.hrt.graph.blks.length).find? (fun j => (d.blkAt j).id == id)

/-- HRT_BLKSTAT.STATE of the addressed block. -/
def Dev.blkStat (d : Dev) : Nat := match d.blkOfId (d.rd Reg.HRT_BLKID).toNat with | none => 0 | some j => (d.rtAt j).mode

/-- HRT_BLKCMD for the addressed block (R105): off, a running block is off pending and an On that is pending is cancelled; on, a block that is off is on pending
and an Off that is pending is cancelled. -/
def Dev.blkCmd (d : Dev) (on : Bool) : Dev :=
  match d.blkOfId (d.rd Reg.HRT_BLKID).toNat with
  | none => d
  | some j => d.setRt j fun r =>
    { r with mode := if on then (if r.mode = 3 then 4 else if r.mode = 2 then 1 else r.mode) else (if r.mode = 1 then 2 else if r.mode = 4 then 3 else r.mode) }

/-- BLOCK_OFF (R105). -/
def execBlockOff (t : Nat) (s : State) : Out := act t s fun _ d => d.live fun d => d.blkCmd false

/-- BLOCK_ON (R105). -/
def execBlockOn (t : Nat) (s : State) : Out := act t s fun _ d => d.live fun d => d.blkCmd true

/-- A block's outputs in signal memory take given values. -/
def Dev.putOuts (d : Dev) (b : BlkRec) (vs : List (Option Word)) : Dev :=
  let put (l : List Word) : List Word := (List.range b.outs.length).foldl (fun l k => match nth none vs k with
    | none => l
    | some v => upd l (nth 0 b.outs k) (fun _ => v)) l
  { d with hrt := { d.hrt with sig := put d.hrt.sig, copy := put d.hrt.copy, tap := put d.hrt.tap } }

/-- An Off takes effect at the T0 of frame `n` (R105, R302). -/
def Dev.blkOffNow (d : Dev) (x n j : Nat) : Dev :=
  let b := d.blkAt j
  let w := d.blkWords 0 b
  let d := (d.setRt j fun r => { r with mode := 3 }).putOuts b (offVals b w)
  let d := d.pwmWords x (x + uFc) j (offDuty b w (d.fld (Reg.PWM_CH_CFG (nth 0 w 0).toNat) 30 29))
  d.raise .fabric x 166 0x4106 [(4, b.id), (4, n)]

/-- Pending switches take effect at a T0 (R105): a block switched on restarts with state words 0. -/
def Dev.blkSwitch (d : Dev) (x n : Nat) : Dev :=
  (List.range d.hrt.graph.blks.length).foldl (fun d j =>
    if (d.rtAt j).mode = 2 then d.blkOffNow x n j
    else if (d.rtAt j).mode = 4 then d.setRt j fun r => { r with mode := 1, st := [], prev := [], ran := false, since := x }
    else d) d

/-! ### A T0 (R20, R83, R84, R98) -/

/-- The sub-rate counters advance (R20). -/
def Dev.ratesT0 (d : Dev) : Dev := { d with hrt := { d.hrt with rate := d.hrt.rate.map (fun p => (p.1, if p.1 = 0 then 0 else (p.2 + 1) % p.1)) } }

/-- What the Hearth does first at a T0: the collector's count, the triggers' samples, the derate input; nothing of the frame before is carried on. -/
def Dev.hrtT0 (d : Dev) : Dev :=
  let last := Nat.min d.hrt.colWords 0x3FFF
  let d := d.setF Reg.COL_WORDS 13 0 last
  let d := if d.fld Reg.COL_WORDS 29 16 < last then d.setF Reg.COL_WORDS 29 16 last else d
  { d with
    anv := { d.anv with htSample := d.anv.ht, ht := List.replicate 32 (0, 0), derateIn := d.anv.derateReq, derateReq := false }
    hrt := { d.hrt with
      posts := [], comm := [], colWords := 0, recFlags := 0, feExp := [], lateTasks := [], due := []
      eng := d.hrt.eng.map (fun q => { q with todo := [], run := none, done := [], late := false, hadDue := false }) } }

/-- The tasks of the frame (R80): those of engines that work, `held` apart; a target in its compare frame has its source's. A task none of whose blocks runs in
the frame does not start and costs nothing, entry and exit included (DESIGN CHOICE, log entry 89: R80 speaks of due tasks only). -/
def Dev.hrtDue (d : Dev) (held : List Nat) : Dev :=
  let mine (e : Nat) : List Nat := (nth [] d.hrt.place.order e).filter (fun i => !held.contains i && !(d.taskBlks i).isEmpty)
  let d := (List.range 64).foldl (fun d e =>
    if d.engState e == 1 || d.engState e == 2 then
      let src := match d.plc.migs.find? (fun m => m.tgt == e) with | none => some e | some m => if m.stage = 2 then some m.src else none
      match src with
      | none => d
      | some k => if (mine k).isEmpty then d else d.setEng e fun q => { q with todo := mine k, hadDue := true }
    else d) d
  { d with hrt := { d.hrt with due := ((List.range 64).filter (fun e => d.engState e == 1 || d.engState e == 2)).flatMap mine } }

/-! ### The end of Collect (R102 to R104, R154) -/

/-- The tasks that are late in the frame: not finished, or with a packet that is discarded (R103). -/
def Dev.lateNow (d : Dev) : List Nat :=
  let unfinished := (List.range 64).flatMap (fun e =>
    if d.isTarget e then [] else (d.engAt e).todo ++ (match (d.engAt e).run with | none => [] | some r => [r.task]))
  let lost := (d.hrt.posts.filter (fun p => !p.shadow)).map (·.task)
  (List.range d.hrt.place.tasks.length).filter (fun i => (d.hrt.lateTasks ++ unfinished ++ lost).contains i)

/-- Packets not committed are discarded whole (R102). -/
def Dev.discardPosts (d : Dev) (x : Nat) : Dev :=
  match d.hrt.posts.filter (fun p => !p.shadow) with
  | [] => { d with hrt := { d.hrt with posts := [] } }
  | p :: ps =>
    let d := ((p :: ps).foldl (fun d _ => d.inc Reg.COL_DISC_CNT 31 0) d).setB Reg.HRT_STAT 4 true
    { d with hrt := { d.hrt with posts := [], recFlags := d.hrt.recFlags ||| 4 } }.raise .fabric x 164 0x4104 [(4, (d.blkAt p.blk).id), (1, p.words.length - p.granted)]

/-- Finished tasks that are not late commit their state; a late one keeps the state it had, and the checkpoint it replaced in this frame's bank stands (R103,
R120). -/
def Dev.commitStates (d : Dev) (late : List Nat) : Dev :=
  (List.range 64).foldl (fun d e =>
    if d.isTarget e then d
    else (d.engAt e).done.foldl (fun d p =>
      if late.contains p.1 then (d.taskAt p.1).blks.foldl (fun d j => d.setRt j fun r => r.setBank d.frame r.bankWas) d
      else p.2.foldl (fun d b => d.setRt b.blk fun r => { r with st := b.st, prev := b.prev, ran := true }) d) d) d

/-- Late tasks are counted and reported (R104). Of several in one frame the last, which HRT_LATE_ID and source 160 name, is the one formed last (DESIGN CHOICE,
log entry 89: R104 orders them not). -/
def Dev.reportLate (d : Dev) (x : Nat) (late : List Nat) : Dev :=
  match late.getLast? with
  | none => d
  | some i =>
    let t := d.taskAt i
    let id := (d.blkAt (t.blks.headD 0)).id
    let d := ((late.foldl (fun d _ => d.inc Reg.HRT_LATE_CNT 31 0) d).wrN Reg.HRT_LATE_ID id).setB Reg.HRT_STAT 2 true
    { d with hrt := { d.hrt with recFlags := d.hrt.recFlags ||| 1 } }.raise .fabric x 160 0x4100 [(4, id), (1, t.eng), (4, d.frame)]

/-- FINISH_FC of every engine for the frame: 0 where no task was due (DESIGN CHOICE, log entry 52), 0xFFFF where one was late (R104). -/
def Dev.finishFc (d : Dev) (late : List Nat) : Dev :=
  (List.range 64).foldl (fun d e =>
    let isLate := late.any (fun i => (d.taskAt i).eng == e)
    let q := d.engAt e
    let v := if isLate then 0xFFFF else if q.hadDue && !d.isTarget e then (q.finish - d.frm.t0) / uFc else 0
    (d.setF (Reg.HRT_ENG_TIME e) 31 16 v).setEng e fun q => { q with late := isLate, todo := [], run := none }) d

/-- The expiries of the frame's finished tasks raise their reactions (R154). -/
def Dev.raiseReactions (d : Dev) (x : Nat) (late : List Nat) : Dev :=
  let es := d.hrt.feExp.filter (fun f => !late.contains f.task)
  match minBy? (fun f => f.id) es with
  | none => d
  | some lo =>
    let d := ((es.foldl (fun d _ => d.inc Reg.LP_FE_CNT 31 0) d).wrN Reg.LP_FE_LAST lo.id).setB Reg.LP_STAT 2 true
    (((es.map (·.reaction)).eraseDups)).foldl (fun d r => d.raise .fabric x (252 + r) (0xEF00 + r) [(4, lo.id), (4, lo.err.toNat), (4, d.frame)]) d

end Sys2Proof.Machine
end

