-- ==== Sys2Proof/Machine/Placer.lean ====
section
/-! DEFINITION. Machine/Placer.lean: the Placer's work while an image runs: migrations, recoveries, slow engines, thermal spreading and self-tests
(R107 to R109, R114 to R129). -/

namespace Sys2Proof.Machine

/-- The device with the Placer's own state changed. -/
def Dev.setPlc (d : Dev) (f : PlcSt → PlcSt) : Dev := { d with plc := f d.plc }

/-! ### Engine states and counts (R108, R113, R129) -/

/-- The engines in given states. -/
def Dev.engsIn (d : Dev) (l : List Nat) : List Nat := (List.range 64).filter (fun e => l.contains (d.engState e))
/-- The free spares. -/
def Dev.spares (d : Dev) : List Nat := d.engsIn [0]
/-- The reserve: engines in state spare, self-test or test-queued (R108). -/
def Dev.reserve (d : Dev) : Nat := (d.engsIn [0, 3, 6]).length

/-- Event 175 for a reserve below 4 (R113). -/
def Dev.reserveShort (d : Dev) (x : Nat) : Dev :=
  (d.setB Reg.PLC_STAT 6 true).raise .fabric x 175 0x4110 [(1, d.reserve), (2, d.plc.unplaced.length)]

/-- The counts of PLC_STAT, HRT_STAT and PLC_ST_STAT as the engines stand; a reserve that has fallen below 4 is reported. -/
def Dev.plcStat (d : Dev) (x : Nat) : Dev :=
  let old := d.fld Reg.PLC_STAT 30 24
  let d := (((d.setF Reg.PLC_STAT 30 24 d.reserve).setF Reg.PLC_STAT 22 16 d.spares.length).setF Reg.PLC_STAT 1 0 d.plc.migs.length).setB
    Reg.PLC_STAT 7 (!d.plc.unplaced.isEmpty)
  let d := (d.setF Reg.HRT_STAT 14 8 (d.hrt.place.order.filter (fun l => !l.isEmpty)).length).setF Reg.PLC_ST_STAT 3 0 d.plc.queue.length
  if decide (d.reserve < 4) && decide (4 ≤ old) then d.reserveShort x else d

/-- An engine enters a state (R108). -/
def Dev.engTo (d : Dev) (x e s : Nat) : Dev := (d.setF (Reg.HRT_ENG_STAT e) 2 0 s).plcStat x

/-- PLAN_FC of every engine, from the placement. -/
def Dev.planRegs (d : Dev) : Dev :=
  (List.range 64).foldl (fun d e => d.setF (Reg.HRT_ENG_TIME e) 15 0 (Nat.min (nth 0 d.hrt.place.plan e) 0xFFFF)) d

/-- The device with the placement changed. -/
def Dev.setPlace (d : Dev) (f : Placement → Placement) : Dev := { d with hrt := { d.hrt with place := f d.hrt.place } }

/-- SLOW_CNT of an engine. -/
def Dev.slowCnt (d : Dev) (e : Nat) : Nat := d.fld (Reg.PLC_ENG_INFO e) 24 21
/-- The slow threshold for P (R122). -/
def slowFc (p : Nat) : Nat := 900 + 9 * (p - 1500) / 10

/-! ### Choosing a target (R107, R123, R124) -/

/-- The temperature of a quadrant in 0.1 °C (R107). -/
def Dev.quadTemp (d : Dev) (q : Nat) : Int := toSigned 16 (d.fld (Reg.TMP_S_DATA q) 31 16)
/-- A quadrant is hot (R123). -/
def Dev.quadHot (d : Dev) (q : Nat) : Bool := nth false d.plc.hot q

/-- The best of some free spares: the lowest SLOW_CNT, then the coolest quadrant, then the lowest number (R124). -/
def Dev.bestSpare (d : Dev) (l : List Nat) : Option Nat :=
  minBy? (fun e => (d.slowCnt e * 65536 + (d.quadTemp (e / 16) + 32768).toNat) * 64 + e) l

/-- The target among the free spares outside a quadrant and outside every hot one (R124). -/
def Dev.target (d : Dev) (avoid : Nat) : Option Nat := d.bestSpare (d.spares.filter (fun e => e / 16 != avoid && !d.quadHot (e / 16)))

/-- The free spare for a recovery. Where every free spare lies in a hot quadrant it takes one of those: R121 frees an engine only where no free spare exists
(DESIGN CHOICE, log entry 89). -/
def Dev.recovSpare (d : Dev) : Option Nat := match d.target 4 with | some t => some t | none => d.bestSpare d.spares

/-- At a measurement of Temper each quadrant's excess over the mean of the other three is judged; a measurement at which it fails breaks it (R123). -/
def Dev.thermEval (d : Dev) (x : Nat) : Dev :=
  let ts := (List.range 4).map d.quadTemp
  let all := ts.foldl (· + ·) 0
  let ex := ts.map (fun t => 4 * t - all)
  let exceeds := ex.map (fun e => decide (e > 30 * (d.fld Reg.PLC_CFG 7 0 : Int)))
  let since := (List.range 4).map (fun q => if nth false exceeds q then (match nth none d.plc.hotSince q with | some t => some t | none => some x) else none)
  let hot := since.map (fun t => match t with | none => false | some t => decide (t + d.fld Reg.PLC_THERM_HOLD 15 0 * uMs ≤ x))
  { d with plc := { d.plc with hotSince := since, hot := hot, excess := ex } }

/-! ### Self-tests (R125 to R127) -/

/-- A self-test of an engine starts; it lasts 120 ms (R125). -/
def Dev.testStart (d : Dev) (x e : Nat) : Dev :=
  let d := d.setPlc fun p => { p with test := some (e, x + 120 * uMs), testDue := p.testDue.filter (fun (q : TestReq) => q.eng != e) }
  ((d.setB Reg.PLC_ST_STAT 15 true).setF Reg.PLC_ST_STAT 13 8 e).engTo x e 3

/-- A running self-test is aborted by a recovery or a full load: its engine is spare (R121, R108). -/
def Dev.testAbort (d : Dev) (x : Nat) : Dev :=
  match d.plc.test with
  | none => d
  | some (e, _) =>
    let d := { d with plc := { d.plc with test := none } }
    ((d.setB Reg.PLC_ST_STAT 15 false).setF Reg.PLC_ST_STAT 7 6 3).engTo x e 0

/-- May a request start as far as R127 goes, the queue apart: no test running nor about to follow a self-test migration in flight (R125), HOLD 0, and at least 2
free spares throughout the test and the migration it needs? An engine that is spare or active takes one free spare. -/
def Dev.testAble (d : Dev) (e : Nat) : Bool :=
  let s := d.engState e
  d.plc.test.isNone && !d.plc.migs.any (fun m => m.reason == 2) && !d.bit Reg.PLC_CTRL 0
    && decide ((if s = 0 || s = 1 then 3 else 2) ≤ d.spares.length)

/-- No new migration of a load starts for 64 frames after an abort, whichever engine has it (R118). -/
def Dev.migBarred (d : Dev) (n src : Nat) : Bool :=
  d.plc.holdOff.any (fun (p : List Nat × Nat) => decide (frmSince n p.2 < 64) && (nth [] d.hrt.place.order src).any p.1.contains)

/-- The oldest waiting request: an entry reserved by R122 is none until its source is test-queued. -/
def Dev.queueHead (d : Dev) : Option TestReq := d.plc.queue.find? (fun q => !q.reserved)

/-- A self-test request enters the queue of 8, or is refused (R127). -/
def Dev.testQueue (d : Dev) (x e : Nat) (fw : Bool) : Dev :=
  if d.plc.queue.length < 8 then
    let d := d.setPlc fun p => { p with queue := p.queue ++ [{ eng := e, reserved := false, fw := fw }] }
    (d.plcStat x).raise .fabric x 174 0x410E [(1, e), (1, d.plc.queue.length)]
  else (d.setB Reg.PLC_STAT 5 true).raise .fabric x 174 0x410F [(1, e), (1, d.plc.queue.length)]

/-- A request of firmware is merged with those waiting for the engine (R127). -/
def mergeReq (e : Nat) (fw : Bool) (l : List TestReq) : List TestReq := l.map (fun q => if q.eng = e then { q with fw := q.fw || fw } else q)

/-- A self-test request (R127): it starts at once by the next T0's step 5, waits in the queue, merges, is refused or ignored. For an engine that is migrating it
is judged when the migration ends (R119). A request for an active engine whose load may not migrate for 64 frames (R118) does not start at once. -/
def Dev.testRequest (d : Dev) (x e : Nat) (firmware : Bool) : Dev :=
  let s := d.engState e
  if s = 5 || (s = 4 && !firmware) then d
  else if s = 2 then d.setPlc fun p => { p with testLater := p.testLater.filter (fun q => q.eng != e) ++
    [{ eng := e, reserved := false, fw := firmware || p.testLater.any (fun q => q.eng == e && q.fw) }] }
  else if (d.plc.queue ++ d.plc.testDue).any (fun q => q.eng == e) then
    d.setPlc fun p => { p with queue := mergeReq e firmware p.queue, testDue := mergeReq e firmware p.testDue }
  else if d.testAble e && d.queueHead.isNone && d.plc.testDue.isEmpty && !(s == 1 && d.migBarred (d.frame + 1) e) then
    { d with plc := { d.plc with testDue := [{ eng := e, reserved := false, fw := firmware }] } }
  else d.testQueue x e firmware

/-- The requests for an engine that are not in `keep` leave the queue. -/
def Dev.dropReqs (d : Dev) (x e : Nat) (keep : TestReq → Bool) : Dev :=
  let f (l : List TestReq) : List TestReq := l.filter (fun q => q.eng != e || keep q)
  (d.setPlc fun p => { p with queue := f p.queue, testDue := f p.testDue }).plcStat x

/-- Every request for an engine leaves the queue. -/
def Dev.dropReq (d : Dev) (x e : Nat) : Dev := d.dropReqs x e (fun _ => false)

/-- An engine is retired (R120, R122): only firmware's requests for it still stand (R127). -/
def Dev.retire (d : Dev) (x e cause : Nat) : Dev :=
  ((((d.dropReqs x e (fun q => q.fw && !q.reserved)).setB Reg.PLC_STAT 2 true).engTo x e 4)).raise .fabric x 170 0x410A [(1, e), (1, cause)]

/-- Requests for engines that are no more migrating are judged afresh (R119). -/
def Dev.testAgain (d : Dev) (x : Nat) : Dev :=
  let go := d.plc.testLater.filter (fun q => d.engState q.eng != 2)
  let d := d.setPlc fun p => { p with testLater := p.testLater.filter (fun q => !go.contains q) }
  go.foldl (fun d q => d.testRequest x q.eng q.fw) d

/-! ### Migrations (R116 to R119, R122) -/

/-- At least one task of the load is due in the frame after this one (R116). -/
def Dev.dueNext (d : Dev) (e : Nat) : Bool :=
  (nth [] d.hrt.place.order e).any (fun i =>
    let r := nth (1, 0) d.hrt.graph.rates (d.taskAt i).rate
    r.1 == 1 || (match assocGet r.1 d.hrt.rate with | none => false | some c => (c + 1) % r.1 == r.2))

/-- The signals of which a migration of an engine's load needs copies: those the load reads, a task outside it writes, and their writer's local SRAM holds
(R116). -/
def Dev.migIns (d : Dev) (F : GF) (e : Nat) : List Nat :=
  (((nth [] d.hrt.place.order e).flatMap (fun i => (d.taskAt i).blks.flatMap (fun j => (F.blk j).ins))).eraseDups).filter (fun s =>
    nth 3 d.hrt.place.home s == 0 && decide (d.writerEng F s < 64) && d.writerEng F s != e)

/-- The words that the compare frame of a migration of an engine's load adds to those of task `i`: the target's posts, and a copy for each write of an input of
the load (R116). -/
def Dev.migExtra (d : Dev) (F : GF) (own : Nat → Nat) (e i : Nat) : Nat :=
  (if (d.taskAt i).eng = e then own i else 0) + (((d.taskAt i).blks.flatMap (fun j => (F.blk j).outs)).filter (d.migIns F e).contains).length

/-- The collector words of frames n and n + 1 of a migration of an engine's load stay within 8,192 in the heaviest case, with those of the migrations in flight
(R116): in frame n one word for each input signal, in frame n + 1 the compare frame's words. -/
def Dev.migWordsOk (d : Dev) (e : Nat) : Bool :=
  let F := d.gf
  let ts := d.hrt.place.tasks
  let is := (List.range ts.length).filter (fun i => decide ((d.taskAt i).eng < 64))
  let own (i : Nat) : Nat := sumOf ((d.taskAt i).blks.map (F.postWords ts d.hrt.place.home d.taskEngs (d.taskAt i).eng))
  let at1 := e :: (d.plc.migs.filter (fun m => m.stage == 1)).map (·.src)
  let at2 := (d.plc.migs.filter (fun m => m.stage == 2)).map (·.src)
  let words (cmp : List Nat) : Nat := F.heaviest ts is (fun i => own i + sumOf (cmp.map (fun k => d.migExtra F own k i)))
  decide (words at2 + sumOf (at1.map (fun k => (d.migIns F k).length)) ≤ 8192) && decide (words at1 ≤ 8192)

/-- In frame n the target receives the current value of every input its load reads: one word for a signal whose writer does not run in the frame, eligible from
the start of Compute; a writer that runs sends it with its packet (R116). -/
def Dev.migSend (d : Dev) (x e : Nat) : Dev :=
  let F := d.gf
  let idle := (d.migIns F e).filter (fun s => match nth none F.wr s with | none => false | some (w, _) => !d.blkRuns w)
  { d with hrt := { d.hrt with posts := d.hrt.posts ++ idle.map (fun s =>
      { eng := d.writerEng F s, blk := 0, task := 0, shadow := true, elig := x + 900 * uFc, words := [{ dst := .sig s, val := nth 0 d.hrt.sig s }], granted := 0 }) } }

/-- The register index a new migration takes. -/
def Dev.migSlot (d : Dev) : Nat := if d.plc.migs.any (fun m => m.k == 0) then 1 else 0

/-- PLC_MIG_STAT of a migration. -/
def Dev.migReg (d : Dev) (m : Mig) : Dev :=
  d.wrN (Reg.PLC_MIG_STAT m.k) (m.stage * 2 ^ 30 + m.reason * 2 ^ 28 + m.tgt * 2 ^ 8 + m.src)

/-- A migration starts at the T0 of frame `n` where nothing forbids it (R72, R116, R118, R124); else the device is unchanged. -/
def Dev.tryMig (d : Dev) (x n src reason avoid : Nat) : Option Dev :=
  let blocked := d.migBarred n src
  let placing := d.img.hot && (d.imgState == 2 || d.imgState == 3)
  if placing || d.bit Reg.PLC_CTRL 0 || decide (2 ≤ d.plc.migs.length) || d.engState src != 1 || blocked || decide (d.spares.length < 2)
      || !d.dueNext src || !d.migWordsOk src then none
  else
    match d.target avoid with
    | none => none
    | some t =>
      let m : Mig := { k := d.migSlot, reason := reason, src := src, tgt := t, frame := n, stage := 1, noCmp := false, tasks := nth [] d.hrt.place.order src }
      let d := { d with plc := { d.plc with migs := d.plc.migs ++ [m] } }
      some ((((d.migReg m).engTo x src 2).engTo x t 2).migSend x src)

/-- A migration is no more in flight: its register, and the queue entry reserved for its source (R122). -/
def Dev.migGone (d : Dev) (x : Nat) (m : Mig) : Dev :=
  let d := d.setPlc fun p => { p with
    migs := p.migs.filter (fun (q : Mig) => q.k != m.k), queue := p.queue.filter (fun (q : TestReq) => !(q.reserved && q.eng == m.src))
    thermEnd := if m.reason = 0 then some x else p.thermEnd }
  (d.wr (Reg.PLC_MIG_STAT m.k) 0).plcStat x

/-- An aborted migration is counted (PLC_ABORT_CNT, MIG_ABORT). -/
def Dev.migCount (d : Dev) : Dev := (d.inc Reg.PLC_ABORT_CNT 31 0).setB Reg.PLC_STAT 4 true

/-- A migration is aborted (R118, R119): the source stays owner, the target is spare, or faulted with cause 2. -/
def Dev.migAbort (d : Dev) (x : Nat) (m : Mig) (cause : Nat) : Dev :=
  let d := d.migGone x m
  let d := if d.engState m.src = 2 then d.engTo x m.src 1 else d
  let d := d.setEng m.tgt fun q => { q with todo := [], run := none, done := [] }
  let d := if d.engState m.tgt = 2 then d.engTo x m.tgt (if cause = 2 then 5 else 0) else d
  let d := { d with plc := { d.plc with
    holdOff := d.plc.holdOff.filter (fun (p : List Nat × Nat) => decide (frmSince d.frame p.2 < 64)) ++ [(nth [] d.hrt.place.order m.src, d.frame)] } }
  let d := d.migCount.raise .fabric x 169 0x4109 [(1, m.src), (1, m.tgt), (1, cause)]
  let d := if cause = 0 || cause = 1 then (d.testRequest x m.src false).testRequest x m.tgt false else d
  d.testAgain x

/-- The load of one engine becomes another's: its tasks, their order and its planned finish. -/
def Dev.moveLoad (d : Dev) (from_ to_ : Nat) : Dev :=
  let p := d.hrt.place
  let load := nth [] p.order from_
  (d.setPlace fun p => { p with
    tasks := (List.range p.tasks.length).map (fun i => if load.contains i then { nth Task.none_ p.tasks i with eng := to_ } else nth Task.none_ p.tasks i)
    order := upd (upd p.order from_ (fun _ => [])) to_ (fun l => l ++ load)
    plan := upd (upd p.plan from_ (fun _ => 0)) to_ (fun _ => nth 0 p.plan from_) }).planRegs

/-- The target's own results of the compare frame become the load's state (R116, R119). -/
def Dev.takeShadow (d : Dev) (t : Nat) : Dev :=
  ((d.engAt t).done.flatMap (·.2)).foldl (fun d b =>
    let d := d.setRt b.blk fun r => { r with st := b.st, prev := b.prev, ran := true }
    { d with hrt := { d.hrt with sig := b.outs.foldl (fun l p => upd l p.1 (fun _ => p.2)) d.hrt.sig } }) d

/-- The source of a slow migration leaves service, is tested, or waits for its test (R122). -/
def Dev.slowNext (d : Dev) (x e : Nat) : Dev :=
  let drop (d : Dev) : Dev := d.setPlc fun p => { p with queue := p.queue.filter (fun (q : TestReq) => !(q.reserved && q.eng == e)) }
  let first := match d.queueHead with
    | none => true
    | some h => decide (d.plc.queue.idxOf { eng := e, reserved := true, fw := false } < d.plc.queue.idxOf h)
  if d.slowCnt e = d.fld Reg.PLC_CFG 11 8 then d.retire x e 1
  else if d.testAble e && first && d.plc.testDue.isEmpty then (drop d).testStart x e
  else
    (d.setPlc fun p => { p with
      queue := p.queue.map (fun (q : TestReq) => if q.reserved && q.eng == e then { q with reserved := false } else q) }).engTo x e 6

/-- What the source becomes once ownership has passed (R116, R122, R126). A slow migration that completes counts in SLOW_CNT, also where the source has failed. -/
def Dev.migSource (d : Dev) (x : Nat) (m : Mig) : Dev :=
  let d := if m.reason = 1 then d.inc (Reg.PLC_ENG_INFO m.src) 24 21 else d
  if d.engState m.src = 5 then d.setPlc fun p => { p with queue := p.queue.filter (fun (q : TestReq) => q.eng != m.src) }
  else if m.reason = 0 then d.engTo x m.src 0
  else if m.reason = 1 then d.slowNext x m.src
  else d.testStart x m.src

/-- Ownership passes at the T0 of n + 2 (R116). -/
def Dev.migPass (d : Dev) (x : Nat) (m : Mig) : Dev :=
  let queue := d.plc.queue
  let d := ((d.takeShadow m.tgt).moveLoad m.src m.tgt).setEng m.src fun q => { q with lateRun := 0 }
  let d := ((d.setF (Reg.PLC_ENG_INFO m.src) 20 19 0).migGone x m).setPlc fun p => { p with queue := queue }
  let d := (d.engTo x m.tgt 1).inc Reg.PLC_MIG_CNT 31 0
  let d := d.raise .fabric x 168 0x4108 [(1, m.src), (1, m.tgt), (1, m.reason), (1, b2n m.noCmp)]
  ((d.migSource x m).testAgain x).plcStat x

/-- Migrations in flight at the T0 of frame `n` (R116): n + 1 is the compare frame, and at the T0 of n + 2 ownership passes. -/
def Dev.migT0 (d : Dev) (x n : Nat) : Dev :=
  d.plc.migs.foldl (fun d m =>
    if frmSince n m.frame = 1 then
      let m' := { m with stage := 2 }
      (d.setPlc fun p => { p with migs := p.migs.map (fun (q : Mig) => if q.k = m.k then m' else q) }).migReg m'
    else if 2 ≤ frmSince n m.frame then d.migPass x m
    else d) d

/-! ### Recovery (R120, R121) -/

/-- The tasks of an engine that has failed wait for their replacement, which runs them first two frames on (R120). Where the engine is itself a replacement whose
first run has not come, the recovery it was chosen for never completes: event 171 and PLC_RECOV_LAST then name only this engine as failed (DESIGN CHOICE, log
entry 89). -/
def Dev.recovStart (d : Dev) (e tgt : Nat) : Dev :=
  let load := nth [] d.hrt.place.order e
  if load.isEmpty then d
  else { d with plc := { d.plc with recs :=
    (d.plc.recs.filter (fun r => !(r.started && r.tgt == e))) ++
      [{ failed := e, tgt := tgt, loadFrm := (d.frame + 2) % 2 ^ 32, tasks := load, started := false, age := 0 }] } }

/-- An uncorrectable error makes its engine faulted at once (R76, R108, R119, R120). -/
def Dev.engFault (d : Dev) (x : Nat) (q : EccError) : Dev :=
  let e := q.engine
  let d := ((d.inc (Reg.HRT_ENG_ECC e) 7 0).setB Reg.HRT_STAT 1 true).raise .fabric x 163 0x4103 [(1, e), (1, q.sram), (2, q.word)]
  let s := d.engState e
  if s = 5 then d
  else
    let d := (d.engHalt x e).dropReq x e
    match d.plc.migs.find? (fun m => m.tgt == e), d.plc.migs.find? (fun m => m.src == e) with
    | some m, _ =>
      let d := d.migAbort x m 2
      if d.engState m.src = 5 then d.recovStart m.src 64 else d
    | none, some m =>
      if m.stage = 1 then ((d.migGone x m).engTo x e 5).recovStart e m.tgt
      else
        let d := d.setPlc fun p => { p with migs := p.migs.map (fun (q : Mig) => if q.k = m.k then { q with noCmp := true } else q) }
        d.engTo x e 5
    | none, none =>
      let d := if s = 3 then
          let d := { d with plc := { d.plc with test := none } }
          (d.setB Reg.PLC_ST_STAT 15 false).setF Reg.PLC_ST_STAT 7 6 2
        else d
      let d := d.setPlc fun p => { p with recs := p.recs.map (fun (r : Recov) => if !r.started && r.tgt == e then { r with tgt := 64 } else r) }
      (d.engTo x e 5).recovStart e 64

/-- An SRAM error of an engine (R75, R76). -/
def Dev.eccError (d : Dev) (x : Nat) (q : EccError) : Dev := if q.correctable then d.eccCorrected x q else d.engFault x q

/-- An engine for a recovery (R121): a free spare; else one freed by aborting a self-test, by preempting the migration started latest, or from state test-queued. -/
def Dev.freeOne (d : Dev) (x : Nat) : Dev × Option Nat :=
  match d.recovSpare with
  | some t => (d, some t)
  | none =>
    match d.plc.test with
    | some (e, _) => (d.testAbort x, some e)
    | none =>
      match minBy? (fun (m : Mig) => frmSince d.frame m.frame * 2 + (1 - m.k)) d.plc.migs with
      | some m => (d.migAbort x m 3, some m.tgt)
      | none =>
        match (d.engsIn [6]).head? with
        | some e => (d.dropReq x e, some e)
        | none => (d, none)

/-- The placement with the assignment `a`. -/
def Dev.packed (d : Dev) (a : Asg) : Dev := (d.setPlace fun p => { p with tasks := withEngines p.tasks a.eng, order := a.on, plan := a.plan }).planRegs

/-- Tasks are packed into the slack of engines by the steps of R111, each onto the engine on which it finishes earliest with the homes that are set; those that
fit nowhere are left (R121). -/
def GF.pack (F : GF) (ts : List Task) (home engs : List Nat) : Nat → List Nat → Asg → List Nat → Asg × List Nat
  | 0, todo, a, left => (a, left ++ todo)
  | fuel + 1, todo, a, left =>
    match F.nextTask ts a todo with
    | none => (a, left)
    | some i => match F.bestOn ts home a i engs with
      | none => GF.pack F ts home engs fuel (todo.erase i) a (left ++ [i])
      | some c => GF.pack F ts home engs fuel (todo.erase i) c.2 left

/-- Tasks that have no engine are packed onto some; the answer holds those that fit nowhere. -/
def Dev.packAll (d : Dev) (tasks engs : List Nat) : Dev × List Nat :=
  let F := d.gf
  let p := d.hrt.place
  match F.evalOrders p.tasks p.home p.order with
  | none => (d, tasks)
  | some a =>
    let r := F.pack p.tasks p.home engs tasks.length tasks a []
    (d.packed r.1, r.2)

/-- The tasks of an engine belong to none. -/
def Dev.unload (d : Dev) (e : Nat) : Dev :=
  let load := nth [] d.hrt.place.order e
  d.setPlace fun p => { p with tasks := (List.range p.tasks.length).map (fun i => if load.contains i then { nth Task.none_ p.tasks i with eng := 64 } else nth Task.none_ p.tasks i)
                               order := upd p.order e (fun _ => []), plan := upd p.plan e (fun _ => 0) }

/-- The frame of the newest usable checkpoint of a task (R115, R120): a bank holds one checkpoint of the task, with one FRM_COUNT and one CRC. `bad` says by the
blocks of the task how many of its newest ones fail their CRC. -/
def Dev.ckptFrame (d : Dev) (first : Nat) (bad : List Nat) (i : Nat) : Option Nat :=
  let bs := (d.taskAt i).blks
  let r := d.rtAt (bs.headD 0)
  let l := sortBy (fun f => frmSince first f) (([r.bank0, r.bank1].filterMap id).map (·.1))
  l[sumOf (bs.map bad.count)]?

/-- A task takes its newest usable checkpoint, else every state word is 0 (R120). The answer holds the age, 0xFFFF for none. -/
def Dev.restore (d : Dev) (first : Nat) (bad : List Nat) (i : Nat) : Nat × Dev :=
  let bs := (d.taskAt i).blks
  match d.ckptFrame first bad i with
  | some f => (frmSince first f, bs.foldl (fun d j => d.setRt j fun r => { r with st := match r.bank f with | some c => c.2 | none => [] }) d)
  | none => (0xFFFF, bs.foldl (fun d j => d.setRt j fun r => { r with st := [], prev := [], ran := false }) d)

/-- The checkpoints of tasks; the largest age. -/
def Dev.restoreAll (d : Dev) (first : Nat) (bad tasks : List Nat) : Nat × Dev :=
  tasks.foldl (fun acc i => let r := acc.2.restore first bad i; (Nat.max acc.1 r.1, r.2)) (0, d)

/-- A recovery at the T0 of the frame in which its replacement loads microcode and checkpoints (R120, R121). -/
def Dev.recovLoad (d : Dev) (x : Nat) (bad : List Nat) (r : Recov) : Dev :=
  let c := if r.tgt < 64 && d.engState r.tgt = 2 then (d, some r.tgt) else d.freeOne x
  let ages := c.1.restoreAll r.loadFrm bad r.tasks
  let d := ages.2
  let done (d : Dev) (t : Nat) : Dev :=
    d.setPlc fun p => { p with
      recs := p.recs.map (fun (q : Recov) => if q.failed = r.failed && !q.started then { q with started := true, tgt := t, age := ages.1 } else q) }
  match c.2 with
  | some t => done ((d.moveLoad r.failed t).engTo x t 1) t
  | none =>
    let p := (d.unload r.failed).packAll r.tasks ((d.engsIn [1]).filter (fun e => !(nth [] d.hrt.place.order e).isEmpty))
    let d := done p.1 64
    if p.2.isEmpty then d
    else
      let d := { d with plc := { d.plc with unplaced := d.plc.unplaced ++ p.2 } }
      (d.plcStat x).raise .fabric x 175 0x4111 [(1, d.reserve), (2, d.plc.unplaced.length)]

/-- Unplaced tasks go to the engines that step 1 finds free, one after the other (R121). -/
def Dev.placeUnplaced (x n : Nat) (bad : List Nat) : Nat → Dev → Dev
  | 0, d => d
  | fuel + 1, d =>
    if d.plc.unplaced.isEmpty then d
    else
      match d.recovSpare with
      | none => d
      | some t =>
        let p := d.packAll d.plc.unplaced [t]
        let taken := d.plc.unplaced.filter (fun i => !p.2.contains i)
        if taken.isEmpty then d
        else
          let first := (n + 1) % 2 ^ 32
          let ages := p.1.restoreAll first bad taken
          let d := ages.2.setPlc fun q => { q with
            unplaced := p.2, recs := q.recs ++ [{ failed := 64, tgt := t, loadFrm := first, tasks := taken, started := true, age := ages.1 }] }
          placeUnplaced x n bad fuel (d.engTo x t 1)

/-- A recovery is complete with the first run's frame (R120). -/
def Dev.recovDone (d : Dev) (x : Nat) (r : Recov) : Dev :=
  let d := { d with plc := { d.plc with recs := d.plc.recs.erase r } }
  if r.failed = 64 then d
  else
    let packed := decide (r.tgt = 64)
    let d := (d.inc Reg.PLC_RECOV_CNT 31 0).wrN Reg.PLC_RECOV_LAST (r.age % 65536 * 65536 + b2n packed * 32768 + (if packed then 0 else r.tgt) * 256 + r.failed)
    (d.setB Reg.PLC_STAT 3 true).raise .fabric x 171 0x410B [(1, r.failed), (1, if packed then 0x3F else r.tgt), (2, r.age % 65536)]

/-- Step 1 of R128 at the T0 of frame `n`: recoveries in ascending number of the failed engine, then unplaced tasks. -/
def Dev.recovT0 (d : Dev) (x n : Nat) (bad : List Nat) : Dev :=
  let d := (d.plc.recs.filter (fun r => r.started && r.loadFrm == n)).foldl (fun d r => d.recovDone x r) d
  let d := (sortBy (fun (r : Recov) => r.failed) (d.plc.recs.filter (fun r => !r.started && r.loadFrm == (n + 1) % 2 ^ 32))).foldl
    (fun d r => d.recovLoad x bad r) d
  Dev.placeUnplaced x n bad 64 d

/-- The tasks that do not run because they wait for a replacement (R120). -/
def Dev.heldTasks (d : Dev) : List Nat := d.plc.recs.flatMap (·.tasks)

/-! ### Steps 3 to 5 of R128 -/

/-- Slow migrations: only while the queue has room for the source's request (R122). -/
def Dev.slowT0 (d : Dev) (x n : Nat) : Dev :=
  d.plc.slowDue.foldl (fun d e =>
    if d.engState e = 2 then d
    else if d.engState e != 1 then { d with plc := { d.plc with slowDue := d.plc.slowDue.erase e } }
    else if 8 ≤ d.plc.queue.length then d
    else match d.tryMig x n e 1 4 with
      | none => d
      | some d' => (d'.setPlc fun p => { p with slowDue := p.slowDue.erase e, queue := p.queue ++ [{ eng := e, reserved := true, fw := false }] }).plcStat x) d

/-- Thermal spreading (R123): one migration at a time, at least 1 s after the one before, from the hot quadrant with the largest excess. -/
def Dev.thermT0 (d : Dev) (x n : Nat) : Dev :=
  let wait := match d.plc.thermEnd with | none => false | some t => decide (x < t + uS)
  if !d.bit Reg.PLC_CTRL 3 || wait || d.plc.migs.any (fun m => m.reason == 0) then d
  else
    match minBy? (fun q => (65536 * 4 - nth 0 d.plc.excess q).toNat) ((List.range 4).filter d.quadHot) with
    | none => d
    | some q =>
      match minBy? (fun e => 65536 - d.fld (Reg.HRT_ENG_TIME e) 15 0) ((d.engsIn [1]).filter (fun e => e / 16 == q)) with
      | none => d
      | some e => (d.tryMig x n e 0 q).getD d

/-- A request whose turn it is starts its test, or first a migration of its engine's load (R126); none where it cannot start. -/
def Dev.testServe (d : Dev) (x n e : Nat) : Option Dev :=
  let s := d.engState e
  if !d.testAble e then none
  else if s = 0 || s = 4 || s = 6 then some (d.testStart x e)
  else if s = 1 then d.tryMig x n e 2 4
  else none

/-- Self-test migrations and tests: the request that was to start, which waits in the queue if it cannot, else the head of the queue as soon as it may (R127). -/
def Dev.testT0 (d : Dev) (x n : Nat) : Dev :=
  match d.plc.testDue with
  | q :: _ =>
    let d := d.setPlc fun p => { p with testDue := p.testDue.erase q }
    if d.engState q.eng = 2 then d.testRequest x q.eng q.fw else (d.testServe x n q.eng).getD (d.testQueue x q.eng q.fw)
  | [] =>
    match d.queueHead with
    | none => d
    | some h =>
      match d.testServe x n h.eng with
      | none => d
      | some d' => (d'.setPlc fun p => { p with queue := p.queue.erase h }).plcStat x

/-- The first T0 after a full load or a write of ST_AUTO from 0 to 1 starts the rotation timer's first interval (R126). -/
def Dev.rotT0 (d : Dev) (x : Nat) : Dev :=
  if d.plc.rotPend && d.bit Reg.PLC_CTRL 1 then
    { d with plc := { d.plc with rotPend := false, rotEnd := some (x + d.fld Reg.PLC_ST_INTERVAL 16 0 * uS) } }
  else d

/-! ### The end of Collect (R117, R118, R120, R122) -/

/-- The packets an engine's finished tasks sent in this frame, by block. -/
def Eng.packets (q : Eng) : List (Nat × List PWord) := (q.done.flatMap (·.2)).map (fun b => (b.blk, b.words))

/-- The cause that aborts a migration at the end of its compare frame: a late task on either side, else a difference; `bad` holds the register indices of
migrations for which the compare unit finds a difference (R117, R118). -/
def Dev.migJudge (d : Dev) (late bad : List Nat) (m : Mig) : Option Nat :=
  let t := d.engAt m.tgt
  let tLate := !t.todo.isEmpty || t.run.isSome || d.hrt.posts.any (fun p => p.eng == m.tgt)
  if late.any (fun i => (d.taskAt i).eng == m.src) || tLate then some 1
  else
    let a := (d.engAt m.src).packets
    let b := t.packets
    if bad.contains m.k || !(a.all b.contains && b.all a.contains) then some 0 else none

/-- Migrations in their compare frame are judged. -/
def Dev.migsCollect (d : Dev) (x : Nat) (late bad : List Nat) : Dev :=
  (d.plc.migs.filter (fun m => m.stage == 2 && !m.noCmp)).foldl (fun d m => match d.migJudge late bad m with
    | none => d
    | some c => d.migAbort x m c) d

/-- Late frames in a row, and the frames over the slow threshold among the last 64, of one engine (R120, R122). A count of 16 that comes while the engine is
migrating is judged again once it is active (R119); one that has been reported is not reported again before it has fallen below 16. -/
def Dev.engCollect (d : Dev) (x e : Nat) : Dev :=
  let q := d.engAt e
  let run := if q.hadDue then (if q.late then q.lateRun + 1 else 0) else q.lateRun
  let fin := d.fld (Reg.HRT_ENG_TIME e) 31 16
  let hist := (decide (slowFc d.P < fin) :: q.slowHist).take 64
  let now := (hist.filter (· == true)).length
  let d := d.setEng e fun q => { q with lateRun := run, slowHist := hist, slowSeen := q.slowSeen && decide (16 ≤ now) }
  let d := (d.setF (Reg.PLC_ENG_INFO e) 20 19 (Nat.min run 3)).setF (Reg.PLC_ENG_INFO e) 31 25 now
  let d := if decide (3 ≤ run) && d.engState e == 1 then (d.retire x e 0).recovStart e 64 else d
  if !(d.engAt e).slowSeen && decide (16 ≤ now) && d.bit Reg.PLC_CTRL 2 && d.engState e == 1 then
    ((d.setEng e fun q => { q with slowSeen := true }).setPlc fun p => { p with slowDue := p.slowDue ++ [e] }).raise .fabric x 172 0x410C [(1, e), (2, fin)]
  else d

/-! ### Commands (R125 to R127) -/

/-- ROTATION_TIMER_EXPIRY (R126): a request for the next engine in ascending number, faulted and retired engines skipped; the next interval begins. -/
def execRotationTimerExpiry (t : Nat) (s : State) : Out :=
  act t s fun x d => d.liveIn 5 fun d =>
    match d.plc.rotEnd with
    | none => d
    | some r =>
      if x < r then d
      else
        let d := { d with plc := { d.plc with rotEnd := some (r + d.fld Reg.PLC_ST_INTERVAL 16 0 * uS) } }
        match ((List.range 64).map (fun k => (d.plc.rotLast + 1 + k) % 64)).find? (fun e => d.engState e != 4 && d.engState e != 5) with
        | none => d
        | some e => (d.setPlc fun p => { p with rotLast := e }).testRequest x e false

/-- SELF_TEST_REQUEST (R127): a write of 1 to PLC_ST_REQ.REQ. -/
def execSelfTestRequest (t : Nat) (e : Fin 64) (s : State) : Out := act t s fun x d => d.live fun d => d.testRequest x e.val true

/-- SELF_TEST_START (R125, R127): the request of an engine whose turn it is starts its test. -/
def execSelfTestStart (t : Nat) (e : Fin 64) (s : State) : Out :=
  act t s fun x d => d.liveIn 5 fun d =>
    let s := d.engState e.val
    let turn := (d.plc.testDue.head?.map (·.eng)) == some e.val || (d.plc.testDue.isEmpty && (match d.queueHead with | none => false | some h => h.eng == e.val))
    if turn && d.testAble e.val && (s == 0 || s == 4 || s == 6) then (d.dropReq x e.val).testStart x e.val else d

/-- SELF_TEST_END (R125): after 120 ms a pass makes the engine spare with ST_AGE 0; a fail in any part makes it faulted, with event 173. -/
def execSelfTestEnd (t : Nat) (failMask : Nat) (s : State) : Out :=
  act t s fun x d => d.liveIn 5 fun d =>
    match d.plc.test with
    | none => d
    | some (e, end_) =>
      if x < end_ then d
      else
        let m := failMask % 16
        let d := (d.setPlc fun p => { p with test := none }).setB Reg.PLC_ST_STAT 15 false
        if m = 0 then
          (((d.setF Reg.PLC_ST_STAT 7 6 1).setF (Reg.PLC_ENG_INFO e) 15 0 0).setEng e fun q => { q with testedAt := some x }).engTo x e 0
        else
          ((d.setF Reg.PLC_ST_STAT 7 6 2).engTo x e 5).raise .fabric x 173 0x410D [(1, e), (1, (onesBelow 4 m).headD 0), (1, m)]

/-- The running interval of the rotation timer restarts from a write (R126). -/
def Dev.rotRestart (d : Dev) (x : Nat) : Dev :=
  match d.plc.rotEnd with
  | none => d
  | some _ => { d with plc := { d.plc with rotEnd := some (x + d.fld Reg.PLC_ST_INTERVAL 16 0 * uS) } }

/-- A bus write of PLC_CTRL (R126). -/
def Dev.wrPlcCtrl (d : Dev) (x : Nat) (v : Word) : Dev :=
  let was := d.bit Reg.PLC_CTRL 1
  let d := d.rw Reg.PLC_CTRL v
  if !d.bit Reg.PLC_CTRL 1 then { d with plc := { d.plc with rotEnd := none, rotPend := false } }
  else if was then d.rotRestart x
  else { d with plc := { d.plc with rotPend := true } }

/-- PLC_CTRL_WRITE (R126). -/
def execPlcCtrlWrite (t : Nat) (v : Word) (s : State) : Out := act t s fun x d => d.live fun d => d.wrPlcCtrl x v

/-- PLC_ST_INTERVAL_WRITE (R126). -/
def execPlcStIntervalWrite (t : Nat) (v : Word) (s : State) : Out := act t s fun x d => d.live fun d => (d.rw Reg.PLC_ST_INTERVAL v).rotRestart x

/-- ST_AGE of an engine at an instant: minutes since its last passed test, saturating (R125). -/
def Dev.stAge (d : Dev) (x e : Nat) : Nat :=
  match (d.engAt e).testedAt with
  | none => 0xFFFF
  | some t => Nat.min ((x - t) / (60 * uS)) 0xFFFF

/-- The Placer at a full load (R108, R109, R119): migrations are aborted, without an event, and recoveries end; self-tests are aborted, and every engine that is
neither retired nor faulted is spare. Requests in the queue stand, but for reserved entries and those of engines that were test-queued; so does a request whose
turn it is (DESIGN CHOICE, log entry 89). -/
def Dev.plcFullLoad (d : Dev) (x : Nat) : Dev :=
  let d := d.testAbort x
  let queued := d.engsIn [6]
  let d := d.plc.migs.foldl (fun d m => (d.migGone x m).migCount) d
  let d := { d with plc := { d.plc with
    recs := [], slowDue := [], testLater := [], holdOff := [], unplaced := [], rotEnd := none, rotPend := true
    queue := d.plc.queue.filter (fun q => !q.reserved && !queued.contains q.eng) } }
  ((d.engsIn [1, 2, 3, 6]).foldl (fun d e => d.setF (Reg.HRT_ENG_STAT e) 2 0 0) d).plcStat x

end Sys2Proof.Machine
end

