-- ==== Sys2Proof/Machine/Tmp.lean ====
section
/-! DEFINITION. Machine/Tmp.lean: Temper: sensors, rates, prediction, its states, the CPU ramp (R426 to R435). -/

namespace Sys2Proof.Machine

/-- The device with Temper's own state changed. -/
def Dev.setTmp (d : Dev) (f : TmpSt → TmpSt) : Dev := { d with tmp := f d.tmp }
/-- A sensor's own state. -/
def Dev.sens (d : Dev) (s : Nat) : TmpSens := nth { hist := [], warn := false, rate := false } d.tmp.sens s
/-- The device with a sensor's state changed. -/
def Dev.setSens (d : Dev) (s : Nat) (f : TmpSens → TmpSens) : Dev := d.setTmp fun q => { q with sens := updN 24 { hist := [], warn := false, rate := false } q.sens s f }
/-- A sensor is used: every on-die sensor, an external one by USED. -/
def Dev.tmpUsed (d : Dev) (s : Nat) : Bool := decide (s < 16) || d.bit (Reg.TMP_S_RATE s) 31
/-- The used sensors. -/
def Dev.usedSens (d : Dev) : List Nat := (List.range 24).filter d.tmpUsed
/-- WARN of a sensor in 0.1 °C. -/
def Dev.tmpWarn (d : Dev) (s : Nat) : Int := toSigned 16 (d.fld (Reg.TMP_S_LIM s) 15 0)
/-- TRIP of a sensor in 0.1 °C. -/
def Dev.tmpTrip (d : Dev) (s : Nat) : Int := toSigned 16 (d.fld (Reg.TMP_S_LIM s) 31 16)
/-- A sensor is broken (R427). -/
def Dev.tmpBroken (d : Dev) (s : Nat) : Bool := d.bit (Reg.TMP_S_DATA s) 7
/-- The last reading in 0.1 °C; a broken sensor reads WARN + 1 °C (R427). -/
def Dev.tmpT (d : Dev) (s : Nat) : Int := toSigned 16 (d.fld (Reg.TMP_S_DATA s) 31 16)
/-- HYST in 0.1 °C. -/
def Dev.tmpHyst (d : Dev) : Int := (d.fld Reg.TMP_CFG 7 0 : Int)
/-- RATE_WIN in 0.1 s. -/
def Dev.rateWin (d : Dev) : Nat := d.fld Reg.TMP_CFG 15 8
/-- STOP_MS. -/
def Dev.stopMs (d : Dev) : Nat := d.fld Reg.TMP_CFG 31 16

/-! ### External sensors (R426) -/

/-- Code and temperature of a point of an external sensor. -/
def Dev.tmpPt (d : Dev) (j i : Nat) : Int × Int := (toSigned 14 (d.fld (Reg.TMP_X_PT j i) 29 16), toSigned 16 (d.fld (Reg.TMP_X_PT j i) 15 0))
/-- The raw code of an external sensor's ADC channel. -/
def Dev.tmpCode (d : Dev) (j : Nat) : Int := toSigned 14 (d.fld (Reg.ADC_CH_DATA (d.fld (Reg.TMP_X_CFG j) 5 0)) 13 0)
/-- A code as a temperature in 0.1 °C: linear over the four points, the end segments extended. -/
def Dev.tmpExt (d : Dev) (j : Nat) : Int :=
  let c := d.tmpCode j
  let i := if c < (d.tmpPt j 1).1 then 0 else if c < (d.tmpPt j 2).1 then 1 else 2
  let p := d.tmpPt j i
  let q := d.tmpPt j (i + 1)
  p.2 + roundDiv ((c - p.1) * (q.2 - p.2)) (q.1 - p.1).toNat

/-! ### One measurement (R427, R428) -/

/-- A sensor's readings of the last 10 s, and the newest one before them. -/
def sensKeep (x : Nat) (l : List (Nat × Int)) : List (Nat × Int) :=
  l.filter (fun p => decide (x ≤ p.1 + 10 * uS)) ++ (l.find? (fun p => decide (p.1 + 10 * uS < x))).toList
/-- The largest change among readings. -/
def sensSpan (l : List (Nat × Int)) : Int :=
  match l with
  | [] => 0
  | p :: r => r.foldl (fun m q => if m < q.2 then q.2 else m) p.2 - r.foldl (fun m q => if q.2 < m then q.2 else m) p.2
/-- The readings cover 10 s. -/
def sensFull (x : Nat) (l : List (Nat × Int)) : Bool := l.any (fun p => decide (p.1 + 10 * uS ≤ x))

/-- What breaks a sensor at a measurement, 0 for nothing (R427): its detectors or its code, its range, a reading that stays while another moves. -/
def Dev.tmpCause (d : Dev) (x s : Nat) (v : Int) (hist : Nat → List (Nat × Int)) (defects : List SensorDefect) : Nat :=
  let j := s - 16
  let open_ := if s < 16 then defects.any (fun q => q.sensor == s && !q.short) else decide (toSigned 14 (d.fld (Reg.TMP_X_BAD j) 29 16) < d.tmpCode j)
  let short := if s < 16 then defects.any (fun q => q.sensor == s && q.short) else decide (d.tmpCode j < toSigned 14 (d.fld (Reg.TMP_X_BAD j) 13 0))
  if open_ then 1
  else if short then 2
  else if v < -550 || 1500 < v then 3
  else if sensFull x (hist s) && decide (sensSpan (hist s) < 2)
      && d.usedSens.any (fun o => o != s && sensFull x (hist o) && decide (20 ≤ sensSpan (hist o))) then 4
  else 0

/-- The reading of a sensor RATE_WIN before an instant. -/
def Dev.tmpOld (d : Dev) (x s : Nat) : Option Int :=
  ((d.sens s).hist.find? (fun p => decide (p.1 + d.rateWin * 100 * uMs ≤ x))).map (·.2)

/-- The rate of a sensor in 0.1 °C/s times RATE_WIN in 0.1 s (R428): 0 when broken; without a reading RATE_WIN old, the rate that the register holds. -/
def Dev.riseOf (d : Dev) (x s : Nat) : Int :=
  if d.tmpBroken s then 0
  else match d.tmpOld x s with
    | some v => (d.tmpT s - v) * 10
    | none => toSigned 16 (d.fld (Reg.TMP_S_RRATE s) 15 0) * (d.rateWin : Int)

/-- RRATE of a sensor; before a reading RATE_WIN old is held the spec states no rate: a free value. -/
def Dev.tmpRate (d : Dev) (x s : Nat) : Dev :=
  let a := Reg.TMP_S_RRATE s
  if (d.tmpOld x s).isNone && !d.tmpBroken s then let f := d.fresh; f.2.setF a 15 0 (Sys2Proof.Config.freeWord f.1).toNat
  else d.setF a 15 0 (ofSigned 16 (roundDiv (d.riseOf x s) d.rateWin))

/-- One sensor is read: breakage, reading, rate and excursions. -/
def Dev.tmpRead (d : Dev) (x s : Nat) (v : Int) (hist : Nat → List (Nat × Int)) (defects : List SensorDefect) : Dev :=
  if !d.tmpUsed s then d
  else
    let a := Reg.TMP_S_DATA s
    let cause := if d.tmpBroken s then 0 else d.tmpCause x s v hist defects
    let d := if cause = 0 then d
      else (((d.setB a 7 true).setF a 6 4 cause).setB Reg.TMP_STAT 7 true).raise .per x 218 0xA102 [(1, s), (1, cause)]
    let t := if d.tmpBroken s then d.tmpWarn s + 10 else v
    let d := (d.setF a 31 16 (ofSigned 16 t)).setSens s fun q => { q with hist := hist s }
    let d := d.tmpRate x s
    let rise := d.riseOf x s
    let lim : Int := (d.fld (Reg.TMP_S_RATE s) 15 0 : Int) * (d.rateWin : Int)
    let warn := decide (d.tmpWarn s < t) || ((d.sens s).warn && !decide (t < d.tmpWarn s - d.tmpHyst))
    let fast := decide (lim < rise) || ((d.sens s).rate && !decide (rise < lim))
    let was := d.sens s
    let d := if warn && !was.warn then (d.setB Reg.TMP_STAT 5 true).raise .per x 216 0xA100 [(1, s), (2, ofSigned 16 t)] else d
    let d := if fast && !was.rate then (d.setB Reg.TMP_STAT 6 true).raise .per x 217 0xA101 [(1, s), (2, d.fld (Reg.TMP_S_RRATE s) 15 0)] else d
    d.setSens s fun q => { q with warn := warn, rate := fast }

/-- t_pred (R428): the smallest of (TRIP − T) / r over the used sensors with r > 0, as numerator and denominator in s, with its sensor. -/
def Dev.tmpPred (d : Dev) (x : Nat) : Option (Int × Nat × Nat) :=
  d.usedSens.foldl (fun (best : Option (Int × Nat × Nat)) s =>
    let rise := d.riseOf x s
    if rise ≤ 0 then best
    else
      let num : Int := (d.tmpTrip s - d.tmpT s) * (d.rateWin : Int)
      match best with
      | none => some (num, rise.toNat, s)
      | some b => if num * (b.2.1 : Int) < b.1 * rise then some (num, rise.toNat, s) else best) none

/-- t_pred is less than a time in units of 125 ps. -/
def predBelow (p : Option (Int × Nat × Nat)) (time : Int) : Bool :=
  match p with
  | none => false
  | some q => decide (q.1 * (uS : Int) < time * (q.2.1 : Int))

/-- A used sensor that is whole has reached TRIP; a broken one never stops the converter on its own (R427, R429). -/
def Dev.atTrip (d : Dev) (s : Nat) : Bool := decide (d.tmpTrip s ≤ d.tmpT s) && !d.tmpBroken s

/-- t_pred as FP32, 3.4 × 10^38 when infinite. -/
def predWord (p : Option (Int × Nat × Nat)) : Word := match p with | none => 0x7F7FFFFF#32 | some q => Fp.ofRat q.1 q.2.1

/-! ### States (R429, R430) -/

/-- The used sensor with the highest reading, the lowest number of several. -/
def Dev.hottest (d : Dev) : Nat := (minBy? (fun s => (100000 - d.tmpT s).toNat) d.usedSens).getD 0

/-- The CPU ramp follows the state (R430): a firmware profile of the CPU domain is aborted for it (R434); it waits for another profile's end. -/
def Dev.tmpRamp (d : Dev) (x : Nat) : Dev :=
  let want := d.tmpState != 0
  if want == d.tmp.throttled then d
  else
    let seg := [(if want then d.fld Reg.TMP_THR 15 0 * 1000 else 800000, BitVec.ofNat 32 (d.fld Reg.TMP_THR 31 16))]
    let go (d : Dev) : Dev := (d.blwRun 1 2 seg).setTmp fun q => { q with throttled := want }
    match d.clk.blw with
    | none => go d
    | some r => if r.target = 1 && r.owner = 1 then go (d.blwAbort x) else if r.owner = 2 then go d else d

/-- Temper enters a state. -/
def Dev.tmpTo (d : Dev) (x st : Nat) : Dev := (d.setF Reg.TMP_STAT 2 0 st).setTmp fun q => { q with since := x, coolSince := none }

/-- TRIPPED with its cause (R429, R435): for cause 1 the first sensor at TRIP, for cause 2 that of t_pred, for cause 0 the hottest. -/
def Dev.tmpTrips (d : Dev) (x cause : Nat) (pred : Option (Int × Nat × Nat)) : Dev :=
  let s := if cause = 1 then (d.usedSens.find? d.atTrip).getD d.hottest
    else if cause = 2 then (match pred with | some p => p.2.2 | none => d.hottest) else d.hottest
  (d.tmpTo x 3).raise .per x 221 0xA105 [(1, cause), (1, s), (2, ofSigned 16 (d.tmpT s))]

/-- The first row of R429 that holds at a measurement. -/
def Dev.tmpNext (d : Dev) (x : Nat) (pred : Option (Int × Nat × Nat)) : Dev :=
  let us := d.usedSens
  let atTrip := us.any d.atTrip
  let stop : Int := ((d.stopMs * uMs : Nat) : Int)
  let hot := us.any (fun s => decide (d.tmpWarn s < d.tmpT s) || decide ((d.fld (Reg.TMP_S_RATE s) 15 0 : Int) * (d.rateWin : Int) < d.riseOf x s) || d.tmpBroken s)
  let st := d.tmpState
  if st = 0 || st = 1 then
    if atTrip then d.tmpTrips x 1 pred
    else if predBelow pred stop then d.tmpTrips x 2 pred
    else if predBelow pred (2 * stop) then
      (d.tmpTo x 2).raise .per x 220 0xA104 [(1, match pred with | some p => p.2.2 | none => 0), (4, (predWord pred).toNat)]
    else if st = 0 then
      (if hot then (d.tmpTo x 1).raise .per x 219 0xA103 [(1, 1), (1, d.hottest)] else d)
    else
      let cool := us.all (fun s => decide (d.tmpT s < d.tmpWarn s - d.tmpHyst) && !d.tmpBroken s) && !hot
      match cool, d.tmp.coolSince with
      | false, _ => d.setTmp fun q => { q with coolSince := none }
      | true, none => d.setTmp fun q => { q with coolSince := some x }
      | true, some c => if c + 10 * uS ≤ x then (d.tmpTo x 0).raise .per x 219 0xA103 [(1, 0), (1, d.hottest)] else d
  else if st = 2 then
    let left : Int := stop - ((x - d.tmp.since : Nat) : Int)
    if d.tmp.since + d.stopMs * uMs ≤ x then d.tmpTrips x 0 pred
    else if atTrip then d.tmpTrips x 1 pred
    else if predBelow pred left then d.tmpTrips x 2 pred
    else d
  else d

/-- FAST, HOT, TPRED, and the values TEMPER_IN delivers (R426, R428, R432). -/
def Dev.tmpShow (d : Dev) (pred : Option (Int × Nat × Nat)) : Dev :=
  let near (a b : Int) : Bool := decide ((a - b).natAbs ≤ 100)
  let fast := d.usedSens.any (fun s => near (d.tmpT s) (d.tmpWarn s) || near (d.tmpT s) (d.tmpTrip s))
  let d := (((d.setB Reg.TMP_STAT 3 fast).setF Reg.TMP_STAT 20 16 d.hottest)).wr Reg.TMP_TPRED (predWord pred)
  d.setTmp fun q => { q with inNow := [BitVec.ofNat 32 d.tmpState, Fp.ofRat (d.tmpT d.hottest) 10, predWord pred] }

/-- A measurement of every used sensor (R426 to R430, R123). -/
def Dev.tmpMeasure (d : Dev) (x : Nat) (readings : List Int) (defects : List SensorDefect) : Dev :=
  let v (s : Nat) : Int := if s < 16 then nth 250 readings s else d.tmpExt (s - 16)
  let d0 := d
  let hist (s : Nat) : List (Nat × Int) := sensKeep x ((x, v s) :: (d0.sens s).hist)
  let d := (List.range 24).foldl (fun d s => d.tmpRead x s (v s) hist defects) d
  let pred := d.tmpPred x
  (((d.tmpNext x pred).tmpShow pred).tmpRamp x).thermEval x

/-- TEMPER_MEASUREMENT (R426): 1 ms after the one before, 100 µs while FAST, from the end of step 6 of start-up on (R506). -/
def execTemperMeasurement (t : Nat) (readings : List Int) (defects : List SensorDefect) (s : State) : Out :=
  act t s fun x d => d.live fun d =>
    let due := match d.tmp.last with | none => true | some l => decide (l + (if d.bit Reg.TMP_STAT 3 then 100 * uUs else uMs) ≤ x)
    if due && decide (6 ≤ d.fld Reg.SYS_BOOT 3 0) then (d.setTmp fun q => { q with last := some x }).tmpMeasure x readings defects else d

/-- A write of 1 to TMP_CTRL.RESUME (R429). -/
def Dev.tmpResume (d : Dev) (x : Nat) : Dev :=
  let cool := d.usedSens.all (fun s => decide (d.tmpT s < d.tmpWarn s - d.tmpHyst) && !d.tmpBroken s)
  if d.tmpState = 3 && cool then (((d.tmpTo x 0).raise .per x 222 0xA106 [(2, ofSigned 16 (d.tmpT d.hottest))]).tmpRamp x).readyNote x
  else d.setB Reg.TMP_STAT 8 true

/-- RESUME (R429). -/
def execResume (t : Nat) (s : State) : Out := act t s fun x d => d.live fun d => d.tmpResume x

/-- What Temper does at a T0 (R430, R432). -/
def Dev.tmpT0 (d : Dev) : Dev := d.setTmp fun q => { q with shed := d.tmpState != 0, inT0 := q.inNow }

/-- The conditions of R433 on the registers of TMP. -/
def Dev.tmpOk (d : Dev) : Bool :=
  let lim (v : Int) : Bool := decide (-400 ≤ v) && decide (v ≤ 1500)
  let one (s : Nat) : Bool :=
    decide (d.tmpWarn s < d.tmpTrip s) && lim (d.tmpWarn s) && lim (d.tmpTrip s) &&
      decide (1 ≤ d.fld (Reg.TMP_S_RATE s) 15 0) && decide (d.fld (Reg.TMP_S_RATE s) 15 0 ≤ 500)
  let ext (j : Nat) : Bool :=
    decide (d.fld (Reg.TMP_X_CFG j) 5 0 ≤ 55) && (List.range 3).all (fun i => decide ((d.tmpPt j i).1 < (d.tmpPt j (i + 1)).1)) &&
      decide (toSigned 14 (d.fld (Reg.TMP_X_BAD j) 13 0) < toSigned 14 (d.fld (Reg.TMP_X_BAD j) 29 16))
  decide (1 ≤ d.rateWin) && decide (d.rateWin ≤ 100) && decide (10 ≤ d.fld Reg.TMP_CFG 7 0) && decide (d.fld Reg.TMP_CFG 7 0 ≤ 200) &&
    decide (10 ≤ d.stopMs) && decide (d.stopMs ≤ 60000) && decide (50 ≤ d.fld Reg.TMP_THR 15 0) && decide (d.fld Reg.TMP_THR 15 0 ≤ 800) &&
    d.usedSens.all (fun s => one s && (decide (s < 16) || ext (s - 16)))

/-- A bus write of a TMP register (R433): USED of an on-die sensor is read-only. -/
def Dev.wrTmp (d : Dev) (ld : Bool) (a : Nat) (v : Word) : Dev :=
  let onDie := (List.range 16).any (fun s => a == Reg.TMP_S_RATE s)
  let d' := d.rw a (if onDie then setBit v 31 (d.bit a 31) else v)
  if ld || d'.tmpOk then d' else d.setB Reg.TMP_STAT 8 true

end Sys2Proof.Machine
end

