-- ==== Sys2Proof/Machine/Sec.lean ====
section
/-! DEFINITION. Machine/Sec.lean: life cycle, keys, counters, arming, KEEP and debug (R460 to R480). -/

namespace Sys2Proof.Machine

/-! ### OTP and its shadows (R460, R462, R468) -/

/-- SEC_LC as the fuses give it; a group that cannot be read makes the chip BLANK for this boot (R468). -/
def Otp.lcWord (o : Otp) : Word :=
  setBit (setBit (BitVec.ofNat 32 (if o.err then 0 else o.lc % 4)) 2 o.retPend) 31 o.err
/-- SEC_KEY_STAT as the fuses give it. -/
def Otp.keyWord (o : Otp) : Word :=
  let prog := (List.range 4).foldl (fun n s => n + (match o.keys[s]? with | some (some _) => 2 ^ s | _ => 0)) 0
  BitVec.ofNat 32 (prog + 16 * (o.revoked % 16))
/-- SEC_CNT as the fuses give it, BUSY apart. -/
def Otp.cntWord (o : Otp) : Word := BitVec.ofNat 32 (2 ^ 16 * (o.fwCnt % 128) + o.imgCnt % 128)

/-- The shadow registers take the fuse values (R468). -/
def Dev.otpShadows (d : Dev) (o : Otp) : Dev :=
  let d := ((d.wr Reg.SEC_LC o.lcWord).wr Reg.SEC_KEY_STAT o.keyWord).wr Reg.SEC_CNT o.cntWord
  (List.range 4).foldl (fun d i => d.wrN (Reg.SEC_UID i) (o.uid / 2 ^ (32 * i) % 2 ^ 32)) d

/-- The life-cycle state (SEC_LC.STATE): 0 BLANK, 1 PROVISIONED, 2 FIELD, 3 RETURN. -/
def Dev.lc (d : Dev) : Nat := d.fld Reg.SEC_LC 1 0
/-- A key slot is usable (R462). -/
def Dev.slotUsable (d : Dev) (s : Nat) : Bool := d.bit Reg.SEC_KEY_STAT s && !d.bit Reg.SEC_KEY_STAT (4 + s)
/-- SEC_CNT.BUSY. -/
def Dev.otpBusy (d : Dev) : Bool := d.bit Reg.SEC_CNT 15
/-- No OTP write is possible (R463). -/
def Dev.otpShut (d : Dev) : Bool := d.power == 2 || d.power == 4 || d.otpBusy
/-- A life-cycle, key or counter write is refused. -/
def Dev.secRefuse (d : Dev) : Dev := d.setB Reg.SEC_STAT 0 true

/-- An effect with fuses only. -/
def Effect.ofDev (d : Dev) (fuses : List Fuse) : Effect := { dev := d, cells := [], fuses := fuses }

/-- A command of a domain that runs. -/
def liveE (s : State) (f : State → Effect) : Effect := if s.dev.runs then f s else { dev := s.dev, cells := [], fuses := [] }

/-- A byte whose value the spec does not state. -/
def Dev.freshByte (d : Dev) : Nat × Dev := let f := d.fresh; ((Sys2Proof.Config.freeWord f.1).toNat % 256, f.2)

/-- The device with its security state changed. -/
def Dev.setSec (d : Dev) (f : SecSt → SecSt) : Dev := { d with sec := f d.sec }

/-- The debug level in force (DBG_STAT.LEVEL). -/
def Dev.dbgLevel (d : Dev) : Nat := d.fld Reg.DBG_STAT 31 30

/-- The debug level changes (R474, R476): event 242. -/
def Dev.dbgTo (d : Dev) (x level key : Nat) : Dev :=
  let old := d.dbgLevel
  if old = level then d else ((d.setF Reg.DBG_STAT 31 30 level).raise .per x 242 0xD202 [(1, old), (1, level), (1, key)]).readyNote x

/-- The level returns to NONE (R476). -/
def Dev.dbgNone (d : Dev) (x : Nat) : Dev := d.dbgTo x 0 (d.fld Reg.DBG_REQ 5 4)

/-- A change of the life cycle to a state: shadow, event 246, debug NONE (R461, R476). -/
def Dev.lcTo (d : Dev) (x n : Nat) : Dev := (((d.setF Reg.SEC_LC 1 0 n).raise .per x 246 0xD204 [(1, n)]).dbgNone x).readyNote x

/-- A write of SEC_LC_CTRL (R461, R463). -/
def Dev.lcRequest (d : Dev) (x : Nat) (v : Word) : Dev × List Fuse :=
  let target := bitsOf v 1 0
  let ok := bitsOf v 31 24 == 0xA5 && !d.otpShut &&
    ((target == 1 && d.lc == 0 && (List.range 4).any d.slotUsable) || (target == 2 && d.lc == 1))
  if ok then (d.lcTo x target, [.lifeCycle target]) else (d.secRefuse, [])

/-- LC_CHANGE_REQUEST (R461). -/
def execLcChangeRequest (t : Nat) (v : Word) (s : State) : Out :=
  actE t s fun s => liveE s fun s => let r := s.dev.lcRequest s.now v; .ofDev r.1 r.2

/-- The staged key: X and Y as big-endian octet strings (R463). -/
def Dev.stagedKey (d : Dev) : Nat × Nat :=
  let bs := d.sec.kstage.flatMap (fun w => leBytes 4 w.toNat)
  (beNat (bs.take 48), beNat ((bs.drop 48).take 48))

/-- A write of 1 to SEC_KEY_CTRL.PROG (R463). The spec gives the action of the log entry no number: a free value. -/
def Dev.keyProg (d : Dev) (x slot : Nat) : Dev × List Fuse :=
  let k := d.stagedKey
  if 1 < d.lc || d.bit Reg.SEC_KEY_STAT slot || !P384.onCurve k.1 k.2 || d.otpShut then (d.secRefuse, [])
  else
    let f := d.freshByte
    ((f.2.setB Reg.SEC_KEY_STAT slot true).raise .per x 246 0xD206 [(1, slot), (1, f.1)], [.key slot k.1 k.2])

/-- A write of 1 to SEC_KEY_CTRL.REVOKE (R463). -/
def Dev.keyRevoke (d : Dev) (x slot : Nat) : Dev × List Fuse :=
  let last := d.slotUsable slot && ((List.range 4).countP d.slotUsable == 1)
  if d.lc = 0 || d.lc = 3 || last || d.otpShut then (d.secRefuse, [])
  else
    let f := d.freshByte
    ((f.2.setB Reg.SEC_KEY_STAT (4 + slot) true).raise .per x 246 0xD206 [(1, slot), (1, f.1)], [.revoke slot])

/-- KEY_PROG (R463): SLOT and PROG in one write. -/
def execKeyProg (t : Nat) (slot : Fin 4) (s : State) : Out :=
  actE t s fun s => liveE s fun s => let r := (s.dev.setF Reg.SEC_KEY_CTRL 1 0 slot.val).keyProg s.now slot.val; .ofDev r.1 r.2

/-- KEY_REVOKE (R463): SLOT and REVOKE in one write. -/
def execKeyRevoke (t : Nat) (slot : Fin 4) (s : State) : Out :=
  actE t s fun s => liveE s fun s => let r := (s.dev.setF Reg.SEC_KEY_CTRL 1 0 slot.val).keyRevoke s.now slot.val; .ofDev r.1 r.2

/-- A bus write of SEC_KEY_CTRL: SLOT, then PROG, then REVOKE. -/
def Dev.wrKeyCtrl (d : Dev) (x : Nat) (v : Word) : Dev × List Fuse :=
  let d := d.rw Reg.SEC_KEY_CTRL v
  let slot := bitsOf v 1 0
  let r := if tbit v 31 then d.keyProg x slot else (d, [])
  if tbit v 30 then let q := r.1.keyRevoke x slot; (q.1, r.2 ++ q.2) else r

/-- A write of 1 to ADV_IMG (`fw` false) or ADV_FW (R467): BUSY, and the fuses blow; refused if the counter would not rise. -/
def Dev.advance (d : Dev) (x : Nat) (fw : Bool) : Dev :=
  let target := if fw then d.fld Reg.SEC_FWVER 6 0 else d.fld Reg.IMG_SECVER 6 0
  let have_ := if fw then d.fld Reg.SEC_CNT 22 16 else d.fld Reg.SEC_CNT 6 0
  if target ≤ have_ || d.otpShut then d.secRefuse
  else (d.setB Reg.SEC_CNT 15 true).setSec (fun q => { q with blow := some (b2n fw, target, x) })

/-- ADV_IMG (R467). -/
def execAdvImg (t : Nat) (s : State) : Out := act t s fun x d => d.live fun d => d.advance x false
/-- ADV_FW (R467). -/
def execAdvFw (t : Nat) (s : State) : Out := act t s fun x d => d.live fun d => d.advance x true

/-- FUSE_BLOW_DONE (R467): the counter has its new value; event 246. The spec gives the counter of the log entry no number: a free value. -/
def execFuseBlowDone (t : Nat) (s : State) : Out :=
  actE t s fun s => liveE s fun s =>
    match s.dev.sec.blow with
    | none => .ofDev s.dev []
    | some (fw, n, _) =>
      let f := s.dev.freshByte
      let d := (f.2.setB Reg.SEC_CNT 15 false).setSec (fun q => { q with blow := none })
      let d := if fw = 1 then d.setF Reg.SEC_CNT 22 16 n else d.setF Reg.SEC_CNT 6 0 n
      .ofDev (d.raise .per s.now 246 0xD205 [(1, f.1), (1, n)]) [if fw = 1 then .fwCnt n else .imgCnt n]

/-- The fuse value of a shadow register. -/
def Otp.shadow (o : Otp) (r : Nat) : Word := if r = 0 then o.lcWord else if r = 1 then o.keyWord else o.cntWord

/-- OTP_SHADOW_CHECK (R468): every 1 h, a shadow that differs from its fuses sets OTP_MISMATCH, raises event 247 and takes the fuse value. -/
def execOtpShadowCheck (t : Nat) (upsets : List ShadowUpset) (s : State) : Out :=
  act t s fun x d => d.live fun d =>
    if (match d.sec.otpAt with | some l => decide (x < l + 3600 * uS) | none => false) then d
    else
    (upsets.filter (fun u => decide (u.reg < 3))).foldl (fun d u =>
      let addr := if u.reg = 0 then Reg.SEC_LC else if u.reg = 1 then Reg.SEC_KEY_STAT else Reg.SEC_CNT
      let fuse := s.otp.shadow u.reg
      if u.value = fuse then d
      else
        let f := d.freshByte
        let busy := d.otpBusy
        let d := ((f.2.setB Reg.SEC_STAT 2 true).raise .per x 247 0xD207 [(1, f.1), (4, u.value.toNat)]).wr addr fuse
        if u.reg = 2 then d.setB Reg.SEC_CNT 15 busy else d) (d.setSec fun q => { q with otpAt := some x })

/-! ### Power states (R469 to R472) -/

/-- A refused ARM or KEEP: CAUSE, PWR_REFUSED, event 241. -/
def Dev.pwrRefuse (d : Dev) (x cause : Nat) : Dev :=
  ((d.setF Reg.PWR_STAT 15 12 cause).setB Reg.SEC_STAT 1 true).raise .per x 241 0xD201 [(1, cause)]

/-- A write of 1 to PWR_CTRL.ARM (R470, R471): diagnostics end, RUN_ARMED. -/
def Dev.armReq (d : Dev) (x : Nat) : Dev :=
  if d.armCause ≠ 0 then d.pwrRefuse x d.armCause
  else if d.power = 1 then d.powerTo x 2
  else d

/-- ARM (R471). -/
def execArm (t : Nat) (s : State) : Out := act t s fun x d => d.live fun d => d.armReq x

/-- A write of 1 to PWR_CTRL.DISARM (R470). -/
def Dev.disarmReq (d : Dev) (x : Nat) : Dev := if d.power = 2 then d.powerTo x 1 else d

/-- DISARM (R470). -/
def execDisarm (t : Nat) (s : State) : Out := act t s fun x d => d.live fun d => d.disarmReq x

/-- Step 4 of an entry into KEEP (R472): the core is held in reset, PSU_EN is low, and the Keep domain treats the main supplies as absent. -/
def Dev.keepHold (d : Dev) (x : Nat) : Dev :=
  let wlo := d.rd Reg.PWR_WAKE_LO
  let whi := d.rd Reg.PWR_WAKE_HI
  let d := ((d.pornLow 0).keepLoss x).setF Reg.PWR_STAT 2 0 4
  let d := (d.wr Reg.PWR_WAKE_LO wlo).wr Reg.PWR_WAKE_HI whi
  { d with sec := { d.sec with psuEn := false } }

/-- A write of 1 to PWR_CTRL.KEEP (R472). -/
def Dev.keepReq (d : Dev) (x : Nat) (o : Otp) : Dev :=
  if d.power = 2 then d.pwrRefuse x 6
  else if d.power = 4 then d
  else
    let d := if d.power = 3 then d.withdraw x 0 else d
    let d := (d.dropOwn x 2).framesStop
    let d := d.ringsStop
    let d := d.flushNow
    let d := ((d.powerTo x 4).dbgNone x).lanesDark
    let d := d.blwAbort x
    if d.clk.started then d.blwRun 0 3 o.stopProf else d.keepHold x

/-- KEEP (R472). -/
def execKeepCmd (t : Nat) (s : State) : Out := act t s fun x d => d.live fun d => d.keepReq x s.otp

/-- WAKE_TIME_REACHED (R472): KT has reached PWR_WAKE; PSU_EN returns high. -/
def execWakeTimeReached (t : Nat) (s : State) : Out :=
  act t s fun x d =>
    let w := d.rd64 Reg.PWR_WAKE_LO Reg.PWR_WAKE_HI
    if d.sec.psuEn || w = 0 || d.ktNow x < w then d else d.setSec (fun q => { q with psuEn := true })

/-- A bus write of PWR_CTRL: ARM, DISARM, KEEP in ascending bit order. -/
def Dev.wrPwrCtrl (d : Dev) (x : Nat) (v : Word) (o : Otp) : Dev :=
  let d := if tbit v 0 then d.armReq x else d
  let d := if tbit v 1 then d.disarmReq x else d
  if tbit v 2 then d.keepReq x o else d

/-! ### Debug (R473 to R478) -/

/-- The outcome of a request by the table of R477 once the signature, where one is needed, is valid: 0 refused by state, 1 granted, 2 granted
after withdrawal. -/
def Dev.dbgDecide (d : Dev) (level : Nat) : Nat :=
  if level = 0 || d.power = 0 || d.power = 4 then 0
  else if level = 1 then 1
  else if level = 3 && d.lc = 3 then 0
  else if d.power = 2 then 0
  else if d.power = 3 then (if d.pair = 4 then 0 else 2)
  else 1

/-- Steps 1 to 6 of RETURN (R478): quench, RETURN_PENDING, both journal regions and the log erased, every slot revoked, RETURN, and a reset of the chip. -/
def returnSeq (s : State) (d : Dev) : Effect :=
  let x := s.now
  let d := (List.range 6).foldl (fun d b => d.quenchReq x x b 0) d
  let d := ((d.setB Reg.SEC_LC 2 true).lcTo x 3).keepCold x true
  let d := (d.setB Reg.LOG_STAT 7 true).pornLow 1
  { dev := d, cells := journalErase s.mem, fuses := [.retPending, .revoke 0, .revoke 1, .revoke 2, .revoke 3, .lifeCycle 3] }

/-- A level is granted (R474, R475, R477). -/
def grant (s : State) (d : Dev) (level key : Nat) (how : Nat) : Effect :=
  let d := if how = 2 then d.withdraw s.now 2 else d
  let d := (d.setF Reg.DBG_STAT 15 12 1).setF Reg.DBG_STAT 23 16 0
  let d := d.setSec (fun q => { q with fails := 0 })
  if level = 3 then returnSeq s d else .ofDev (d.dbgTo s.now level key) []

/-- A failed authentication (R475): event 243 and a lockout of 1 s, of 600 s from the fifth consecutive failure on. -/
def Dev.dbgFail (d : Dev) (x key result : Nat) : Dev :=
  let n := d.sec.fails + 1
  let d := ((d.setF Reg.DBG_STAT 15 12 result).setF Reg.DBG_STAT 23 16 (Nat.min n 255)).setB Reg.DBG_STAT 27 true
  let d := d.setSec (fun q => { q with fails := n, lockout := some (x + (if n < 5 then uS else 600 * uS)) })
  d.raise .per x 243 0xD203 [(1, key), (1, Nat.min n 255), (1, result)]

/-- The 64 challenge bytes (R474). -/
def Dev.challenge (d : Dev) (nonce : List Byte) (level key : Nat) : List Byte :=
  (nonce ++ List.replicate 32 0#8).take 32 ++ (List.range 4).flatMap (fun i => leBytes 4 (d.rd (Reg.SEC_UID i)).toNat) ++
    [BitVec.ofNat 8 level, BitVec.ofNat 8 key] ++ List.replicate 14 0#8

/-- A write of 1 to DBG_REQ.START (R474, R477): the challenge with a nonce of the random generator; outside FIELD the level is decided at once. -/
def dbgStartReq (s : State) (d : Dev) (v : Word) (nonce : List Byte) : Effect :=
  let level := bitsOf v 1 0
  let key := bitsOf v 5 4
  let how := d.dbgDecide level
  if (match d.sec.lockout with | some e => decide (s.now < e) | none => false) then .ofDev (d.setF Reg.DBG_STAT 15 12 4) []
  else if how = 0 then .ofDev (d.setF Reg.DBG_STAT 15 12 3) []
  else
    let ws := chunks 4 16 (d.challenge nonce level key)
    let d := (List.range 16).foldl (fun d i => d.wrN (Reg.DBG_CHAL i) (leNat (nth [] ws i))) d
    let d := (d.setB Reg.DBG_STAT 29 true).setSec (fun q => { q with chalExp := some (s.now + 60 * uS), chalUsed := false, reqLevel := level, reqKey := key })
    if d.lc = 2 then .ofDev d []
    else grant s ((d.setB Reg.DBG_STAT 29 false).setSec (fun q => { q with chalExp := none, chalUsed := true })) level key how

/-- DBG_START (R474, R477): LEVEL, KEY and START in one write; the nonce comes with the command. -/
def execDbgStart (t : Nat) (v : Word) (nonce : List Byte) (s : State) : Out :=
  actE t s fun s => liveE s fun s => dbgStartReq s (s.dev.rw Reg.DBG_REQ v) v nonce

/-- A write of 1 to DBG_REQ.VERIFY (R474, R475): the challenge is spent; without one the request fails. -/
def Dev.dbgVerifyReq (d : Dev) (x : Nat) : Dev :=
  let fresh := !d.sec.chalUsed && (match d.sec.chalExp with | some e => decide (x < e) | none => false)
  if d.bit Reg.DBG_STAT 28 then d
  else
    let d := (d.setB Reg.DBG_STAT 29 false).setSec (fun q => { q with chalUsed := true, chalExp := none })
    if fresh then (d.setB Reg.DBG_STAT 28 true).setSec (fun q => { q with verifyAt := some x })
    else d.dbgFail x (d.fld Reg.DBG_REQ 5 4) 5

/-- DBG_VERIFY (R474, R475). -/
def execDbgVerify (t : Nat) (s : State) : Out := act t s fun x d => d.live fun d => d.dbgVerifyReq x

/-- The signature in DBG_RESP over the challenge verifies with an owner key (R474). -/
def Dev.dbgSigOk (d : Dev) (key : Nat × Nat) : Bool :=
  let bs := d.sec.resp.flatMap (fun w => leBytes 4 w.toNat)
  let msg := (List.range 16).flatMap (fun i => leBytes 4 (d.rd (Reg.DBG_CHAL i)).toNat)
  P384.verify key.1 key.2 (sha384 msg) (beNat (bs.take 48)) (beNat ((bs.drop 48).take 48))

/-- DBG_VERIFY_DONE (R474 to R478): the signature is judged, then the state. -/
def execDbgVerifyDone (t : Nat) (s : State) : Out :=
  actE t s fun s => liveE s fun s =>
    let d := s.dev
    match d.sec.verifyAt with
    | none => .ofDev d []
    | some _ =>
      let d := (d.setB Reg.DBG_STAT 28 false).setSec (fun q => { q with verifyAt := none })
      let key := d.sec.reqKey
      match s.otp.keys[key]? with
      | some (some k) =>
        if !d.slotUsable key then .ofDev (d.dbgFail s.now key 6) []
        else if !d.dbgSigOk k then .ofDev (d.dbgFail s.now key 2) []
        else
          let how := d.dbgDecide d.sec.reqLevel
          if how = 0 then .ofDev (d.setF Reg.DBG_STAT 15 12 3) [] else grant s d d.sec.reqLevel key how
      | _ => .ofDev (d.dbgFail s.now key 6) []

/-- DBG_END (R476). -/
def execDbgEnd (t : Nat) (s : State) : Out := act t s fun x d => d.live fun d => d.dbgNone x

/-- CHALLENGE_EXPIRY (R474): 60 s after CHAL_READY. -/
def execChallengeExpiry (t : Nat) (s : State) : Out :=
  act t s fun x d => d.live fun d =>
    match d.sec.chalExp with
    | none => d
    | some e => if e ≤ x then (d.setB Reg.DBG_STAT 29 false).setSec (fun q => { q with chalExp := none, chalUsed := true }) else d

/-- DEBUG_LOCKOUT_END (R475). -/
def execDebugLockoutEnd (t : Nat) (s : State) : Out :=
  act t s fun x d => d.live fun d =>
    match d.sec.lockout with
    | none => d
    | some e => if e ≤ x then (d.setB Reg.DBG_STAT 27 false).setSec (fun q => { q with lockout := none }) else d

/-- A bus write of a staging register: SEC_KSTAGE or DBG_RESP, which read 0. -/
def Dev.wrSecStage (d : Dev) (resp : Bool) (i : Nat) (v : Word) : Dev :=
  if resp then d.setSec (fun q => { q with resp := updN 24 0 d.sec.resp i (fun _ => v) })
  else d.setSec (fun q => { q with kstage := updN 24 0 d.sec.kstage i (fun _ => v) })

end Sys2Proof.Machine
end

