-- ==== Sys2Proof/Machine/Twin.lean ====
section
/-! DEFINITION. Machine/Twin.lean: twin operation: windows and claims, frames in step, mirroring, handover, and the messages of the Jexper link (R327 to R352). -/

namespace Sys2Proof.Machine

/-- The device with the twin block's own state changed. -/
def Dev.setTwn (d : Dev) (f : TwnSt → TwnSt) : Dev := { d with twn := f d.twn }

/-! ### Frame numbers and alignment (R334) -/

/-- The chip's own frame for a frame number in a message (R334). -/
def Dev.ownFrm (d : Dev) (f : Nat) : Nat := frmSince f (d.rd Reg.TWN_FOFFS).toNat
/-- A frame number is at or before another. -/
def frmLe (a b : Nat) : Bool := decide (frmSince b a < 2 ^ 31)
/-- TWN_CFG.PAIR_EN. -/
def Dev.pairEn (d : Dev) : Bool := d.bit Reg.TWN_CFG 31
/-- The pair state the partner last reported; 5 for none. -/
def Dev.peerPair (d : Dev) : Nat := match d.twn.peer with | none => 5 | some h => h.pair
/-- The partner's T0 minus the own T0, once both are known for paired frames; TWN_ALIGN (R334). -/
def Dev.eaUpdate (d : Dev) : Dev :=
  match d.twn.peer with
  | none => d
  | some h =>
    match d.twn.t0Hist.find? (fun (p : Nat × Nat) => p.1 == d.ownFrm h.frmCount) with
    | none => d
    | some p =>
      if d.twn.paired then
        let e : Int := (h.t0 : Int) - (p.2 : Int)
        (d.setF Reg.TWN_ALIGN 15 0 (ofSigned 16 e)).setTwn fun q => { q with ea := e }
      else d

/-- The partner's report of the own frame `k`, if it has come (R334). -/
def Dev.beatOf (d : Dev) (k : Nat) : Option HeartbeatBody := if d.twn.paired then d.twn.beats.find? (fun h => d.ownFrm h.frmCount == k) else none

/-- A chip pairs its own frame whose T0 lies nearest the partner's (R334). -/
def Dev.pairFrames (d : Dev) (h : HeartbeatBody) : Dev :=
  match d.twn.t0Hist.getLast? with
  | none => d
  | some l =>
    let own := d.twn.t0Hist ++ [((l.1 + 1) % 2 ^ 32, l.2 + 2 * d.P)]
    match minBy? (fun (p : Nat × Nat) => ((p.2 : Int) - (h.t0 : Int)).natAbs) own with
    | none => d
    | some p => (d.wrN Reg.TWN_FOFFS (frmSince h.frmCount p.1)).setTwn fun q => { q with paired := true }

/-! ### Mirrored blocks (R335) -/

/-- The signature of a block: the CRC of its record's bytes 0 to 11, its signal list and, for FORMULA, its operation words (R335). -/
def BlkRec.signature (b : BlkRec) : Nat :=
  (crc32 (leBytes 4 b.id ++ leBytes 2 b.typ ++ leBytes 1 b.ins.length ++ leBytes 1 b.outs.length ++ leBytes 1 b.rate
    ++ leBytes 1 (b2n b.noShare + 2 * b2n b.sheddable) ++ leBytes 2 b.trigger ++ (b.ins ++ b.outs).flatMap (leBytes 2)
    ++ b.ops.flatMap (fun o => leBytes 1 o.1 ++ leBytes 1 0 ++ leBytes 2 o.2))).toNat

/-- The mirrored blocks by ascending INSTANCE_ID, and their count (R335). -/
def Dev.mirrorEval (d : Dev) : Dev :=
  let n := d.hrt.graph.blks.length
  let m := sortBy (fun j => (d.blkAt j).id) ((List.range n).filter (fun j => d.twn.blocks.contains ((d.blkAt j).id, (d.blkAt j).signature)))
  ((d.setF Reg.TWN_MIRROR 12 0 m.length).setF Reg.TWN_MIRROR 28 16 (n - m.length)).setTwn fun q => { q with mirrored := m }

/-- The BLOCKS messages of the running graph, at most 1,023 entries each (R349). -/
def Dev.blocksMsgs (d : Dev) : List TwinMsg :=
  let es := d.hrt.graph.blks.map (fun b => (b.id, b.signature))
  (List.range (Nat.max 1 (ceilDiv es.length 1023))).map (fun k =>
    .blocks { total := es.length, first := 1023 * k, entries := (es.drop (1023 * k)).take 1023 })

/-- The mirrored blocks with their numbers of state words, in sweep order (R336). -/
def Dev.sweepWords (d : Dev) : List (Nat × Nat) := d.twn.mirrored.map (fun j => (j, stateWordsOf (d.blkAt j)))

/-! ### STATE (R336, R351) -/

/-- The bytes a STATE message may hold, by the slowest lane in use and P (R351). -/
def Dev.stateRoom (d : Dev) : Nat :=
  let slow := (List.range 2).any (fun l => d.stage l == 4 && d.bit (Reg.LNK_LN_CFG l) 26)
  if slow then (if 4000 ≤ d.P then 2048 else 1024) else if 4000 ≤ d.P then 4096 else 2048

/-- Runs from a position of the sweep that fit into a number of bytes: block, first word, words; the last mirrored word ends a message. -/
def sweepRuns : List (Nat × Nat) → Nat → Nat → List (Nat × Nat × Nat)
  | [], _, _ => []
  | (j, n) :: r, pos, room =>
    if n ≤ pos then sweepRuns r (pos - n) room
    else if room < 12 then []
    else
      let k := Nat.min (n - pos) ((room - 8) / 4)
      (j, pos, k) :: (if k < n - pos then [] else sweepRuns r 0 (room - 8 - 4 * k))

/-- The newest checkpointed value of a state word as of a frame, if one is held; a block that was never checkpointed has state words 0 (R90). -/
def Dev.ckptWord (d : Dev) (j off f : Nat) : Option Word :=
  let r := d.rtAt j
  let l := [r.bank0, r.bank1].filterMap id
  let init := stateInit (d.blkAt j).typ off
  if l.isEmpty then some init
  else (minBy? (fun c => frmSince f c.1) (l.filter (fun c => frmLe c.1 f))).map (fun c => nth init c.2 off)

/-- The frame's STATE message: the owner's newest checkpoints as of the frame before, in sweep order; a run whose checkpoint fails its CRC is skipped. -/
def Dev.sendState (d : Dev) : Dev :=
  let j := frmSince d.frame 1
  let rs := sweepRuns d.sweepWords d.twn.sweepPos (d.stateRoom - 24)
  let pos := d.twn.sweepPos + sumOf (rs.map (fun r => r.2.2))
  let badTask (j : Nat) : Bool := match taskOf d.hrt.place.tasks j with | none => false | some i => (d.taskAt i).blks.any d.twn.ckptBad.contains
  let good := rs.filter (fun r => !badTask r.1)
  let runs := good.map (fun r => ({ id := (d.blkAt r.1).id, first := r.2.1,
                                    words := (List.range r.2.2).map (fun k => (d.ckptWord r.1 (r.2.1 + k) j).getD 0) } : StateRun))
  let next := if sumOf (d.sweepWords.map (·.2)) ≤ pos then 0 else pos
  (d.send (.state { frmCount := j, runs := runs })).setTwn fun q => { q with sweepPos := next }

/-- The kind of a state word: the window counters of IDENT_INJ are counts, its frame number among them (R336); the others are as block ROM holds them. -/
def stateKindOf (typ off : Nat) : Nat := if typ = 0x2009 ∧ 1 ≤ off ∧ off ≤ 3 then 2 else Sys2Proof.Config.stateKind typ off
/-- A state word as the receiver counts frames: the frame number that IDENT_INJ holds is the sender's, and is mapped like every other (R334). -/
def Dev.stateIn (d : Dev) (typ off : Nat) (w : Word) : Word := if typ = 0x2009 ∧ off = 2 then BitVec.ofNat 32 (d.ownFrm w.toNat) else w

/-- The words of a STATE message are latched beside the own checkpoints of the same frame, for the T0 three frames on (R336). -/
def Dev.rxState (d : Dev) (b : StateBody) : Dev :=
  if !d.follows then d
  else
    let j := d.ownFrm b.frmCount
    let at_ := (j + 3) % 2 ^ 32
    if frmLe at_ d.frame then d
    else
      let one (r : StateRun) : List (Nat × Nat × Nat × Word × Word) :=
        match d.twn.mirrored.find? (fun k => (d.blkAt k).id == r.id) with
        | none => []
        | some k => (List.range r.words.length).filterMap (fun i =>
            (d.ckptWord k (r.first + i) j).map (fun own => (at_, k, r.first + i, d.stateIn (d.blkAt k).typ (r.first + i) (nth 0 r.words i), own)))
      d.setTwn fun q => { q with corr := q.corr ++ b.runs.flatMap one }

/-- A word corrected by the kind that block ROM gives it (R336): value, angle, count, code. -/
def mirrorWord (kind : Nat) (sent own cur : Word) : Word :=
  if kind = 0 then Fp.add cur (Fp.sub sent own)
  else if kind = 1 then Fp.modTau (Fp.add cur (Fp.wrapPi (Fp.sub sent own)))
  else if kind = 2 then cur + (sent - own)
  else if cur = own then sent else cur

/-- One state word of a block takes a value. -/
def Dev.putState (d : Dev) (j off : Nat) (v : Word) : Dev :=
  let pad (st : List Word) : List Word := st ++ ((List.range (off + 1)).drop st.length).map (stateInit (d.blkAt j).typ)
  d.setRt j fun r => { r with st := upd (pad r.st) off (fun _ => v) }

/-- The corrections of a T0, and the sweep they complete (R336). -/
def Dev.mirrorT0 (d : Dev) (n : Nat) : Dev :=
  if !d.follows then d.setTwn fun q => { q with corr := [] }
  else
    let due := d.twn.corr.filter (fun (c : Nat × Nat × Nat × Word × Word) => c.1 == n)
    let d := due.foldl (fun d c =>
      d.putState c.2.1 c.2.2.1 (mirrorWord (stateKindOf (d.blkAt c.2.1).typ c.2.2.1) c.2.2.2.1 c.2.2.2.2 (nth (stateInit (d.blkAt c.2.1).typ c.2.2.1) (d.rtAt c.2.1).st c.2.2.1))) d
    let seen := (d.twn.sweepSeen ++ due.map (fun c => (c.2.1, c.2.2.1))).eraseDups
    let frames := if seen.isEmpty then 0 else d.twn.sweepFrames + 1
    let all := d.sweepWords.flatMap (fun p => (List.range p.2).map (fun i => (p.1, i)))
    let whole := !d.twn.blocks.isEmpty && decide (d.twn.blocks.length = d.twn.blocksTotal) && all.all seen.contains
    let d := d.setTwn fun q => { q with corr := q.corr.filter (fun (c : Nat × Nat × Nat × Word × Word) => c.1 != n), sweepSeen := seen, sweepFrames := frames }
    if whole then (d.setF Reg.TWN_SWEEP 15 0 (Nat.min frames 0xFFFF)).setTwn fun q => { q with sweepSeen := [], sweepFrames := 0, sweepDone := true } else d

/-! ### PARAM and SWAP (R337) -/

/-- The own frame at whose T0 a received word or swap applies: the named one, or the next if that has passed. -/
def Dev.applyFrm (d : Dev) (f : Nat) : Nat := let k := d.ownFrm f; if frmLe k d.frame then (d.frame + 1) % 2 ^ 32 else k

/-- The owner's parameter words of mirrored blocks are staged for their T0 (R337). -/
def Dev.rxParam (d : Dev) (b : ParamBody) : Dev :=
  if !d.follows then d
  else
    let at_ := d.applyFrm b.applyFrm
    let ws := b.entries.filterMap (fun e => (d.twn.mirrored.find? (fun k => (d.blkAt k).id == e.id)).bind (fun k =>
      if e.word < (d.blkAt k).nPar then some ({ set := e.set % 2, idx := (d.blkAt k).pIdx + e.word, val := e.value, frame := at_ } : ParStage) else none))
    { d with lp := { d.lp with staged := d.lp.staged ++ ws } }

/-- The owner's swap commands become pending for their T0 (R337). -/
def Dev.rxSwap (d : Dev) (b : SwapBody) : Dev :=
  if !d.follows then d
  else
    let at_ := d.applyFrm b.boundaryFrm
    (onesBelow 16 b.groups).foldl (fun d g =>
      if d.swapPend g then d
      else { d.setB Reg.LP_SWAP_STAT g true with lp := { d.lp with swaps := d.lp.swaps ++ [{ group := g, frame := at_, hot := false }] } }) d

/-- A chip that follows swaps every group whose active set differs from the owner's, as its HEARTBEAT of the frame before reports it (R337); a swap that is
pending stays so. -/
def Dev.swapEqual (d : Dev) (x n : Nat) : Dev :=
  match d.beatOf (frmSince n 1) with
  | none => d
  | some h =>
    if d.follows && (h.pair == 1 || h.pair == 2) then
      let gs := (List.range 16).filter (fun g => d.actB g != h.swapActive.testBit g)
      (gs.foldl (fun d g => let p := d.swapPend g; (d.swapNow x n g).setB Reg.LP_SWAP_STAT g p) d).swapAborts x (!gs.isEmpty)
    else d

/-! ### Cross-checks (R338, R339) -/

/-- The filtered FLT levels: bit n set while low. -/
def Dev.fltMask (d : Dev) : Nat := sumOf ((List.range 96).map (fun n => if d.fltLow n then 2 ^ n else 0))
/-- The LOST marks. -/
def Dev.lostMask (d : Dev) : Nat := sumOf ((List.range 96).map (fun n => if d.legLost n then 2 ^ n else 0))

/-- A comparison of one channel: the run of frames with a difference; the bit and event of an excursion once the run reaches its limit. -/
def crossStep (differs : Bool) (limit count : Nat) (mark : Bool) : Nat × Bool × Bool :=
  if !differs then (0, false, false)
  else
    let c := Nat.min (count + 1) 255
    (c, mark || decide (limit ≤ c), !mark && decide (limit ≤ c))

/-- The FLT levels of frame `k` against the partner's (R338); a frame whose HEARTBEAT has not come is not compared (log entry 95). The log's own level is 1 for
high. -/
def Dev.fltCompare (d : Dev) (x k : Nat) : Dev :=
  match d.beatOf k with
  | none => d
  | some h =>
    (List.range 96).foldl (fun d n =>
      if (d.chUse n).isNone then d
      else
        let low := d.twn.fltT0.testBit n
        let r := crossStep (low != h.flt.testBit n) (d.fld Reg.TWN_CFG 23 16) (nth 0 d.twn.fCount n) (nth false d.twn.fMark n)
        let d := d.setTwn fun q => { q with fCount := updN 96 0 q.fCount n (fun _ => r.1), fMark := updN 96 false q.fMark n (fun _ => r.2.1) }
        if r.2.2 then
          ((d.setB (Reg.TWN_FMIS (n / 32)) (n % 32) true).setB Reg.TWN_STAT 6 true).raise .per x 195 0x7103 [(1, n), (1, b2n (!low))]
        else d) d

/-- A RESULT message against the own commits of frame `k` (R339). -/
def Dev.resultCompare (d : Dev) (x k : Nat) (es : List (Nat × Word × Word)) : Dev :=
  (List.range 96).foldl (fun d n =>
    let own := (d.twn.results.find? (fun (q : Nat × Nat × Word × Word) => q.1 == k && q.2.1 == n)).map (fun q => (q.2.2.1, q.2.2.2))
    let far (a b : Word) : Bool := decide ((d.rd Reg.TWN_XTOL).toNat < ((a.toNat : Int) - (b.toNat : Int)).natAbs)
    let peer := (es.find? (fun (q : Nat × Word × Word) => q.1 == n)).map (·.2)
    let differs := match own, peer with
      | some a, some b => far a.1 b.1 || far a.2 b.2
      | none, none => false
      | _, _ => true
    let r := crossStep differs (d.fld Reg.TWN_CFG 15 8) (nth 0 d.twn.xCount n) (nth false d.twn.xMark n)
    let d := d.setTwn fun q => { q with xCount := updN 96 0 q.xCount n (fun _ => r.1), xMark := updN 96 false q.xMark n (fun _ => r.2.1) }
    if r.2.2 then
      let a := own.getD (0, 0)
      let b := peer.getD (0, 0)
      ((d.setB (Reg.TWN_XMIS (n / 32)) (n % 32) true).setB Reg.TWN_STAT 7 true).raise .per x 194 0x7102
        [(1, n), (4, (a.1 - b.1).toNat), (4, (a.2 - b.2).toNat)]
    else d) d

/-- A RESULT is compared once the own frame's results are whole: at once, or at the end of Collect. -/
def Dev.rxResult (d : Dev) (x : Nat) (b : ResultBody) : Dev :=
  if !d.twn.paired then d
  else
    let k := d.ownFrm b.frmCount
    if frmLe (d.frame + 1) k || (k == d.frame && !d.frm.colDone) then d.setTwn fun q => { q with rxResult := some (k, b.entries) }
    else d.resultCompare x k b.entries

/-- A chip in pair hold takes the owner's LOST marks and lost counts (R338). -/
def Dev.lostMirror (d : Dev) (x : Nat) (h : HeartbeatBody) : Dev :=
  if d.twn.pairHold && (h.pair == 1 || h.pair == 2) then
    let used := (List.range 96).filter (fun n => (d.chUse n).isSome)
    let d := (List.range 96).foldl (fun d n => d.legMirror x n (h.lost.testBit n)) d
    (List.range 6).foldl (fun d b => (List.range 3).foldl (fun d p =>
      let c := (used.filter (fun n => d.legLost n && (match d.chUse n with | some (b', p', _) => b' == b && p' == p | none => false))).length
      d.setF (Reg.GDP_BR_LOST b) (8 * p + 7) (8 * p) c) d) d
  else d

/-- A cross-check count stands at its limit (R342). -/
def Dev.crossFull (d : Dev) : Bool :=
  d.twn.xCount.any (fun c => decide (d.fld Reg.TWN_CFG 15 8 ≤ c)) || d.twn.fCount.any (fun c => decide (d.fld Reg.TWN_CFG 23 16 ≤ c))

/-! ### Handover (R340 to R344) -/

/-- Every enabled PWM channel is LOCKED. -/
def Dev.allLocked (d : Dev) : Bool := (List.range 96).all (fun n => !d.pwmEn n || d.bit (Reg.PWM_CH_STAT n) 31)

/-- The start of a planned handover (R342): cause 0 command, 1 request, 2 full load. A hot update before STAGED is aborted (R72). -/
def Dev.hoStart (d : Dev) (x cause : Nat) : Dev :=
  let d := d.hotAbort x
  if cause = 1 && d.pair != 2 then d.setB Reg.TWN_STAT 1 true
  else if d.pair == 2 && d.peerPair == 3 then
    match d.twn.handover with
    | some _ => d
    | none =>
      let f := (d.frame + 2) % 2 ^ 32
      (d.send (.yield { txFrm := f, cause := cause })).setTwn fun q => { q with handover := some { txFrm := f, cause := cause, accepted := false, taker := false } }
  else d.hoRefuse x

/-- The bridges the partner last reported released are released as R319 does at a T0, but for the CLEAR write and the power state; one that another condition
holds, or to which a quench request has come, stays quenched (R341, R344). The answer holds those released. -/
def Dev.takeBridges (d : Dev) (x mask : Nat) : Nat × Dev :=
  (onesBelow 6 mask).foldl (fun (acc : Nat × Dev) b =>
    let d := acc.2
    let trip := (onesBelow 16 (d.fld Reg.GDP_TG_LATCH 15 0)).any (fun g => (d.fld (Reg.GDP_TG_CFG g) 5 0).testBit b)
    let exceeds := (List.range 3).any (fun p => decide (d.brAllow b < d.brLost b p))
    let diag := d.gdp.diag.isSome && d.diagNames b
    if trip || exceeds || diag || d.twn.txQuench.contains b || !(d.gbr b).reqs.isEmpty || !d.quenched b then (acc.1, d.raise .per x 199 0x7107 [(1, 2)])
    else (acc.1 + 2 ^ b, (d.setGbr b fun r => { r with clear := none }).release x b)) (0, d)

/-- The new owner drives its pins (R341, R342): the hold lifts, the power state and the released bridges are those the partner last reported as owner (log entry
95), event 193. -/
def Dev.takeOver (d : Dev) (x cause : Nat) : Dev :=
  let rep := d.twn.ownerRep
  let d := (d.setHold false).setTwn fun q => { q with takeoverHold := false }
  let d := match rep with | none => d | some h => d.powerTo x (h.1 % 8)
  let r := d.takeBridges x (match rep with | none => 0 | some h => h.2)
  let d := (r.2.setB Reg.TWN_STAT 2 true).inc Reg.TWN_HO_CNT 31 0
  (d.raise .per x 193 0x7101 [(1, cause), (4, (d.rd Reg.TWN_HO_FRM).toNat), (1, r.1)]).setTwn fun q => { q with txQuench := [] }

/-- T_x in frame `n`: its registers. -/
def Dev.txMark (d : Dev) (x n cause : Nat) : Dev :=
  ((d.setF Reg.TWN_HO 31 28 cause).wrN Reg.TWN_HO_FRM n).setTwn fun q => { q with tx := some x, txCause := cause, txQuench := [] }

/-- An unplanned takeover begins at a T0 (R340, R341): cause 0 OWN, 1 heartbeat. -/
def Dev.takeStart (d : Dev) (x n cause : Nat) : Dev :=
  let d := ((d.txMark x n cause).pairTo x 4 none).ownBegin x false
  (d.setHold true).setTwn fun q => { q with takeoverHold := true }

/-- The steps of a planned handover at the T0 of frame `n` (R342). -/
def Dev.hoT0 (d : Dev) (x n : Nat) : Dev :=
  match d.twn.handover with
  | none => d
  | some h =>
    if h.taker then
      if frmLe h.txFrm n then
        let d := (d.txMark x n (h.cause + 2)).setTwn fun q => { q with handover := none }
        ((d.pairTo x 2 none).ownBegin x true).takeOver x (h.cause + 2)
      else d
    else if !h.accepted then (if frmLe (frmSince h.txFrm 1) n then d.hoRefuse x else d)
    else if frmLe h.txFrm n then
      let d := (d.ownEnd x).setTwn fun q => { q with handover := none, sweepDone := false, sweepSeen := [], sweepFrames := 0 }
      d.pairTo x 3 none
    else d

/-! ### Lanes and pair state at T0 (R330, R331, R333, R334, R340) -/

/-- A PEER_OWN edge lay in the window of the frame whose T0 was `t0k` (R330). -/
def Dev.peerSeen (d : Dev) (t0k : Nat) : Bool :=
  let c : Int := (t0k : Int) + 8 * d.twn.ea
  d.twn.peerEdges.any (fun e => decide (c - 8000 ≤ (e : Int)) && decide ((e : Int) ≤ c + 8000))

/-- A lane's run of frames without a HEARTBEAT at the T0 after frame `k` (R340). -/
def Dev.laneMiss (d : Dev) (k l : Nat) : Dev :=
  let paired := d.twn.paired
  d.setTwnLane l fun q => { q with missRun := if !paired || q.beats.contains k then 0 else q.missRun + 1, beats := q.beats.filter (fun f => !frmLe f k) }

/-- The heartbeat of a lane is lost: it is not in stage Active, or two frames' HEARTBEATs are missing (R340). -/
def Dev.laneOut (d : Dev) (l : Nat) : Bool := d.stage l != 4 || decide (2 ≤ (d.twnLane l).missRun)

/-- A lane's heartbeat is found lost; on every lane or on this one only (R340). A lane in stage Active falls back to Detect (R348). -/
def Dev.laneLost (d : Dev) (x l : Nat) (every : Bool) : Dev :=
  if (d.twnLane l).lost then d
  else
    let st := d.stage l
    let d := d.setTwnLane l fun q => { q with lost := true }
    let d := if every then d else (d.setB Reg.TWN_STAT 3 true).raise .per x 196 0x7104 [(1, l), (1, st)]
    if st = 4 then d.toDetect x l else d

/-- The heartbeats of both lanes are judged together at the T0 after frame `k` (R340). -/
def Dev.laneBeats (d : Dev) (x k : Nat) : Dev :=
  let d := (d.laneMiss k 0).laneMiss k 1
  let out := (List.range 2).filter d.laneOut
  out.foldl (fun d l => d.laneLost x l (out.length == 2)) d

/-- The heartbeat is lost on every lane (R340). -/
def Dev.beatLost (d : Dev) : Bool := d.stage 0 != 4 && d.stage 1 != 4

/-- The conditions on which a chip in SYNCING becomes STANDBY (R333, R345). -/
def Dev.syncDone (d : Dev) : Bool :=
  d.pairEn && d.dbgLevel != 2 && d.lc != 0 && d.lc != 3 && (d.peerPair == 1 || d.peerPair == 2) && d.twn.pairable && decide (64 ≤ d.twn.alignRun) && d.twn.sweepDone
    && (List.range 8).all (fun c => !d.bit (Reg.SDM_CLK_CFG c) 31 || !nth false d.sdm.clkLost c) && d.allLocked && !d.bit Reg.ADC_STAT 0

/-- The chip forgets a partner that is gone. -/
def Dev.peerGone (d : Dev) : Dev := d.unpair.setTwn fun q => { q with peer := none }

/-- The runs of frames in step and out of step, at the end of frame `k` (R333, R334). A frame whose HEARTBEAT has not come ends both (DESIGN CHOICE, log entry 95). -/
def Dev.alignRuns (d : Dev) (k : Nat) : Dev :=
  if (d.beatOf k).isNone then d.setTwn fun q => { q with alignRun := 0, badAlign := 0 }
  else if decide (d.twn.ea.natAbs ≤ 3000) then d.setTwn fun q => { q with alignRun := q.alignRun + 1, badAlign := 0 }
  else d.setTwn fun q => { q with alignRun := 0, badAlign := q.badAlign + 1 }

/-- A chip in SYNCING claims ownership at the evaluating T0 (R331; log entry 60). -/
def Dev.claim (d : Dev) (x : Nat) : Dev := ((d.pairTo x 1 none).ownBegin x true).setHold false

/-- The windows, heartbeats and pair state at the T0 of frame `n` that ends the frame begun at `t0k` (R330 to R340). -/
def Dev.pairT0 (d : Dev) (x n t0k : Nat) : Dev :=
  let k := frmSince n 1
  let seen := d.peerSeen t0k
  let prev := d.twn.seenPrev
  let d := d.setTwn fun q => { q with seenPrev := seen, emptyRun := if seen then 0 else q.emptyRun + 1
                                      peerEdges := q.peerEdges.filter (fun e => decide (x ≤ e + 2 * d.P * uFc)) }
  let d := ((d.laneBeats x k).alignRuns k).fltCompare x k
  match d.pair with
  | 0 =>
    let d := if d.beatLost then d.peerGone else d
    if d.syncDone then d.pairTo x 3 none
    else if (if d.bit Reg.TWN_STAT 27 then 12 else 4) ≤ d.twn.emptyRun then d.claim x
    else d
  | 1 => if d.beatLost then d.peerGone else d
  | 2 => if d.beatLost then (d.pairTo x 1 none).peerGone else d
  | 3 =>
    if !seen && !prev then d.takeStart x n 0
    else if d.beatLost then d.takeStart x n 1
    else if 16 ≤ d.twn.badAlign then ((d.setB Reg.TWN_STAT 8 true).raise .per x 199 0x7107 [(1, 0)]).pairTo x 0 none
    else if !d.twn.pairable then d.pairTo x 0 none
    else d
  | _ => d

/-- The HEARTBEAT of frame `n` (R338, R349). -/
def Dev.heartbeatBody (d : Dev) (n ns : Nat) : HeartbeatBody :=
  { frmCount := n, pair := d.pair, power := d.power, released := sumOf ((List.range 6).map (fun b => if d.quenched b then 0 else 2 ^ b)), t0 := ns,
    swapActive := d.fld Reg.LP_SWAP_STAT 31 16, swapPending := d.fld Reg.LP_SWAP_STAT 15 0, lost := d.lostMask, flt := d.fltMask }

/-- What the twin block does at the T0 of frame `n` (R329, R334, R351): an owner inverts OWN; `t0k` is the T0 before, if frames ran. -/
def Dev.twnT0 (d : Dev) (x n : Nat) (t0k : Option Nat) : Dev :=
  let was := d.owner
  let d := match t0k with | none => d | some t => (d.pairT0 x n t).hoT0 x n
  let d := if was && d.owner then d.setTwn fun q => { q with own := !q.own } else d
  let ns := d.ns x
  let d := d.setTwn fun q => { q with t0Hist := (q.t0Hist ++ [(n, ns)]).drop (q.t0Hist.length - 3) }
  let d := d.eaUpdate
  let d := d.setTwn fun q => { q with fltT0 := d.fltMask }
  d.send (.heartbeat (d.heartbeatBody n ns))

/-- At fc 900 (R335, R336, R351): BLOCKS when due, else an owner's STATE. -/
def Dev.twnAcquire (d : Dev) : Dev :=
  if d.twn.blocksDue && d.activeLanes != 0 then
    (d.blocksMsgs.foldl (fun d m => d.send m) d).setTwn fun q => { q with blocksDue := false }
  else if d.mirroring && d.activeLanes != 0 && !d.twn.mirrored.isEmpty then d.sendState
  else d

/-- The PARAM messages for words staged since the last: one for each T0, and as many words in each as a body of 1,024 blocks holds (R337, R346, R349). -/
def paramMsgs (ws : List (Nat × ParamEntry)) : List TwinMsg :=
  ((ws.map (·.1)).eraseDups).flatMap (fun f =>
    let es := (ws.filter (fun w => w.1 == f)).map (·.2)
    (List.range (ceilDiv es.length 511)).map (fun i => .param { applyFrm := f, entries := (es.drop (511 * i)).take 511 }))

/-- At fc P − 88 (R337, R339, R345, R351): RESULT, PARAM and SWAP; a RESULT that waited is compared. Words and commands that come later in a frame go out in the next
one, for the T0 they had (DEDUCED, log entry 95). -/
def Dev.twnCollect (d : Dev) (x : Nat) : Dev :=
  let k := d.frame
  let own := (sortBy (fun (q : Nat × Nat × Word × Word) => q.2.1) (d.twn.results.filter (fun q => q.1 == k))).map (·.2)
  let d := if d.twn.paired && d.pairEn then d.send (.result { frmCount := k, entries := own }) else d
  let d := if d.pairEn then (paramMsgs d.lp.txPar ++ d.lp.txSwap.map (fun s => TwinMsg.swap { boundaryFrm := s.1, groups := s.2 })).foldl (fun d m => d.send m) d else d
  let d := { d with lp := { d.lp with txPar := [], txSwap := [] } }
  let d := match d.twn.rxResult with
    | none => d
    | some r => if r.1 == k then (d.resultCompare x k r.2).setTwn fun q => { q with rxResult := none } else d
  d.setTwn fun q => { q with results := q.results.filter (fun (r : Nat × Nat × Word × Word) => decide (frmSince k r.1 < 3)) }

/-! ### Receiving (R347) -/

/-- A lane brings messages: in stage Active, and not under a PRBS test (R348, R358; log entry 96). -/
def Dev.laneBrings (d : Dev) (l : Nat) : Bool := d.stage l == 4 && d.lanePrbs l == 0

/-- A message on a Jexper lane: only in stage Active, and the first copy of its SEQ, whichever lane brings it (R347, R348). The numbers of the last 1,024 messages
accepted are kept (DESIGN CHOICE, log entry 95). -/
def Dev.rxMsg (d : Dev) (l seq : Nat) (f : Dev → Dev) : Dev :=
  if !d.laneBrings l then d
  else if d.twn.seqs.contains (seq % 2 ^ 24) then d
  else f (d.setTwn fun q => { q with seqs := (seq % 2 ^ 24 :: q.seqs).take 1024 })

/-- What a HEARTBEAT tells (R333, R334, R338). -/
def Dev.rxHeartbeat (d : Dev) (x : Nat) (h : HeartbeatBody) : Dev :=
  let d := if !d.twn.paired || (d.owner && h.pair == 0) then d.pairFrames h else d
  let d := (d.setTwn fun q => { q with peer := some h, beats := (h :: q.beats).take 4
                                       ownerRep := if h.pair == 1 || h.pair == 2 then some (h.power, h.released) else q.ownerRep }).eaUpdate
  let d := if d.pair == 1 && h.pair == 3 && !d.twn.takeoverHold then d.pairTo x 2 none
    else if d.pair == 2 && h.pair != 3 && h.pair != 4 then d.pairTo x 1 none
    else d
  d.lostMirror x h

/-- The partner's CAPS (R348 to R350): its registers, whether the pair is pairable, and the answer; a lane in
Diagnostic answers nothing. -/
def Dev.rxCaps (d : Dev) (x l : Nat) (b : CapsBody) : Dev :=
  let cause := if b.major != 1 then 1 else if b.role == b2n (d.bit Reg.TWN_STAT 27) then 2 else if b.framePeriodFc != d.P then 3 else 0
  let d := d.wrN Reg.TWN_PEER (b.major % 256 * 2 ^ 24 + b.minor % 256 * 2 ^ 16 + b.siRev % 256 * 2 ^ 8)
  let d := (d.wrN Reg.TWN_PEER_FW b.fwVersion).wrN Reg.TWN_PEER_FEAT b.features
  let d := (List.range 12).foldl (fun d i => d.wrN (Reg.TWN_PEER_HASH i) (leAt b.imageHash (4 * i) 4)) d
  let old := d.fld Reg.TWN_STAT 23 21
  let d := (d.setF Reg.TWN_STAT 23 21 cause).setTwn fun q => { q with caps := some b, pairable := cause == 0 }
  let d := if cause != 0 && cause != old then d.raise .per x 197 0x7105 [(1, cause)] else d
  let d := if d.stage l == 5 then d else d.sendOn (2 ^ l) (.capsAck { opMajor := 1, opMinor := 0, pairable := b2n (cause == 0), reason := cause })
  if cause = 1 then (if d.stage l == 5 then d else d.toStage x l 5)
  else if d.stage l == 3 then
    let d := d.setTwnLane l fun q => { q with capsRx := true }
    if (d.twnLane l).ackRx then d.toActive x l else d
  else d

/-- The partner's YIELD (R342): accepted, the chip enters HANDOVER. -/
def Dev.rxYield (d : Dev) (x : Nat) (b : YieldBody) : Dev :=
  let reason := if d.pair != 3 then 1 else if !d.twn.sweepDone then 2 else if d.crossFull then 3 else if !d.allLocked then 4 else 0
  let f := d.ownFrm b.txFrm
  let d := d.send (.yieldAck { txFrm := f, accept := reason == 0, reason := reason })
  if reason != 0 then d
  else (d.pairTo x 4 none).setTwn fun q => { q with handover := some { txFrm := f, cause := b.cause, accepted := true, taker := true } }

/-- The partner's answer to YIELD (R342): an acceptance counts until the own T0 of frame k + 1. -/
def Dev.rxYieldAck (d : Dev) (x : Nat) (b : YieldAckBody) : Dev :=
  match d.twn.handover with
  | none => d
  | some h =>
    if h.taker || h.txFrm != d.ownFrm b.txFrm then d
    else if !b.accept then d.hoRefuse x
    else if d.frame == frmSince h.txFrm 2 then d.setTwn fun q => { q with handover := some { h with accepted := true } }
    else d

/-! ### Commands -/

/-- OWN_READBACK (R329): at fc 50 an owner reads back its own OWN pin; a difference drops ownership. -/
def execOwnReadback (t : Nat) (level : Bool) (s : State) : Out :=
  act t s fun x d => d.live fun d => if d.running && decide (d.fcOf x = 50) && level != d.twn.own then d.dropOwn x 1 else d

/-- T0_ABSENCE_TIMEOUT (R329): no T0 for P × 2 ns + 1 µs. -/
def execT0AbsenceTimeout (t : Nat) (s : State) : Out :=
  act t s fun x d => d.live fun d => if d.frm.lastT0 + d.P * uFc + uUs ≤ x then d.dropOwn x 2 else d

/-- PEER_OWN_EDGE (R330): the edge is kept for its window; an owner yields, but for the three exceptions. -/
def execPeerOwnEdge (t : Nat) (s : State) : Out :=
  act t s fun x d => d.live fun d =>
    let d := d.setTwn fun q => { q with peerEdges := q.peerEdges ++ [x] }
    let after := match d.twn.tx with | none => false | some a => decide (x ≤ a + 5 * uUs)
    let planned := match d.twn.handover with
      | none => false
      | some h => !h.taker && h.accepted && d.pair == 2 && h.txFrm == (d.frame + 1) % 2 ^ 32 && decide (d.frm.nextT0 ≤ x + 4 * uUs)
    if d.pair == 4 || after || planned then d else d.dropOwn x 0

/-- TAKEOVER_SDC_DRIVE (R341): 2 µs after T_x the chip enters SOLO and drives its clocks. -/
def execTakeoverSdcDrive (t : Nat) (s : State) : Out :=
  act t s fun x d => d.live fun d =>
    match d.twn.tx with
    | none => d
    | some a => if d.pair == 4 && d.twn.takeoverHold && decide (a + 2 * uUs ≤ x) then (d.sdmDrive x true).pairTo x 1 none else d

/-- TAKEOVER_HOLD_LIFT (R341): two frames after T_x the hold lifts. -/
def execTakeoverHoldLift (t : Nat) (s : State) : Out :=
  act t s fun x d => d.live fun d =>
    match d.twn.tx with
    | none => d
    | some a =>
      if d.pair == 1 && d.twn.takeoverHold && decide (a + 2 * d.P * uFc ≤ x) then d.takeOver x d.twn.txCause else d

/-- TWN_CTRL_HANDOVER (R342). -/
def execTwnCtrlHandover (t : Nat) (s : State) : Out := act t s fun x d => d.live fun d => d.hoStart x 0

/-- TWN_CTRL_WITHDRAW (R345). -/
def execTwnCtrlWithdraw (t : Nat) (s : State) : Out := act t s fun x d => d.live fun d => d.withdraw x 0

/-- CAPS (R348 to R350). -/
def execCaps (t : Nat) (lane : Fin 2) (_seq : Nat) (b : CapsBody) (s : State) : Out :=
  act t s fun x d => d.live fun d => if 3 ≤ d.stage lane.val && d.lanePrbs lane.val == 0 then d.rxCaps x lane.val b else d

/-- CAPS_ACK (R348, R358). -/
def execCapsAck (t : Nat) (lane : Fin 2) (_seq : Nat) (_b : CapsAckBody) (s : State) : Out :=
  act t s fun x d => d.live fun d =>
    let l := lane.val
    if d.stage l != 3 || d.lanePrbs l != 0 then d
    else
      let d := d.setTwnLane l fun q => { q with ackRx := true }
      if (d.twnLane l).capsRx then d.toActive x l else d

/-- HEARTBEAT (R333, R334, R338, R340): every lane's copy counts for that lane. -/
def execHeartbeat (t : Nat) (lane : Fin 2) (seq : Nat) (b : HeartbeatBody) (s : State) : Out :=
  act t s fun x d => d.live fun d =>
    let l := lane.val
    let d := d.rxMsg l seq fun d => d.rxHeartbeat x b
    if d.laneBrings l && d.twn.paired then d.setTwnLane l fun q => { q with beats := q.beats ++ [d.ownFrm b.frmCount] } else d

/-- BLOCKS (R335). -/
def execBlocks (t : Nat) (lane : Fin 2) (seq : Nat) (b : BlocksBody) (s : State) : Out :=
  act t s fun _ d => d.live fun d => d.rxMsg lane.val seq fun d =>
    (d.setTwn fun q => { q with blocks := (if b.first = 0 then [] else q.blocks) ++ b.entries, blocksTotal := b.total }).mirrorEval

/-- STATE (R336). -/
def execStateMsg (t : Nat) (lane : Fin 2) (seq : Nat) (b : StateBody) (s : State) : Out :=
  act t s fun _ d => d.live fun d => d.rxMsg lane.val seq fun d => d.rxState b

/-- PARAM (R337). -/
def execParamMsg (t : Nat) (lane : Fin 2) (seq : Nat) (b : ParamBody) (s : State) : Out :=
  act t s fun _ d => d.live fun d => d.rxMsg lane.val seq fun d => d.rxParam b

/-- SWAP (R337). -/
def execSwapMsg (t : Nat) (lane : Fin 2) (seq : Nat) (b : SwapBody) (s : State) : Out :=
  act t s fun _ d => d.live fun d => d.rxMsg lane.val seq fun d => d.rxSwap b

/-- RESULT (R339). -/
def execResultMsg (t : Nat) (lane : Fin 2) (seq : Nat) (b : ResultBody) (s : State) : Out :=
  act t s fun x d => d.live fun d => d.rxMsg lane.val seq fun d => d.rxResult x b

/-- YIELD (R342). -/
def execYieldMsg (t : Nat) (lane : Fin 2) (seq : Nat) (b : YieldBody) (s : State) : Out :=
  act t s fun x d => d.live fun d => d.rxMsg lane.val seq fun d => d.rxYield x b

/-- YIELD_ACK (R342). -/
def execYieldAckMsg (t : Nat) (lane : Fin 2) (seq : Nat) (b : YieldAckBody) (s : State) : Out :=
  act t s fun x d => d.live fun d => d.rxMsg lane.val seq fun d => d.rxYieldAck x b

/-- WITHDRAW (R333, R345): an ACTIVE chip becomes SOLO. -/
def execWithdraw (t : Nat) (lane : Fin 2) (seq : Nat) (_b : WithdrawBody) (s : State) : Out :=
  act t s fun x d => d.live fun d => d.rxMsg lane.val seq fun d => (if d.pair == 2 then d.pairTo x 1 none else d).peerGone

end Sys2Proof.Machine
end

