-- ==== Sys2Proof/Machine/Bus.lean ====
section
/-! DEFINITION. Machine/Bus.lean: what a write of a register of one of the blocks of R51 does. The image loader writes the register records of an image
with the same functions as firmware's bus writes; its writes are not refused by the checks of R216 and pass ROUTE_LOCK (R40, R51). -/

namespace Sys2Proof.Machine

/-- The index of an address in an array of registers. -/
def arrIx (a base n stride : Nat) : Option Nat :=
  if base ≤ a ∧ (a - base) % stride = 0 ∧ (a - base) / stride < n then some ((a - base) / stride) else none

/-! ### Sigma-delta inputs (R205 to R216) -/

/-- An input is enabled on a clock. -/
def Dev.sdcUsed (d : Dev) (c : Nat) : Bool := (List.range 96).any (fun n => d.sdiEn n && d.sdiClk n == c)

/-- The conditions of R216 on a clock that is enabled or feeds an enabled input. -/
def Dev.sdcOk (d : Dev) (c : Nat) : Bool :=
  let a := Reg.SDM_CLK_CFG c
  let div := d.fld a 6 0
  let st := d.fld a 23 16
  !(d.bit a 31 || d.sdcUsed c) || (decide (20 ≤ div) && decide (div ≤ 100) && (st == 0 || decide (16 ≤ st)))

/-- The conditions of R216 on an enabled input: sample delay, ratios, the frame-mode bound of R208, the settle time of R211. -/
def Dev.sdiOk (d : Dev) (n : Nat) : Bool :=
  let a := Reg.SDM_CH_CFG n
  !d.sdiEn n ||
    (decide (d.fld a 25 19 < d.fld (Reg.SDM_CLK_CFG (d.sdiClk n)) 6 0) && decide (16 ≤ d.sdiN n) && decide (d.sdiN n ≤ 256) && decide (8 ≤ d.sdiM n)
      && decide (d.sdiM n ≤ 32) && (d.bit a 29 || decide ((3 * d.sdiN n - 2) * d.sdiT n ≤ 3440 * uNs))
      && (!d.bit a 30 || decide (d.sdiS n ≤ 3000 * uNs)))

/-- Every condition of R216 on the SDM block. -/
def Dev.sdmOk (d : Dev) : Bool := (List.range 8).all d.sdcOk && (List.range 96).all d.sdiOk

/-- A refused write to the SDM block. -/
def Dev.sdmRefuse (d : Dev) : Dev := d.setB Reg.SDM_STAT 0 true

/-- A write of SDM_CLK{c}_CFG (R205, R211, R216). A clock whose EN changes while the chip drives its pins switches between divider and pin. -/
def Dev.wrSdmClk (d : Dev) (ld : Bool) (x c : Nat) (v : Word) : Dev :=
  let a := Reg.SDM_CLK_CFG c
  let d1 := d.rw a v
  if !ld && !d1.sdmOk then d.sdmRefuse
  else
    let moved := d1.fld a 6 0 != d.fld a 6 0 || (d.sdm.driven && d1.bit a 31 != d.bit a 31)
    let d1 := if d1.bit a 31 then d1 else { d1 with sdm := { d1.sdm with clkLost := updN 8 false d1.sdm.clkLost c (fun _ => false) } }
    let d1 := if d1.bit a 31 && (!d.bit a 31 || d1.fld a 6 0 != d.fld a 6 0) then d1.divStart x c else d1
    if moved then d1.sdcMask x c else d1

/-- A write of SDM_CH{n}_CFG (R211, R216): enabling the input, or a change of CLK, SAMPLE_DLY or POSR, starts its settle mask;
without EN or PROT_EN its protection comparator is inactive (R210). -/
def Dev.wrSdmCh (d : Dev) (ld : Bool) (x n : Nat) (v : Word) : Dev :=
  let a := Reg.SDM_CH_CFG n
  let d1 := d.rw a v
  if !ld && !d1.sdmOk then d.sdmRefuse
  else if !d1.sdiEn n then (d1.setSdi n fun c => { c with maskEnd := 0, prot := false, outAt := none, stream := [], stuck := 0 }).sdmSettle x
  else
    let d1 := if d1.bit a 30 then d1 else d1.setSdi n fun c => { c with prot := false }
    let d1 := if d1.bit a 29 == d.bit a 29 && d1.sdiN n == d.sdiN n then d1 else d1.setSdi n fun c => { c with outAt := none }
    if !d.sdiEn n then (d1.setSdi n fun c => { c with stream := [], stuck := 0 }).sdiMask x n
    else if d1.fld a 28 19 != d.fld a 28 19 || d1.sdiM n != d.sdiM n then d1.sdiMask x n
    else d1

/-- A write of SDM_CH{n}_PLIM (R212): only a finite value greater than 0 is taken. -/
def Dev.wrPlim (d : Dev) (a : Nat) (v : Word) : Dev := if Fp.isFinite v && Fp.gt v Fp.zero then d.rw a v else d.sdmRefuse

/-- A write of SDM_SPARE.EN (R215): set, the spare pair starts on its input if that is enabled, else on the next enabled one (DESIGN CHOICE, log entry 63). -/
def Dev.wrSpare (d : Dev) (v : Word) : Dev :=
  let was := d.bit Reg.SDM_SPARE 15
  let d := d.rw Reg.SDM_SPARE v
  if d.bit Reg.SDM_SPARE 15 && !was && !d.bit Reg.SDM_SPARE 31 then
    let n := d.fld Reg.SDM_SPARE 6 0
    let d := { d with sdm := { d.sdm with spareFrames := 0 } }
    if d.sdiEn n then d else d.setF Reg.SDM_SPARE 6 0 ((d.nextSdi n).getD n)
  else d

/-- A write to the SDM block. -/
def Dev.busSdm (d : Dev) (ld : Bool) (x a : Nat) (v : Word) : Dev :=
  match arrIx a (Reg.SDM_CLK_CFG 0) 8 4, arrIx a (Reg.SDM_CH_CFG 0) 96 32, arrIx a (Reg.SDM_CH_PLIM 0) 96 32 with
  | some c, _, _ => d.wrSdmClk ld x c v
  | _, some n, _ => d.wrSdmCh ld x n v
  | _, _, some _ => d.wrPlim a v
  | _, _, _ => if a = Reg.SDM_SPARE then d.wrSpare v else d.rw a v

/-! ### The other blocks of R51 -/

/-- A write to the ANV block: ROUTE_LOCK stays once it is 1 (R10, R40). -/
def Dev.busAnv (d : Dev) (ld : Bool) (a : Nat) (v : Word) : Dev :=
  if a = Reg.ANV_CTRL then
    let d := if tbit v 0 then d.setB Reg.ANV_CTRL 0 true else d
    if tbit v 1 then d.anvSnap else d
  else if ld then
    match regSpec? a with
    | none => d
    | some r => d.wr a (r.merge false (d.rd a) v)
  else d.rw a v

/-- A write to the TMP block (R429, R433). -/
def Dev.busTmp (d : Dev) (ld : Bool) (x a : Nat) (v : Word) : Dev :=
  if a = Reg.TMP_STAT then d.rw a v
  else if a = Reg.TMP_CTRL then (if tbit v 0 then d.tmpResume x else d)
  else d.wrTmp ld a v

/-- A write to the PWM block (R283, R287, R289, R295, R303). -/
def Dev.busPwm (d : Dev) (ld : Bool) (x a : Nat) (v : Word) : Dev :=
  match arrIx (a / 64 * 64) (Reg.PWM_CH_CFG 0) 96 64 with
  | none => d.rw a v
  | some n =>
    if a = Reg.PWM_CH_CFG n then d.wrPwmCfg ld x n v
    else if a = Reg.PWM_CH_UPD n then
      let d := d.pwmUpd ld x n (tbit v 0) (tbit v 1)
      if tbit v 2 then d.pwmUpdEl ld x n else d
    else if a = Reg.PWM_CH_EL n then d.wrPwmEl ld n v
    else if (regSpec? a).isSome then d.wrPwmOther ld n a v
    else d

/-- A write to the GDP block (R314, R317 to R319, R321 to R325). -/
def Dev.busGdp (d : Dev) (ld : Bool) (x a : Nat) (v : Word) : Dev :=
  match arrIx a (Reg.GDP_TG_CFG 0) 16 4, arrIx a (Reg.GDP_BR_CTRL 0) 6 32, arrIx a (Reg.GDP_CH_CFG 0) 96 16, arrIx a (Reg.GDP_CH_CTRL 0) 96 16 with
  | some g, _, _, _ => d.wrTgCfg x g v
  | _, some b, _, _ =>
    let d := if tbit v 0 then d.quenchReq x (presentAt x) b 0 else d
    if tbit v 1 then d.clearReq x b else d
  | _, _, some n, _ => d.wrGdpCh ld x n v
  | _, _, _, some n => if tbit v 0 then d.restoreLeg x n else d
  | _, _, _, _ =>
    if a = Reg.GDP_DIAG_CTRL then d.wrDiagCtrl x v
    else if a = Reg.GDP_DIAG_CFG || (arrIx a (Reg.GDP_DIAG_E 0) 24 4).isSome then d.wrDiagCfg a v
    else if a = Reg.GDP_TEST_CTRL then d.wrTestCtrl x v
    else d.rw a v

/-- A write to the ADC block (R216, R225 to R227). -/
def Dev.busAdc (d : Dev) (ld : Bool) (x a : Nat) (v : Word) : Dev :=
  match arrIx a (Reg.ADC_CTRL 0) 5 32, arrIx a (Reg.ADC_URG 0) 5 32, arrIx a (Reg.ADC_SEQ 0 0) 320 4 with
  | some b, _, _ => d.wrAdcCtrl ld x b v
  | _, some b, _ =>
    let d := d.rw a v
    if tbit v 31 then d.urgReq x b (d.fld a 3 0) else d
  | _, _, some k => d.wrAdcSeq ld (k / 64) (k % 64) v
  | _, _, _ => if a = Reg.ADC_MCAL then (if tbit v 31 then d.mcalStart x else d) else d.rw a v

/-- A write to the CMP block (R216, R230, R231). -/
def Dev.busCmp (d : Dev) (ld : Bool) (a : Nat) (v : Word) : Dev :=
  match arrIx a (Reg.CMP_CH_CFG 0) 48 16, arrIx a (Reg.CMP_CH_THR 0) 48 16 with
  | some n, _ => d.wrCmp ld n a v
  | _, some n => d.wrCmp ld n a v
  | _, _ => d.rw a v

/-- A write to the ENC block (R241, R256 to R259). -/
def Dev.busEnc (d : Dev) (ld : Bool) (x a : Nat) (v : Word) : Dev :=
  if a = Reg.ENC_EMU then d.wrEncEmu ld v
  else if a = Reg.ENC_EMU_RATIO then d.wrEncRatio ld v
  else
    match arrIx (a / 128 * 128) (Reg.ENCK_CFG 0 / 128 * 128) 2 128 with
    | none => d.rw a v
    | some k =>
      if a = Reg.ENCK_CFG k then d.wrEncCfg ld x k v
      else if a = Reg.ENCK_LOAD k then d.wrEncLoad ld x k v.toNat
      else if a = Reg.ENCK_STAT k then d.wrEncStat k v
      else if (regSpec? a).isSome then d.wrEncOther ld k a v
      else d

/-- A write to the MTR block (R266 to R273). -/
def Dev.busMtr (d : Dev) (ld : Bool) (x a : Nat) (v : Word) : Dev :=
  if a = Reg.MTR_STAT then d.rw a v
  else if a = Reg.MTR_SNAP then (onesBelow 4 v.toNat).foldl (fun d m => d.mtrSnap1 x m) d
  else
    match arrIx (a / 256 * 256) (Reg.MTR_MP_CFG 0) 4 256 with
    | none => d
    | some m =>
      if a = Reg.MTR_MP_CFG m then d.wrMtrCfg ld x m v
      else if a = Reg.MTR_MP_ADD_CMD m then (if tbit v 0 || tbit v 1 then d.mtrAddCmd x m (tbit v 0) (tbit v 1) else d)
      else if a = Reg.MTR_MP_ADD_LO m || a = Reg.MTR_MP_ADD_HI m then d.rw a v
      else if (regSpec? a).isSome then d.wrMtrOther ld m a (a == Reg.MTR_MP_CYC m || (arrIx a (Reg.MTR_MP_IM m 0) 9 4).isSome) v
      else d

/-- A write to the TWN block (R342, R345): a change of PAIR_EN is refused in ACTIVE and STANDBY. A channel whose mismatch bit is cleared keeps its count. -/
def Dev.busTwn (d : Dev) (x a : Nat) (v : Word) : Dev :=
  if a = Reg.TWN_CFG then
    if (d.pair == 2 || d.pair == 3) && tbit v 31 != d.pairEn then d.setB Reg.TWN_STAT 0 true
    else d.rw a v
  else if a = Reg.TWN_CTRL then
    let d := if tbit v 0 then d.hoStart x 0 else d
    if tbit v 1 then d.withdraw x 0 else d
  else d.rw a v

/-- A write to the REC block (R455, R456). -/
def Dev.busRec (d : Dev) (a : Nat) (v : Word) : Dev :=
  if a = Reg.REC_CTRL then d.wrRecCtrl v
  else if a = Reg.REC_BASE_LO || a = Reg.REC_BASE_HI || a = Reg.REC_SIZE then d.wrRecRing a v
  else d.rw a v

/-- A write to a register of one of the blocks of R51. -/
def Dev.busImg (d : Dev) (ld : Bool) (x a : Nat) (v : Word) : Dev :=
  match a / 0x10000 with
  | 0x1002 => d.busAnv ld a v
  | 0x1005 => d.busTmp ld x a v
  | 0x1020 => d.busPwm ld x a v
  | 0x1021 => d.busGdp ld x a v
  | 0x1022 => d.busSdm ld x a v
  | 0x1023 => d.busAdc ld x a v
  | 0x1024 => d.busCmp ld a v
  | 0x1025 => d.busEnc ld x a v
  | 0x1026 => d.busMtr ld x a v
  | 0x1033 => d.busTwn x a v
  | 0x1036 => d.busRec a v
  | _ => d

/-- The conditions that the loader checks after the register records (R216, R259, R272, R303, R325, R433). -/
def Dev.cfgOk (d : Dev) : Bool :=
  d.sdmOk && (List.range 5).all d.adcBankOk && !(d.seqEn 4 && d.bit Reg.ADC_STAT 0) && (List.range 48).all (fun n => !d.cmpEn n || d.cmpOk n)
    && (List.range 2).all (fun k => (!d.encEn k || d.encValid k) && d.fld (Reg.ENCK_IDX k) 15 8 != 1) && d.emuOk
    && (List.range 4).all (fun m => (!d.mpEn m || d.mtrEnOk m) && d.mtrRangesOk m) && (List.range 96).all d.pwmOk
    && (List.range 96).all d.gdpChOk && d.tmpOk

/-- The conditions on the staged state and on the register records themselves: a LOAD of an encoder below its WRAP (R259). -/
def Dev.imgCfgOk (d : Dev) (recs : List (Nat × Word)) : Bool :=
  d.cfgOk && recs.all (fun r => (List.range 2).all (fun k => r.1 != Reg.ENCK_LOAD k || decide (r.2.toNat < d.encWrap k)))

end Sys2Proof.Machine
end

