-- ==== Sys2Proof/Machine/Container.lean ====
section
/-! DEFINITION. Machine/Container.lean: the container format and the checks of R65 that need no device: steps 1 to 11 and 17, the sections' layouts,
and the parsing of a Refen image (R41 to R63, R545). -/

namespace Sys2Proof.Machine

/-! ### Slots (R62) -/

/-- The first byte of a slot's xSPI device. -/
def slotBase (s : Nat) : Nat := 0x20000000 + s * 0x8000000
/-- The offset of a container kind's area in its device: 1 Refen image, 2 firmware. -/
def areaOfs (kind : Nat) : Nat := if kind = 1 then 0x400000 else 0
/-- The bytes of the area. -/
def areaLen (kind : Nat) : Nat := if kind = 1 then 0xBFF000 else 0x3FF000
/-- The commit record of a slot's container. -/
def Memory.commitRec (m : Memory) (s kind : Nat) : List Byte := m.bytes (slotBase s + areaOfs kind + areaLen kind) 32
/-- The bytes of a slot's container: IMAGE_LEN of them, or the header alone where IMAGE_LEN does not fit the area. -/
def Memory.container (m : Memory) (s kind : Nat) : List Byte :=
  let a := slotBase s + areaOfs kind
  let n := leAt (m.bytes a 256) 0x10 4
  m.bytes a (if n ≤ areaLen kind then Nat.max n 256 else 256)

/-! ### Header and trailer (R43, R46, R63): steps 1 to 8 -/

/-- Do the bytes at an offset spell an ASCII text? -/
def isText (bs : List Byte) (o : Nat) (t : List Nat) : Bool := ((bs.drop o).take t.length).map (·.toNat) == t
/-- Are `n` bytes from an offset 0? -/
def zeros (bs : List Byte) (o n : Nat) : Bool := ((bs.drop o).take n).all (· == 0#8)

/-- Step 1: the commit record (R63). -/
def commitOk (kind : Nat) (c : List Byte) : Bool :=
  isText c 0 [0x41, 0x5A, 0x43, 0x4D] && leAt c 5 1 == 1 && leAt c 0x1C 4 == (crc32 (c.take 0x1C)).toNat && leAt c 4 1 == kind

/-- The signature of a container under a key (R46). -/
def sigOk (bs : List Byte) (len : Nat) (key : Option (Nat × Nat)) : Bool :=
  let tr := bs.drop (len - 128)
  match key with
  | none => false
  | some k =>
    isText tr 0 [0x59, 0x53, 0x49, 0x47] && leAt tr 4 2 == 1 && leAt tr 6 2 == leAt bs 9 1 &&
      P384.verify k.1 k.2 (sha384 (bs.take (len - 128))) (beNat ((tr.drop 8).take 48)) (beNat ((tr.drop 56).take 48))

/-- What a check of a container needs from outside its bytes: the kind of its area, the commit record where there is one, the length that came with it where
there is none (R503), the usable owner key of a slot, and the counter of its kind. -/
structure Trust where
  kind : Nat
  commit : Option (List Byte)
  sent : Nat
  keys : List (Option (Nat × Nat))
  cnt : Nat
  deriving DecidableEq, Repr

/-- Step 6: IMAGE_LEN, the commit record's LENGTH and DATA_CRC. -/
def lenStepOk (T : Trust) (bs : List Byte) : Bool :=
  let len := leAt bs 0x10 4
  decide (384 ≤ len) && decide (len ≤ areaLen T.kind) &&
    match T.commit with
    | some c => leAt c 8 4 == len && leAt c 0x14 4 == (crc32 (bs.take len)).toNat
    | none => T.sent == len

/-- The code of the first failure among steps 1 to 8 of R65; 0 for none. -/
def headCode (T : Trust) (bs : List Byte) : Nat :=
  let len := leAt bs 0x10 4
  if (match T.commit with | some c => !commitOk T.kind c | none => false) then 0xD105
  else if !isText bs 0 [0x59, 0x4C, 0x52, 0x46] then 0xD101
  else if leAt bs 0xFC 4 != (crc32 (bs.take 0xFC)).toNat then 0xD103
  else if leAt bs 5 1 != 1 || leAt bs 0x1C 2 != 0 || leAt bs 6 2 != 256 || leAt bs 8 1 != T.kind then 0xD102
  else if leAt bs 0xA 2 != 0x9600 || decide (0xA1 < leAt bs 0xC 1) || decide (leAt bs 0xD 1 < 0xA1) then 0xD104
  else if !lenStepOk T bs then 0xD105
  else if !sigOk bs len (nth none T.keys (leAt bs 9 1)) then 0xD106
  else if decide (127 < leAt bs 0x14 4) || decide (leAt bs 0x14 4 < T.cnt) then 0xD107
  else 0

/-! ### The directory (R43 to R45, R545): steps 9 and 10 -/

/-- A directory entry (R44). -/
structure DirEnt where
  typ : Nat
  sfl : Nat
  off : Nat
  len : Nat
  crc : Nat
  deriving DecidableEq, Repr

/-- The directory. -/
def dirOf (bs : List Byte) : List DirEnt :=
  (chunks 16 (leAt bs 0xE 2) ((bs.drop 0x30).take (16 * leAt bs 0xE 2))).map (fun e =>
    { typ := leAt e 0 2, sfl := leAt e 2 2, off := leAt e 4 4, len := leAt e 8 4, crc := leAt e 12 4 })

/-- The sections of a kind, in their order (R45). -/
def sectionTypes (kind : Nat) : List Nat := if kind = 1 then [1, 2, 3, 4, 5] else [0x10]
/-- A type that format 1.0 knows. -/
def knownSection (t : Nat) : Bool := [1, 2, 3, 4, 5, 0x10].contains t

/-- Sections start on multiples of 16, ascend, do not overlap and end by a limit (R43). -/
def boundsOk (lim : Nat) : Nat → List DirEnt → Bool
  | _, [] => true
  | e, d :: r => d.off % 16 == 0 && decide (e ≤ d.off) && decide (d.off + d.len ≤ lim) && boundsOk lim (d.off + d.len) r

/-- The bytes of a section. -/
def sectionOf (bs : List Byte) (t : Nat) : List Byte :=
  match (dirOf bs).find? (fun d => d.typ == t) with
  | none => []
  | some d => (bs.drop d.off).take d.len

/-- The sum of RECORD_LEN over `n` block records, none where one is below 24, no multiple of 4, or cut off (R545). -/
def recordLens : Nat → List Byte → Option Nat
  | 0, _ => some 0
  | n + 1, b =>
    let l := leAt b 18 2
    if decide (b.length < 24) || decide (l < 24) || l % 4 != 0 then none else (recordLens n (b.drop l)).map (· + l)

/-- The length that a section's own fields fix (R545); none where a count lies outside its range. -/
def fixedLen (t : Nat) (b : List Byte) : Option Nat :=
  match t with
  | 1 => let n := leAt b 0x140 4; if b.length < 0x150 || 65536 < n then none else some (0x150 + 8 * n)
  | 2 =>
    let s := leAt b 0 4
    let k := leAt b 4 4
    let r := leAt b 8 4
    if b.length < 16 || s = 0 || 16384 < s || k = 0 || 4096 < k || r = 0 || 256 < r then none
    else (recordLens k (b.drop (16 + 8 * r + 16 * s))).map (· + (16 + 8 * r + 16 * s))
  | 3 => if b.length < 16 then none else some (16 + 8 * leAt b 0 4)
  | 4 => let n := leAt b 0x50 4; if b.length < 0x60 || 512 < n then none else some (0x60 + 8 * n + 8192)
  | 5 => some b.length
  | _ => some 1

/-- A section's LENGTH against that length: equal at FMT_MINOR 0, at least it above; CODE has any length from 1 (R545). -/
def sectionLenOk (minor t : Nat) (b : List Byte) : Bool :=
  match fixedLen t b with
  | none => false
  | some n => if minor = 0 && t != 0x10 then b.length == n else decide (n ≤ b.length)

/-- Step 9. -/
def dirOk (kind : Nat) (bs : List Byte) : Bool :=
  let n := leAt bs 0xE 2
  let len := leAt bs 0x10 4
  let es := dirOf bs
  decide (1 ≤ n) && decide (n ≤ 12) && len % 16 == 0 && boundsOk (len - 128) 256 es
    && (es.filter (fun d => knownSection d.typ)).map (·.typ) == sectionTypes kind
    && es.all (fun d => knownSection d.typ || d.sfl.testBit 15)
    && (sectionTypes kind).all (fun t => sectionLenOk (leAt bs 4 1) t (sectionOf bs t))

/-- Step 10. -/
def crcsOk (kind : Nat) (bs : List Byte) : Bool :=
  ((dirOf bs).filter (fun d => (sectionTypes kind).contains d.typ)).all (fun d => d.crc == (crc32 ((bs.drop d.off).take d.len)).toNat)

/-- A section without the bytes that a later minor version may add behind it (R545). -/
def sectionCut (bs : List Byte) (t : Nat) : List Byte :=
  let b := sectionOf bs t
  match fixedLen t b with
  | none => b
  | some n => if t = 0x10 then b else b.take n

/-! ### The records of GRAPH (R52 to R55) -/

/-- Rate entries. -/
def rateRecs (g : List Byte) : List (List Byte) := chunks 8 (leAt g 8 4) ((g.drop 16).take (8 * leAt g 8 4))
/-- Signal records. -/
def sigRecs (g : List Byte) : List (List Byte) := chunks 16 (leAt g 0 4) ((g.drop (16 + 8 * leAt g 8 4)).take (16 * leAt g 0 4))
/-- Block records, each of its RECORD_LEN. -/
def cutRecords : Nat → List Byte → List (List Byte)
  | 0, _ => []
  | n + 1, b => let l := leAt b 18 2; b.take l :: cutRecords n (b.drop l)
/-- Block records. -/
def blkRecs (g : List Byte) : List (List Byte) := cutRecords (leAt g 4 4) (g.drop (16 + 8 * leAt g 8 4 + 16 * leAt g 0 4))

/-- The length a block record must have before its padding (R55). -/
def blkBody (r : List Byte) : Nat :=
  let l := 24 + 2 * (leAt r 6 1 + leAt r 7 1)
  if leAt r 4 2 = 0x0F00 then l + 2 + 4 * leAt r l 2 else l

/-- The operation words of a formula block's record. -/
def opWords (r : List Byte) : List (List Byte) :=
  if leAt r 4 2 = 0x0F00 then
    let l := 24 + 2 * (leAt r 6 1 + leAt r 7 1)
    chunks 4 (leAt r l 2) ((r.drop (l + 2)).take (4 * leAt r l 2))
  else []

/-- A block record. -/
def blkOfRec (r : List Byte) : BlkRec :=
  let ni := leAt r 6 1
  let no := leAt r 7 1
  let sig (o n : Nat) : List Nat := (chunks 2 n ((r.drop o).take (2 * n))).map leNat
  { id := leAt r 0 4, typ := leAt r 4 2, ins := sig 24 ni, outs := sig (24 + 2 * ni) no, rate := leAt r 8 1, noShare := (leAt r 9 1).testBit 0
    sheddable := (leAt r 9 1).testBit 1, trigger := leAt r 10 2, pIdx := leAt r 12 4, nPar := leAt r 16 2
    ops := (opWords r).map (fun w => (leAt w 0 1, leAt w 2 2)) }

/-- The graph of a GRAPH section. -/
def graphOf (g : List Byte) : Graph :=
  { rates := (rateRecs g).map (fun r => (leAt r 0 2, leAt r 2 2))
    sigs := (sigRecs g).map (fun r => { typ := leAt r 0 1, rate := leAt r 1 1, cls := leAt r 2 1, tap := (leAt r 3 1).testBit 0, init := BitVec.ofNat 32 (leAt r 4 4) })
    blks := (blkRecs g).map blkOfRec }

/-! ### META (R61): step 17 -/

/-- The framing of `n` entries: tag, length, data and zero padding (R61). The entries end with the section, at any FMT_MINOR (DESIGN CHOICE, log entry 88). -/
def metaOk : Nat → List Byte → Bool
  | 0, b => b.isEmpty
  | n + 1, b =>
    let l := leAt b 2 2
    let p := ceilDiv l 4 * 4
    decide (4 + p ≤ b.length) && zeros b (4 + l) (p - l) && metaOk n (b.drop (4 + p))

/-! ### Reserved bytes and bits (R47): step 11 -/

/-- STRUCT. -/
def structClear (b : List Byte) : Bool :=
  leAt b 4 4 / 2 == 0 && zeros b 0x14 12 && (chunks 2 96 ((b.drop 0x20).take 192)).all (fun e => !(leAt e 1 1).testBit 5)
    && (chunks 16 6 ((b.drop 0xE0).take 96)).all (fun r => zeros r 2 14) && zeros b 0x144 12

/-- GRAPH. -/
def graphClear (g : List Byte) : Bool :=
  zeros g 12 4 && (rateRecs g).all (fun r => zeros r 4 4) && (sigRecs g).all (fun r => leAt r 3 1 / 2 == 0 && zeros r 12 4)
    && (blkRecs g).all (fun r => leAt r 9 1 / 4 == 0 && zeros r 20 4 && (opWords r).all (fun w => zeros w 1 1))

/-- SAFETY: header, items, used change-log entries, reserved bits of item values (R399). -/
def safetyClear (b : List Byte) : Bool :=
  zeros b 8 8 && zeros b 0x58 8 && (chunks 8 (safCount b) ((b.drop 0x60).take (8 * safCount b))).all (fun e => zeros e 2 2) && safItemsClear (safItems b)
    && (safLog b).all (fun e => zeros e 0 32 || zeros e 14 2)

/-- The bytes between sections, and between the last one and the trailer. -/
def gapsClear (bs : List Byte) (lim : Nat) : Nat → List DirEnt → Bool
  | e, [] => zeros bs e (lim - e)
  | e, d :: r => zeros bs e (d.off - e) && gapsClear bs lim (d.off + d.len) r

/-- Step 11, at FMT_MINOR 0 only. The bytes that R43 fixes at 0 between sections count as reserved (DEDUCED, log entry 64). -/
def reservedOk (kind : Nat) (bs : List Byte) : Bool :=
  let n := leAt bs 0xE 2
  let len := leAt bs 0x10 4
  leAt bs 4 1 != 0 ||
    (zeros bs 0x28 8 && zeros bs (0x30 + 16 * n) (0xCC - 16 * n) && (dirOf bs).all (fun d => d.sfl % 2 ^ 15 == 0)
      && gapsClear bs (len - 128) 256 (dirOf bs) && zeros bs (len - 24) 24
      && (kind != 1 || (structClear (sectionCut bs 1) && graphClear (sectionCut bs 2) && zeros (sectionCut bs 3) 5 11 && safetyClear (sectionCut bs 4))))

/-- The code of the first failure among steps 1 to 11; 0 for none. -/
def trustCode (T : Trust) (bs : List Byte) : Nat :=
  let c := headCode T bs
  if c ≠ 0 then c
  else if !dirOk T.kind bs then 0xD108
  else if !crcsOk T.kind bs then 0xD109
  else if !reservedOk T.kind bs then 0xD10A
  else 0

/-! ### STRUCT (R48 to R51): step 12, but for the state its records make -/

/-- The CHANNEL_MAP: bridge, phase, leg; an unused channel has bridge 0xFF. -/
def chmapOf (b : List Byte) : List (Nat × Nat × Nat) :=
  (chunks 2 96 ((b.drop 0x20).take 192)).map (fun e => (leAt e 0 1, leAt e 1 1 / 64, leAt e 1 1 % 32))

/-- The legs of a phase of a bridge, in channel order. -/
def legsOf (m : List (Nat × Nat × Nat)) (b p : Nat) : List Nat := (m.filter (fun e => e.1 == b && e.2.1 == p)).map (·.2.2)

/-- CHANNEL_MAP is legal (R49): bridges 0 to 5 or unused, phases 0 to 2, and in each phase the leg indices run from 0 without gaps, each once. -/
def chmapOk (b : List Byte) : Bool :=
  let m := chmapOf b
  (chunks 2 96 ((b.drop 0x20).take 192)).all (fun e =>
      if leAt e 0 1 = 0xFF then leAt e 1 1 &&& 0xDF == 0 else decide (leAt e 0 1 ≤ 5) && decide (leAt e 1 1 / 64 ≤ 2))
    && (List.range 6).all (fun k => (List.range 3).all (fun p =>
      let l := legsOf m k p
      (List.range l.length).all (fun i => l.contains i)))

/-- The BRIDGES records: rule and allowance. -/
def bridgesOf (b : List Byte) : List (Nat × Nat) := (chunks 16 6 ((b.drop 0xE0).take 96)).map (fun r => (leAt r 0 1, leAt r 1 1))

/-- BRIDGES is legal (R50). -/
def bridgesOk (b : List Byte) : Bool :=
  let m := chmapOf b
  let br := bridgesOf b
  (List.range 6).all (fun k =>
    let r := nth (0, 0) br k
    let ns := ((List.range 3).map (fun p => (legsOf m k p).length)).filter (fun n => n != 0)
    match minBy? id ns with
    | none => r.1 == 0 && r.2 == 0
    | some n => decide (r.1 ≤ 2) && decide (r.2 < n))

/-- The register records. -/
def regRecs (b : List Byte) : List (Nat × Word) :=
  (chunks 8 (leAt b 0x140 4) ((b.drop 0x150).take (8 * leAt b 0x140 4))).map (fun e => (leAt e 0 4, BitVec.ofNat 32 (leAt e 4 4)))

/-- The blocks of R51, by the upper half of their addresses. -/
def imgBlocks : List Nat := [0x1002, 0x1005, 0x1020, 0x1021, 0x1022, 0x1023, 0x1024, 0x1025, 0x1026, 0x1033, 0x1036]

/-- The values of STRUCT by themselves (R48 to R51). -/
def structOk (b : List Byte) : Bool :=
  decide (2500 ≤ leAt b 0 4) && decide (leAt b 0 4 ≤ 25000) && decide (4 ≤ leAt b 0x10 4) && decide (leAt b 0x10 4 ≤ 25000) && chmapOk b && bridgesOk b
    && (regRecs b).all (fun r => r.1 % 4 == 0 && imgBlocks.contains (r.1 / 0x10000))

/-! ### GRAPH (R52 to R56 and the checks that owning chapters assign to 0xD10C): step 13, but for R303 -/

/-- No element occurs twice. -/
def distinct (l : List Nat) : Bool := l.eraseDups.length == l.length

/-- A record has the length its own fields give it, its padding is 0, and OP_COUNT lies within 1 to 64 (R55). -/
def blkFrameOk (r : List Byte) : Bool :=
  ceilDiv (blkBody r) 4 * 4 == r.length && zeros r (blkBody r) (r.length - blkBody r) &&
    (leAt r 4 2 != 0x0F00 || (let n := leAt r (24 + 2 * (leAt r 6 1 + leAt r 7 1)) 2; decide (1 ≤ n) && decide (n ≤ 64)))

/-- The rate table and the signal records (R53, R54), and at most 512 taps (R454). -/
def tablesOk (g : Graph) : Bool :=
  g.rates.head? == some (1, 0) && g.rates.all (fun r => decide (1 ≤ r.1) && decide (r.1 ≤ 10000) && decide (r.2 < r.1))
    && g.rates.eraseDups.length == g.rates.length
    && g.sigs.all (fun s => decide (s.typ ≤ 2) && decide (s.rate < g.rates.length) && decide (s.cls ≤ 1))
    && decide ((g.sigs.filter (·.tap)).length ≤ 512)

/-- A block record by itself (R55, R56, R96). -/
def blkOk (g : Graph) (parCount : Nat) (b : BlkRec) : Bool :=
  knownTypes.contains b.typ && shapeOk b.typ b.ins.length b.outs.length b.nPar && decide (b.rate < g.rates.length)
    && (decide (b.trigger ≤ 31) || b.trigger == 0xFFFF) && (b.ins ++ b.outs).all (fun s => decide (s < g.sigs.length))
    && decide (b.pIdx + b.nPar ≤ parCount) && (b.typ != 0x0F00 || progOk b.ins.length b.nPar b.outs.length 0 b.ops)

/-- Parameter ranges of no two blocks overlap (R56). -/
def rangesOk : Nat → List (Nat × Nat) → Bool
  | _, [] => true
  | e, p :: r => decide (e ≤ p.1) && rangesOk (p.1 + p.2) r

/-- What a block writes that no second block may write (R97): 0 a PWM channel, 1 to 3 a protection threshold. -/
def writeKeys (F : GF) : List (Nat × Nat) :=
  (List.range F.g.blks.length).filterMap (fun j =>
    let w := F.words j
    match (F.blk j).typ with
    | 0x4007 => some (0, (nth 0 w 0).toNat)
    | 0x4008 => some (0, (nth 0 w 0).toNat)
    | 0x4004 => some (1 + (nth 0 w 0).toNat, (nth 0 w 1).toNat)
    | _ => none)

/-- The conditions of R162. -/
def gridOk (F : GF) : Bool :=
  let of_ (t : Nat) : List Nat := (List.range F.g.blks.length).filter (fun j => (F.blk j).typ == t)
  let inj := of_ 0x2009
  let solve := of_ 0x200A
  let n (j : Nat) : Nat := (F.rate (F.blk j).rate).1
  decide (inj.length ≤ 1)
    && (solve.isEmpty ||
      (match inj with
       | [] => false
       | i :: _ =>
         let seg := (nth 0 (F.words i) 5).toNat
         solve.length == 12 && (List.range 12).all (fun p => solve.any (fun j => (nth 0 (F.words j) 0).toNat == p && F.rate (F.blk j).rate == (seg, p)))))
    && ([0x2007, 0x2008, 0x2009, 0x2006, 0x2002].flatMap of_).all (fun j => n j == 1)

/-- The conditions of R188. -/
def sourceOk (F : GF) : Bool :=
  (List.range F.g.blks.length).all (fun j =>
    let b := F.blk j
    (b.typ != 0x3001 || b.ins.length == 8 + 3 * (nth 0 (F.words j) 2).toNat)
      && (!([0x3001, 0x3002, 0x3006, 0x3007].contains b.typ) || (F.rate b.rate).1 == 1))

/-- GRAPH is valid, with the set A words (R52 to R56, R96, R97, R162, R188, R454). -/
def graphOk (raw : List Byte) (g : Graph) (setA : List Word) (p : Nat) : Bool :=
  let F := g.facts setA p
  (blkRecs raw).all blkFrameOk && tablesOk g && g.blks.all (blkOk g setA.length)
    && distinct (g.blks.map (·.id)) && distinct (g.blks.flatMap (·.outs))
    && rangesOk 0 (sortBy (·.1) ((g.blks.map (fun b => (b.pIdx, b.nPar))).filter (fun q => q.2 != 0)))
    && (writeKeys F).eraseDups.length == (writeKeys F).length && gridOk F && sourceOk F
    && F.order.length == g.blks.length

/-! ### PARAM (R57, R58): step 15 -/

/-- Set A or B. -/
def setOf (b : List Byte) (k : Nat) : List Word :=
  let n := leAt b 0 4
  (chunks 4 n ((b.drop (16 + 4 * n * k)).take (4 * n))).map (fun w => BitVec.ofNat 32 (leNat w))

/-- ACTIVE_SET and every word of both sets (R57, R58, R131, R158). -/
def paramOk (g : Graph) (act p : Nat) (a b : List Word) : Bool :=
  decide (act ≤ 1) && g.blks.all (fun k =>
    let wa := (a.drop k.pIdx).take k.nPar
    let wb := (b.drop k.pIdx).take k.nPar
    let ts := runTs (nth (1, 0) g.rates k.rate).1 p
    parOk k.typ wa ts &&
      (if isAB k.typ then parOk k.typ wb ts && (sharedWords k.typ).all (fun i => nth 0 wa i == nth 0 wb i) else wa == wb))

/-! ### SAFETY (R59, R60, R399): step 16 -/

/-- SAF_FMT, the ranges, the items and the CRC of every used change-log entry. -/
def safetyOk (b : List Byte) : Bool :=
  leAt b 0 4 == 1 && decide (10000 ≤ leAt b 4 4) && decide (leAt b 4 4 ≤ 1000000) && decide (leAt b 0x54 4 ≤ 255) && safItemsOk (safItems b)
    && (safLog b).all (fun e => zeros e 0 32 || leAt e 28 4 == (crc32 (e.take 28)).toNat)

/-! ### The image -/

/-- What the bytes of a container with trusted framing hold. -/
def imageOf (bs : List Byte) : Image :=
  let s := sectionCut bs 1
  let p := sectionCut bs 3
  { periodFc := leAt s 0 4, flags := leAt s 4 4, tref := leAt s 8 8, errlim := leAt s 0x10 4, chmap := chmapOf s, bridges := bridgesOf s, regs := regRecs s
    graph := graphOf (sectionCut bs 2), setA := setOf p 0, setB := setOf p 1, activeSet := leAt p 4 1, structBytes := s, safety := sectionCut bs 4
    hash := sha384 (bs.take (leAt bs 0x10 4 - 128)), gen := leAt bs 0x18 4, secVer := leAt bs 0x14 4 }

end Sys2Proof.Machine
end

