-- ==== Sys2Proof/Machine/Loader.lean ====
section
/-! DEFINITION. Machine/Loader.lean: full loads and hot updates (R64 to R72). -/

namespace Sys2Proof.Machine

/-! ### The state the STRUCT records make (R67 steps 2 and 3) -/

/-- Registers of the blocks of R51 that a full load keeps: the retained state of R414 that fills a register, and what the SAR banks hold since PORn. -/
def loadKeeps (a : Nat) : Bool :=
  !imgBlocks.contains (a / 0x10000) || a == Reg.ANV_SEQ || a == Reg.ADC_MCAL
    || (List.range 5).any (fun b => a == Reg.ADC_SLICE b) || (List.range 2).any (fun s => a == Reg.ADC_M_FACT s)

/-- A SAR bank after the block reset of a full load: factors and rotation stay. -/
def AdcBank.loadKeep (k : AdcBank) : AdcBank :=
  { AdcBank.init k.fact.length with fact := k.fact, darnReady := k.darnReady, rotAt := k.rotAt }

/-- Step 2: the blocks of R51 take their reset state, but for the retained state of R414, what is outside the chip, and what is already on its way through the
Anvil. -/
def Dev.imgReset (d : Dev) (x : Nat) : Dev :=
  let d := d.resetOwn x
  let r : Dev := { d with regs := d.regs.filter (fun p => loadKeeps p.1) }
  let r := ((r.retainGdp d).retainTmp d).copyF d Reg.ADC_STAT 0 0
  let r := (r.copyF d Reg.TWN_STAT 27 27).setB Reg.TWN_STAT 26 (!d.sys.safe)
  let sens : List TmpSens := d.tmp.sens.map (fun s => { s with warn := false, rate := false })
  { r with
    anv := { d.anv with ht := List.replicate 32 (0, 0), htSample := List.replicate 32 (0, 0), derateReq := false, derateIn := false }
    sdm := SdmSt.init
    adc := { d.adc with banks := d.adc.banks.map AdcBank.loadKeep }
    cmp := List.replicate 48 CmpCh.init
    enc := d.enc.keepPins
    mtr := MtrSt.init
    pwm := List.replicate 96 PwmCh.init
    gdp := { d.gdp.keepPins with br := List.replicate 6 { reqs := [], clear := none, quenchedAt := x, diagHold := false } }
    tmp := { d.tmp with sens := sens }
    twn := { TwnSt.init with pairHold := !d.sys.safe }
    lnk := upd (upd d.lnk 0 (fun _ => LnkLane.init)) 1 (fun _ => LnkLane.init)
    rec_ := RecSt.init }

/-- The bridges' fixed registers from CHANNEL_MAP and BRIDGES: a leg is OK unless it is marked LOST (R49, R50, R314). -/
def Dev.bridgeRegs (d : Dev) (im : Image) : Dev :=
  (List.range 6).foldl (fun d b =>
    let r := nth (0, 0) im.bridges b
    let n (p : Nat) : Nat := (legsOf im.chmap b p).length
    let d := d.wrN (Reg.GDP_BR_CFG b) (r.2 * 2 ^ 27 + r.1 * 2 ^ 25 + n 2 * 2 ^ 12 + n 1 * 2 ^ 6 + n 0)
    (List.range 3).foldl (fun d p =>
      let ok := (List.range 96).filterMap (fun c =>
        let e := nth (0xFF, 0, 0) im.chmap c
        if e.1 == b && e.2.1 == p && !d.legLost c then some (2 ^ e.2.2) else none)
      d.wrN (Reg.GDP_BR_OK b p) (sumOf ok)) d) d

/-- Steps 2 and 3: reset, frame registers, and the register records in their order. -/
def Dev.stageImage (d : Dev) (x : Nat) (im : Image) : Dev :=
  let d := d.imgReset x
  let d := { d with img := { d.img with run := some im } }
  let d := (d.recLayout im.graph).setF Reg.FRM_PERIOD 14 0 im.periodFc
  let d := (((d.setB Reg.FRM_CTRL 1 (im.flags % 2 == 1)).wr64 Reg.FRM_PHASE_LO Reg.FRM_PHASE_HI im.tref).setF Reg.FRM_ERRLIM 15 0 im.errlim).bridgeRegs im
  let d := d.setF Reg.PLC_SLOW_FC 15 0 (slowFc im.periodFc)
  im.regs.foldl (fun d r => d.busImg true x r.1 r.2) d

/-! ### The checks of an image (R65 steps 12 to 17) -/

/-- A PWM output block agrees with the channel map and with its channel's registers (R303). -/
def Dev.pwmBlkOk (d : Dev) (im : Image) (b : BlkRec) : Bool :=
  let w := (im.setA.drop b.pIdx).take b.nPar
  let n := (nth 0 w 0).toNat
  if b.typ = 0x4007 || b.typ = 0x4008 then
    (nth (0xFF, 0, 0) im.chmap n).1 != 0xFF && nth 0 w 1 == d.rd (Reg.PWM_CH_PER n)
      && (b.typ != 0x4007 || decide ((nth 0 w 2 = 1#32) ↔ d.bit (Reg.PWM_CH_CFG n) 27 = true))
  else true

/-- The engines that may take work. -/
def Dev.usable (d : Dev) : List Nat := (List.range 64).filter (fun e => d.engState e != 4 && d.engState e != 5)

/-- The placement of a graph from nothing on some engines; a signal of CLASS 1 needs DDR (R113, R501). -/
def Dev.placement (d : Dev) (im : Image) (engs : List Nat) : Option Placement :=
  if im.graph.sigs.any (fun s => s.cls == 1) && !d.bit Reg.DDR_STAT 31 then none
  else (im.graph.facts im.setA im.periodFc).placeAll engs

/-- The code of the first failure among steps 12 to 17 of R65, 0 for none; the trial placement of step 14 takes the engines `trial`, and at start-up step 14
waits (R502). -/
def Dev.imageCode (d : Dev) (x : Nat) (bs : List Byte) (trial : Option (List Nat)) : Nat :=
  let s := sectionCut bs 1
  let p := sectionCut bs 3
  let m := sectionCut bs 5
  let im := imageOf bs
  let d' := d.stageImage x im
  if !(structOk s && d'.imgCfgOk im.regs) then 0xD10B
  else if !(graphOk (sectionCut bs 2) im.graph im.setA im.periodFc && im.graph.blks.all (d'.pwmBlkOk im)) then 0xD10C
  else if (match trial with | none => false | some es => (d.placement im es).isNone) then 0xD10D
  else if !paramOk im.graph (leAt p 4 1) im.periodFc im.setA im.setB then 0xD10E
  else if !safetyOk (sectionCut bs 4) then 0xD10F
  else if decide (m.length < 4) || !metaOk (leAt m 0 4) (m.drop 4) then 0xD109
  else 0

/-- The owner keys that may verify a container (R462). -/
def Dev.trustKeys (d : Dev) (o : Otp) : List (Option (Nat × Nat)) :=
  (List.range 4).map (fun s => if d.slotUsable s then nth none o.keys s else none)

/-- What the checks of a slot's container compare it with. -/
def Dev.trustOf (d : Dev) (o : Otp) (m : Memory) (s kind : Nat) : Trust :=
  { kind := kind, commit := some (m.commitRec s kind), sent := 0, keys := d.trustKeys o
    cnt := if kind = 1 then d.fld Reg.SEC_CNT 6 0 else d.fld Reg.SEC_CNT 22 16 }

/-! ### A full load (R67, R68, R113) -/

/-- The sub-rate counters of a rate table: one per N above 1, a kept N keeping its count (R20, R71). -/
def rateCounters (rates old : List (Nat × Nat)) : List (Nat × Nat) :=
  (((rates.map (·.1)).filter (fun n => n != 1)).eraseDups).map (fun n => (n, (assocGet n old).getD 0))

/-- Steps 4 and 5: every signal at INIT, both sets, the active set of every group, every block at its start. -/
def Dev.loadGraph (d : Dev) (x : Nat) (im : Image) : Dev :=
  let init := im.graph.sigs.map (·.init)
  let d := (d.setF Reg.LP_SWAP_STAT 15 0 0).setF Reg.LP_SWAP_STAT 31 16 (if im.activeSet = 1 then 0xFFFF else 0)
  { d.setF Reg.COL_RR 5 0 63 with
    lp := { LpSt.init with swapAt := List.replicate 16 x }
    hrt := { HrtSt.init with
      graph := im.graph, setA := im.setA, setB := im.setB, rt := List.replicate im.graph.blks.length (BlkRt.fresh x), sig := init, copy := init, tap := init
      eng := d.hrt.eng.map (fun q => { Eng.init with testedAt := q.testedAt }), colAt := x, rate := rateCounters im.graph.rates [] } }

/-- Step 6: the engines with tasks become active. -/
def Dev.loadPlace (d : Dev) (x : Nat) (p : Placement) : Dev :=
  let d := d.setPlace fun _ => p
  let d := (List.range 64).foldl (fun d e =>
    let d := (d.setF (Reg.PLC_ENG_INFO e) 20 19 0).setF (Reg.PLC_ENG_INFO e) 31 25 0
    let d := d.setF (Reg.HRT_ENG_TIME e) 31 16 0
    if (nth [] p.order e).isEmpty then d else d.setF (Reg.HRT_ENG_STAT e) 2 0 1) d
  d.planRegs.plcStat x

/-- Step 7: the first T0 falls 2P ns after the load, with ALIGN_EN on the first aligned instant from then on (R28). -/
def Dev.loadStart (d : Dev) (x : Nat) : Dev :=
  let least := ceilDiv x uFc * uFc + d.P * uFc
  let tref := d.rd64 Reg.FRM_PHASE_LO Reg.FRM_PHASE_HI
  let first := if d.alignEn then least + fcToAligned (d.time2 least) tref d.P * uFc else least
  { d.wr Reg.FRM_COUNT 0 with
    frm := { d.frm with firstT0 := some first, tref := tref, trefNew := none, loStaged := d.rd Reg.FRM_PHASE_LO, alignRun := 0, lastFc := 0, acqDone := false
                        colDone := false, delivered := [] } }

/-- The registers that tell which image runs. -/
def Dev.imgRegs (d : Dev) (im : Image) (slot : Nat) : Dev :=
  let d := (((d.setB Reg.IMG_STAT 4 true).setF Reg.IMG_STAT 5 5 slot).wrN Reg.IMG_GEN im.gen).setF Reg.IMG_SECVER 6 0 im.secVer
  let d := (List.range 12).foldl (fun d i => d.wrN (Reg.IMG_HASH i) (leAt im.hash (4 * i) 4)) d
  (d.setF Reg.IMG_RESULT 15 0 0).setF Reg.IMG_STAT 3 0 0

/-- Steps 1 to 5 of R67, up to the placement. -/
def Dev.loadSteps (d : Dev) (x : Nat) (im : Image) : Dev :=
  let d := ((d.setB Reg.FRM_STAT 3 false).setB Reg.FRM_STAT 4 false).dropOwn x 2
  let d := (d.pairTo x 0 none).setB Reg.IMG_STAT 4 false
  ((d.stageImage x im).plcFullLoad x).loadGraph x im

/-- The steps of R67 once every check has passed; R68 where the graph no longer fits. -/
def Dev.fullLoad (d : Dev) (x : Nat) (im : Image) (slot : Nat) : Dev :=
  let d := d.loadSteps x im
  match d.placement im d.usable with
  | none =>
    let d := { d with img := { d.img with run := none, slot := slot }, hrt := { HrtSt.init with eng := d.hrt.eng }, frm := { d.frm with firstT0 := none }
                      sys := { d.sys with safe := true, safeAt := if d.sys.safe then d.sys.safeAt else x } }
    d.imgReject x 0xD10D
  | some p =>
    let d := (((d.loadPlace x p).loadStart x).mirrorEval.imgRegs im slot).safLoad im.safety
    { d with img := { d.img with slot := slot, next := none, nextPlace := none, hot := false } }

/-- A load is in progress, or start-up has not come so far (R72, R509). -/
def Dev.loadBusy (d : Dev) : Bool := d.imgState != 0 || d.img.fullWaits || !d.sys.bootOver

/-- The checks of a container begin (R67, R70). The trial placement of step 14 takes the engines that are neither faulted nor retired now; one that is lost
before the checks end makes step 6 fail (R68). The spec does not say at which moment of the checks step 14 looks (DESIGN CHOICE, log entry 88). -/
def Dev.checkStart (d : Dev) (hot : Bool) (slot : Nat) : Dev :=
  { d.setF Reg.IMG_STAT 3 0 1 with img := { d.img with slot := slot, hot := hot, fullWaits := false, trial := d.usable } }

/-- A write of 1 to IMG_CTRL.FULL_LOAD (R67, R72): in ACTIVE with a partner in STANDBY a planned handover first; refused in RUN_ARMED; in STANDBY the chip
withdraws. -/
def Dev.fullLoadReq (d : Dev) (x : Nat) : Dev :=
  let slot := d.fld Reg.IMG_CTRL 2 2
  if d.loadBusy then d.setB Reg.IMG_STAT 8 true
  else if d.pair = 2 && d.peerPair = 3 then
    let d : Dev := { d with img := { d.img with fullWaits := true, slot := slot } }
    d.hoStart x 2
  else if d.armed then d.setB Reg.IMG_STAT 7 true
  else (if d.pair = 3 then d.withdraw x 1 else d).checkStart false slot

/-- A full load that waited for its handover goes on once the chip is STANDBY (R67). -/
def Dev.fullWaitT0 (d : Dev) (x : Nat) : Dev :=
  if d.img.fullWaits && d.pair = 3 then (d.withdraw x 1).checkStart false d.img.slot else d

/-- FULL_LOAD (R67). -/
def execFullLoad (t : Nat) (s : State) : Out := act t s fun x d => d.live fun d => d.fullLoadReq x

/-- The end of a full load's checks. A chip armed meanwhile refuses the load (DESIGN CHOICE, log entry 71). -/
def Dev.fullChecksDone (d : Dev) (x : Nat) (o : Otp) (m : Memory) : Dev :=
  if d.imgState != 1 || d.img.hot then d
  else
    let s := d.img.slot
    let bs := m.container s 1
    let c := trustCode (d.trustOf o m s 1) bs
    let c := if c ≠ 0 then c else d.imageCode x bs (some d.img.trial)
    if c ≠ 0 then d.imgReject x c
    else if d.armed then (d.setF Reg.IMG_STAT 3 0 0).setB Reg.IMG_STAT 7 true
    else d.fullLoad x (imageOf bs) s

/-- FULL_LOAD_CHECKS_DONE (R65, R67, R68). -/
def execFullLoadChecksDone (t : Nat) (s : State) : Out :=
  actE t s fun s => { dev := s.dev.live fun d => d.fullChecksDone s.now s.otp s.mem, cells := [], fuses := [] }

/-! ### A hot update (R69 to R72, R128) -/

/-- A write of 1 to IMG_CTRL.HOT_LOAD (R70, R72). -/
def Dev.hotLoadReq (d : Dev) : Dev :=
  if d.loadBusy then d.setB Reg.IMG_STAT 8 true else d.checkStart true (d.fld Reg.IMG_CTRL 2 2)

/-- HOT_LOAD (R70). -/
def execHotLoad (t : Nat) (s : State) : Out := act t s fun _ d => d.live fun d => d.hotLoadReq

/-- ABORT (R72): before STAGED a hot update ends with 0xD111. -/
def execImgAbort (t : Nat) (s : State) : Out := act t s fun x d => d.live fun d => d.hotAbort x

/-- Two block records agree in what makes a block kept (R69). -/
def BlkRec.keeps (a b : BlkRec) : Bool :=
  a.id == b.id && a.typ == b.typ && a.ins == b.ins && a.outs == b.outs && a.rate == b.rate && a.noShare == b.noShare && a.sheddable == b.sheddable
    && a.trigger == b.trigger

/-- The running block that block `b` of a new image keeps. -/
def Dev.keptFrom (d : Dev) (b : BlkRec) : Option Nat := (List.range d.hrt.graph.blks.length).find? (fun j => (d.blkAt j).keeps b)

/-- The words of a block in a set of an image. -/
def Image.wordsOf (im : Image) (setB : Bool) (b : BlkRec) : List Word := ((if setB then im.setB else im.setA).drop b.pIdx).take b.nPar

/-- A hot update is compatible (R69). -/
def Dev.hotOk (d : Dev) (im : Image) : Bool :=
  match d.img.run with
  | none => false
  | some old =>
    d.loaded && old.structBytes == im.structBytes && d.saf.copy == im.safety && im.graph.blks.all (fun b => match d.keptFrom b with
      | none => true
      | some j => let o := d.blkAt j; let act := d.blkActB o; d.blkWords (b2n act) o == im.wordsOf act b)

/-- The running tasks as they stay in a new image: removed blocks dropped, the others renumbered, with the engines on which they run (R128). -/
def Dev.keptTasks (d : Dev) (im : Image) : List (Nat × Task) :=
  let new (j : Nat) : Option Nat := (List.range im.graph.blks.length).find? (fun k => (d.blkAt j).keeps (nth BlkRec.none_ im.graph.blks k))
  ((List.range d.hrt.place.tasks.length).map (fun i => let t := d.taskAt i; (i, { t with blks := t.blks.filterMap new }))).filter (fun p => !p.2.blks.isEmpty)

/-- A running task's number in the new placement. -/
def Dev.newTask (d : Dev) (im : Image) (i : Nat) : Option Nat :=
  let l := (d.keptTasks im).map (·.1)
  if l.contains i then some (l.idxOf i) else none

/-- The kept tasks of each engine in their order, by their new numbers. -/
def Dev.keptOrder (d : Dev) (im : Image) : List (List Nat) := (List.range 64).map (fun e => (nth [] d.hrt.place.order e).filterMap (d.newTask im))

/-- The place of a new graph beside the running work (R70, R128): kept tasks stay on their engines and in their order, the others follow. -/
def Dev.hotPlacement (d : Dev) (im : Image) : Option Placement :=
  let kept := (d.keptTasks im).map (·.2)
  let F := im.graph.facts im.setA im.periodFc
  F.place (F.form kept) kept.length (d.keptOrder im) (d.engsIn [1]) d.spares d.usable.length

/-- The engines to which a placement gives added tasks. -/
def Dev.addedEngs (d : Dev) (im : Image) (p : Placement) : List Nat :=
  let kept := (d.keptTasks im).length
  (List.range 64).filter (fun e => (nth [] p.order e).any (fun i => decide (kept ≤ i)))

/-- Entry into STAGED in the present frame, once no migration is in flight (R70, R72). The engines that take added tasks become active here, in whose next frame
they load them, so that nothing else takes them before the switch; where one is no more spare or active, the graph is placed once more (DESIGN CHOICE, log entry
89). -/
def Dev.stageTry (d : Dev) (x : Nat) : Dev :=
  match d.img.next, d.img.nextPlace with
  | some im, some p0 =>
    if d.imgState == 2 && d.plc.migs.isEmpty then
      let p := if (d.addedEngs im p0).all (fun e => d.engState e == 0 || d.engState e == 1) then some p0 else d.hotPlacement im
      match p with
      | none => d.imgReject x 0xD10D
      | some p =>
        let d := (d.addedEngs im p).foldl (fun d e => if d.engState e = 0 then d.engTo x e 1 else d) d
        { d.setF Reg.IMG_STAT 3 0 3 with img := { d.img with stagedFrm := d.frameOf x, nextPlace := some p } }
    else d
  | _, _ => d

/-- The end of a hot update's checks (R65, R69, R70): an identical graph needs no placing. Two GRAPHs are identical when their records say the same; NAME_TAG,
which names a signal in META and changes no behaviour (R61), is not compared (DESIGN CHOICE, log entry 88). -/
def Dev.hotChecksDone (d : Dev) (x : Nat) (o : Otp) (m : Memory) : Dev :=
  if d.imgState != 1 || !d.img.hot then d
  else
    let s := d.img.slot
    let bs := m.container s 1
    let im := imageOf bs
    let c := trustCode (d.trustOf o m s 1) bs
    let c := if c ≠ 0 then c else d.imageCode x bs (some d.img.trial)
    let c := if c ≠ 0 then c else if d.hotOk im then 0 else 0xD110
    if c ≠ 0 then d.imgReject x c
    else
      let d := d.setF Reg.IMG_STAT 3 0 2
      let same := decide (im.graph = d.hrt.graph)
      let d : Dev := { d with img := { d.img with next := some im, nextPlace := if same then some d.hrt.place else none } }
      d.stageTry x

/-- HOT_CHECKS_DONE (R69, R70). -/
def execHotChecksDone (t : Nat) (s : State) : Out :=
  actE t s fun s => { dev := s.dev.live fun d => d.hotChecksDone s.now s.otp s.mem, cells := [], fuses := [] }

/-- The end of a hot update's placing (R70). -/
def Dev.hotPlaced (d : Dev) (x : Nat) : Dev :=
  if d.imgState != 2 || !d.img.hot || d.img.nextPlace.isSome then d
  else
    match d.img.next with
    | none => d
    | some im =>
      match d.hotPlacement im with
      | none => d.imgReject x 0xD10D
      | some p => let d : Dev := { d with img := { d.img with nextPlace := some p } }; d.stageTry x

/-- HOT_PLACING_DONE (R70). -/
def execHotPlacingDone (t : Nat) (s : State) : Out := act t s fun x d => d.live fun d => d.hotPlaced x

/-! ### The switch boundary (R71, R149, R302, R335, R456) -/

/-- The channels that a block writes. -/
def BlkRec.pwmChan (b : BlkRec) (setA : List Word) : Option Nat :=
  if b.typ = 0x4007 || b.typ = 0x4008 then some (nth 0 setA b.pIdx).toNat else none

/-- A removed PWM output block commits OFF_DUTY, unless an added block writes its channel (R302). -/
def Dev.removedOff (d : Dev) (x : Nat) (im : Image) (j : Nat) : Dev :=
  let b := d.blkAt j
  if im.graph.blks.any b.keeps then d
  else
    match b.pwmChan d.hrt.setA with
    | none => d
    | some n =>
      if im.graph.blks.any (fun k => k.pwmChan im.setA == some n) then d
      else
        let w := d.blkWords 0 b
        d.pwmWords x (x + uFc) j (offDuty b w (d.fld (Reg.PWM_CH_CFG n) 30 29))

/-- The values of the new signals: a signal that a kept block writes keeps its value, every other takes INIT. -/
def switchSigs (im : Image) (kept : BlkRec → Bool) (old : List Word) : List Word :=
  let ks := (im.graph.blks.filter kept).flatMap (·.outs)
  (List.range im.graph.sigs.length).map (fun s => if ks.contains s then nth 0 old s else match im.graph.sigs[s]? with | some r => r.init | none => 0)

/-- The placement at the switch: kept tasks stay on the engines that own them now; tasks that wait for an engine, or have none, stay so. -/
def Dev.switchPlace (d : Dev) (im : Image) (p : Placement) : Placement :=
  let olds := (d.keptTasks im).map (·.1)
  let engOf (i : Nat) : Nat := match olds[i]? with | some o => (d.taskAt o).eng | none => (nth Task.none_ p.tasks i).eng
  let tasks := (List.range p.tasks.length).map (fun i => { nth Task.none_ p.tasks i with eng := engOf i })
  let kept := d.keptOrder im
  let order := (List.range 64).map (fun e => nth [] kept e ++ ((p.order.flatMap id).filter (fun i => decide (olds.length ≤ i) && engOf i == e)))
  let plan := match (im.graph.facts im.setA im.periodFc).evalOrders tasks p.home order with | some a => a.plan | none => p.plan
  { p with tasks := tasks, order := order, plan := plan }

/-- An engine's state follows its tasks at the switch: one that has lost its last becomes spare (R128); the added tasks of one that has failed since STAGED
wait for a replacement. -/
def Dev.switchEng (d : Dev) (x e : Nat) : Dev :=
  let s := d.engState e
  if (nth [] d.hrt.place.order e).isEmpty then (if s = 1 then d.engTo x e 0 else d)
  else if (s = 5 || s = 4) && !d.plc.recs.any (fun r => r.failed == e && !r.started) then d.recovStart e 64
  else d

/-- The tasks named in recoveries and among the unplaced are renumbered. -/
def Dev.switchRecs (d : Dev) (im : Image) : Dev :=
  let f := d.newTask im
  d.setPlc fun p => { p with
    recs := (p.recs.map (fun (r : Recov) => { r with tasks := r.tasks.filterMap f })).filter (fun (r : Recov) => !r.tasks.isEmpty)
    unplaced := p.unplaced.filterMap f, holdOff := p.holdOff.map (fun (q : List Nat × Nat) => (q.1.filterMap f, q.2)) }

/-- The Hearth after the switch. -/
def Dev.switchHrt (d : Dev) (x : Nat) (im : Image) (p : Placement) : HrtSt :=
  let kept (b : BlkRec) : Bool := (d.keptFrom b).isSome
  { d.hrt with
    graph := im.graph, setA := im.setA, setB := im.setB
    rt := im.graph.blks.map (fun b => match d.keptFrom b with | some j => d.rtAt j | none => BlkRt.fresh x)
    sig := switchSigs im kept d.hrt.sig, copy := switchSigs im kept d.hrt.copy, tap := switchSigs im kept d.hrt.tap
    place := d.switchPlace im p, rate := rateCounters im.graph.rates d.hrt.rate }

/-- The switch boundary at the T0 of frame `n`. -/
def Dev.hotSwitchTo (d : Dev) (x n : Nat) (im : Image) (p : Placement) : Dev :=
  let taps := d.hrt.graph.taps != im.graph.taps
  let d := (List.range d.hrt.graph.blks.length).foldl (fun d j => d.removedOff x im j) d
  let h := d.switchHrt x im p
  let d := d.switchRecs im
  let d : Dev := { d with hrt := h }
  let d := (List.range 64).foldl (fun d e => d.switchEng x e) d
  let d := d.planRegs.plcStat x
  let d := { d with
    lp := { d.lp with staged := [], swaps := d.lp.swaps.map (fun (q : SwapPend) => if q.hot then { q with hot := false, frame := laterFrm q.frame ((n + 1) % 2 ^ 32) } else q) }
    img := { d.img with run := some im, next := none, nextPlace := none, hot := false } }
  let d := (d.setTwn fun q => { q with sweepPos := 0, corr := [], blocksDue := true }).mirrorEval
  let d := ((d.imgRegs im d.img.slot).wrN Reg.IMG_SWITCH_FRM n).raise .per x 245 0xD120 [(4, im.gen), (4, n)]
  (if taps then d.recCut x else d).recLayout im.graph

/-- The T0 of frame m + 2 switches (R70, R71). -/
def Dev.hotT0 (d : Dev) (x n : Nat) : Dev :=
  if d.img.hot && d.imgState == 3 && frmSince n d.img.stagedFrm == 2 then
    match d.img.next, d.img.nextPlace with
    | some im, some p => d.hotSwitchTo x n im p
    | _, _ => d
  else d.stageTry x

end Sys2Proof.Machine
end

