-- ==== Sys2Proof/Machine/Tim.lean ====
section
/-! DEFINITION. Machine/Tim.lean: device time: rate, step, holdover, triggers and captures (R369 to R381). -/

namespace Sys2Proof.Machine

/-- A write to a TIM register is refused (R381). -/
def Dev.timRefuse (d : Dev) : Dev := d.setB Reg.TIM_STAT 0 true
/-- INC in 2^-32 ns as its registers hold it. -/
def Dev.incReg (d : Dev) : Nat := d.fld Reg.TIM_INC_NS 7 0 * 2 ^ 32 + (d.rd Reg.TIM_INC_FRAC).toNat
/-- AVG in 2^-32 ns. -/
def Dev.avgReg (d : Dev) : Nat := d.fld Reg.TIM_AVG_NS 7 0 * 2 ^ 32 + (d.rd Reg.TIM_AVG_FRAC).toNat
/-- The increment in force from the next PER cycle on. -/
def Dev.incNext (d : Dev) : Nat := match d.time.pend with | some p => p.inc | none => d.time.inc

/-- A change of device time at the start of the next PER cycle, which comes with the clock where the domain stands still; changes of one cycle add up (R369, R371,
R380). -/
def Dev.timePend (d : Dev) (x : Nat) (ofs : Int) (inc : Nat) : Dev :=
  let o := match d.time.pend with | some p => p.ofs | none => 0
  { d with time := { d.time with pend := some { at_ := if d.clocked 3 then nextPer x else never, ofs := o + ofs, inc := inc } } }

/-- Data of event 210: INC, as it holds from the next PER cycle on (R382, log entry 26). -/
def Dev.incData (d : Dev) : List (Nat × Nat) := [(1, d.incNext / 2 ^ 32), (4, d.incNext % 2 ^ 32)]

/-- Entry into holdover (R372): INC takes AVG. -/
def Dev.holdEnter (d : Dev) (x : Nat) : Dev :=
  let d := (d.wr Reg.TIM_INC_NS (d.rd Reg.TIM_AVG_NS)).wr Reg.TIM_INC_FRAC (d.rd Reg.TIM_AVG_FRAC)
  let d := (d.timePend x 0 d.avgReg).setB Reg.TIM_STAT 2 true
  d.raise .per x 210 0x9100 d.incData

/-- Exit from holdover. -/
def Dev.holdLeave (d : Dev) (x : Nat) : Dev :=
  let d := { d.setB Reg.TIM_STAT 2 false with time := { d.time with byHold := false } }
  d.raise .per x 210 0x9101 d.incData

/-- A write of TIM_INC_FRAC (R369): the fraction is staged. -/
def Dev.wrIncFrac (d : Dev) (v : Word) : Dev :=
  let d := d.wr Reg.TIM_INC_FRAC v
  { d with time := { d.time with fracStaged := v } }

/-- TIM_INC_FRAC_WRITE (R369). -/
def execTimIncFracWrite (t : Nat) (v : Word) (s : State) : Out := act t s fun _ d => d.live fun d => d.wrIncFrac v

/-- The average rate after a commit: avg + ((inc − avg) >> shift), the shift rounding towards minus infinity (R372). -/
def avgStep (avg inc shift : Nat) : Nat := ((avg : Int) + ((inc : Int) - (avg : Int)) / (2 ^ shift : Int)).toNat

/-- A commit of INC (R369, R372): refused outside 4.999 ns to 5.001 ns and while HOLD is 1; it ends a holdover by timeout, updates AVG and holds from the next
PER cycle. -/
def Dev.timCommit (d : Dev) (x : Nat) (v : Word) : Dev :=
  let inc := natBits v.toNat 7 0 * 2 ^ 32 + d.time.fracStaged.toNat
  if inc * 1000 < 4999 * 2 ^ 32 || decide (5001 * 2 ^ 32 < inc * 1000) || d.bit Reg.TIM_CTRL 0 then d.timRefuse
  else
    let d := (d.setF Reg.TIM_INC_NS 7 0 v.toNat).wr Reg.TIM_INC_FRAC d.time.fracStaged
    let d := if d.bit Reg.TIM_STAT 2 then d.holdLeave x else d
    let a := avgStep d.avgReg inc (d.fld Reg.TIM_HOLD 3 0)
    let d := (d.setF Reg.TIM_AVG_NS 7 0 (a / 2 ^ 32)).wrN Reg.TIM_AVG_FRAC a
    let d := d.timePend x 0 inc
    { d with time := { d.time with lastCommit := x } }

/-- TIM_INC_COMMIT (R369). -/
def execTimIncCommit (t : Nat) (v : Word) (s : State) : Out := act t s fun x d => d.live fun d => d.timCommit x v

/-- A step (R371): TIM_OFS is added at the start of the next PER cycle. -/
def Dev.timStep (d : Dev) (x : Nat) : Dev :=
  let v := d.rd64 Reg.TIM_OFS_LO Reg.TIM_OFS_HI
  let d := d.timePend x (toSigned 64 v * 2 ^ 32) d.incNext
  let d := (d.setB Reg.TIM_STAT 1 true).setB Reg.TIM_STAT 3 true
  d.raise .per x 210 0x9102 [(4, v % 2 ^ 32), (4, v / 2 ^ 32)]

/-- STEP (R371). -/
def execTimeStep (t : Nat) (s : State) : Out := act t s fun x d => d.live fun d => d.timStep x

/-- A snapshot of device time in one PER cycle (R374). -/
def Dev.timSnap (d : Dev) (x : Nat) : Dev :=
  let v := d.time2 (x / uPer * uPer)
  (d.wrN Reg.TIM_SNAP_FRAC v).wr64 Reg.TIM_SNAP_LO Reg.TIM_SNAP_HI (v / 2 ^ 32)

/-- TIM_SNAP (R374). -/
def execTimSnap (t : Nat) (s : State) : Out := act t s fun x d => d.live fun d => d.timSnap x

/-- A write of HOLD (R372). -/
def Dev.timHold (d : Dev) (x : Nat) (hold : Bool) : Dev :=
  let was := d.bit Reg.TIM_CTRL 0
  let d := d.setB Reg.TIM_CTRL 0 hold
  if hold && !was then
    let d := if d.bit Reg.TIM_STAT 2 then d else d.holdEnter x
    { d with time := { d.time with byHold := true } }
  else if !hold && was && d.time.byHold then
    let d := d.holdLeave x
    { d with time := { d.time with lastCommit := x } }
  else d

/-- HOLD_WRITE (R372). -/
def execHoldWrite (t : Nat) (hold : Bool) (s : State) : Out := act t s fun x d => d.live fun d => d.timHold x hold

/-- HOLDOVER_TIMEOUT (R372): no commit for TIMEOUT_MS. -/
def execHoldoverTimeout (t : Nat) (s : State) : Out :=
  act t s fun x d => d.liveIn 3 fun d =>
    let ms := d.fld Reg.TIM_HOLD 31 16
    if ms = 0 || d.bit Reg.TIM_STAT 2 || x < d.time.lastCommit + ms * uMs then d
    else
      d.holdEnter x

/-! ### Triggers (R375 to R377) -/

/-- PERIOD of a trigger. -/
def Dev.trgPeriod (d : Dev) (k : Nat) : Nat := (d.rd (Reg.TIM_TRG_PERIOD k)).toNat
/-- START of a trigger. -/
def Dev.trgStart (d : Dev) (k : Nat) : Nat := d.rd64 (Reg.TIM_TRG_START_LO k) (Reg.TIM_TRG_START_HI k)

/-- The first instant START + j × PERIOD at or after `least` (R376). -/
def trgFirst (start per least : Nat) : Nat := if least ≤ start then start else start + ceilDiv (least - start) per * per

/-- The output of a trigger or of T0 is driven high for WIDTH (R377). -/
def Dev.toutPulse (d : Dev) (x k : Nat) : Dev :=
  let w := (d.rd (Reg.TIM_TRG_WIDTH k)).toNat
  if w = 0 then d else { d with time := { d.time with toutEnd := updN 4 0 d.time.toutEnd k (fun _ => x + w * uNs) } }

/-- A write of a trigger's CFG register (R376, R377). -/
def Dev.wrTrgCfg (d : Dev) (x k : Nat) (v : Word) : Dev :=
  let a := Reg.TIM_TRG_CFG k
  let was := d.bit a 31
  let d1 := d.rw a v
  let d1 := if d1.fld a 30 29 != d.fld a 30 29 then { d1 with time := { d1.time with toutEnd := updN 4 0 d1.time.toutEnd k (fun _ => 0) } } else d1
  if was || !d1.bit a 31 then d1
  else
    let now := d.ns (presentAt x)
    let st := d.trgStart k
    let per := d.trgPeriod k
    if per = 0 && decide (st < now) then
      let d1 := (d1.setB a 31 false).setB a 27 true
      if d1.bit a 28 then d1.raise .pwm x (212 + k) (0x9124 + k) [(8, st), (4, (d.rd (Reg.TIM_TRG_MISSED k)).toNat)] else d1
    else
      let nx := if per = 0 then st else trgFirst st per (now + 100)
      { d1 with time := { d1.time with trgNext := updN 4 0 d1.time.trgNext k (fun _ => nx) } }

/-- TRIGGER_ARM (R376). -/
def execTriggerArm (t : Nat) (k : Fin 4) (v : Word) (s : State) : Out :=
  act t s fun x d => d.live fun d => d.wrTrgCfg x k.val (setBit v 31 true)

/-- TRIGGER_FIRE (R375, R376): device time has reached the instant an armed trigger waits for. Instants that a step has passed count in MISSED. -/
def execTriggerFire (t : Nat) (k : Fin 4) (s : State) : Out :=
  act t s fun x d => d.liveIn 3 fun d =>
    let k := k.val
    let a := Reg.TIM_TRG_CFG k
    let nx := nth 0 d.time.trgNext k
    let now := d.ns x
    let per := d.trgPeriod k
    if !d.bit a 31 || now < nx then d
    else
      let more := if per = 0 then 0 else (now - nx) / per
      let miss := (d.rd (Reg.TIM_TRG_MISSED k)).toNat + more
      let d := (d.setB a 26 true).wrN (Reg.TIM_TRG_MISSED k) (if miss < 2 ^ 32 then miss else 2 ^ 32 - 1)
      let d := if per = 0 then d.setB a 31 false
        else { d with time := { d.time with trgNext := updN 4 0 d.time.trgNext k (fun _ => nx + (more + 1) * per) } }
      let d := if d.fld a 30 29 = 1 then d.toutPulse x k else d
      if d.bit a 28 then d.raise .pwm x (212 + k) (0x9120 + k) [(8, nx), (4, (d.rd (Reg.TIM_TRG_MISSED k)).toNat)] else d

/-- TOUT_PULSE_END (R377). -/
def execToutPulseEnd (t : Nat) (k : Fin 4) (s : State) : Out :=
  act t s fun x d => d.liveIn 3 fun d => { d with time := { d.time with toutEnd := updN 4 0 d.time.toutEnd k.val (fun e => if e ≤ x then 0 else e) } }

/-- At every T0 the outputs with OUT = 2 pulse (R377). -/
def Dev.toutT0 (d : Dev) (t0 : Nat) : Dev :=
  (List.range 4).foldl (fun d k => if d.fld (Reg.TIM_TRG_CFG k) 30 29 = 2 then d.toutPulse t0 k else d) d

/-- A write of START, PERIOD or WIDTH (R381). -/
def Dev.wrTrgOther (d : Dev) (k a : Nat) (v : Word) : Dev :=
  let per := a == Reg.TIM_TRG_PERIOD k && v.toNat ≠ 0 && v.toNat < 100
  let wid := a == Reg.TIM_TRG_WIDTH k && (decide (v.toNat < 8) || decide (1000000000 < v.toNat))
  if d.bit (Reg.TIM_TRG_CFG k) 31 || per || wid then d.timRefuse else d.rw a v

/-! ### Captures (R379) -/

/-- The registers of a capture show its oldest entry. -/
def Dev.capShow (d : Dev) (k : Nat) : Dev :=
  let l := nth [] d.time.caps k
  let st := Reg.TIM_CAP_STAT k
  let d := d.setF st 2 0 l.length
  match l with
  | [] => d
  | e :: _ => ((d.wr64 (Reg.TIM_CAP_DATA_LO k) (Reg.TIM_CAP_DATA_HI k) e.1).wrN (Reg.TIM_CAP_DATA_FRAC k) 0).setB st 4 e.2

/-- CAPTURE_EDGE (R379): a selected edge is stored, or lost when 4 entries are held. -/
def execCaptureEdge (t : Nat) (k : Fin 4) (rising : Bool) (s : State) : Out :=
  act t s fun x d => d.liveIn 3 fun d =>
    let k := k.val
    let a := Reg.TIM_CAP_CFG k
    let l := nth [] d.time.caps k
    let ns := d.ns x
    if !d.bit a 31 || !d.bit a (if rising then 29 else 30) then d
    else if 4 ≤ l.length then (d.setB (Reg.TIM_CAP_STAT k) 3 true).raise .pin x 211 (0x9114 + k) [(8, ns)]
    else
      let d := { d with time := { d.time with caps := updN 4 [] d.time.caps k (fun l => l ++ [(ns, rising)]) } }
      let d := d.capShow k
      if l.isEmpty then d.raise .pin x 211 (0x9110 + k) [(8, ns)] else d

/-- The oldest entry of a capture is removed. -/
def Dev.capPop (d : Dev) (k : Nat) : Dev := { d with time := { d.time with caps := updN 4 [] d.time.caps k (fun l => l.drop 1) } }.capShow k

/-- POP (R379). -/
def execPop (t : Nat) (k : Fin 4) (s : State) : Out := act t s fun _ d => d.live fun d => d.capPop k.val

/-- Device time starts from the Keep domain's count (R373): INC is 5.0 ns, AVG starts at INC, SET is 0. -/
def Dev.timeStart (d : Dev) (x ns : Nat) : Dev :=
  { d with time := { d.time with at_ := x, base := ns * 2 ^ 32, inc := 5 * 2 ^ 32, pend := none, past := [], lastCommit := x } }

end Sys2Proof.Machine
end

