-- ==== Sys2Proof/Machine/Boot.lean ====
section
/-! DEFINITION. Machine/Boot.lean: PORn, the start-up sequence, recovery, and the supplies (R413, R437, R453, R464, R465, R470, R486, R496 to R510). -/

namespace Sys2Proof.Machine

/-! ### Step 4 (R408, R417, R468, R497) -/

/-- SYS_BOOT.STEP. -/
def Dev.bootStep (d : Dev) : Nat := d.fld Reg.SYS_BOOT 3 0
/-- The device with SYS_BOOT.STEP set. -/
def Dev.stepTo (d : Dev) (k : Nat) : Dev := d.setF Reg.SYS_BOOT 3 0 k
/-- A latched strap field. -/
def Dev.strap (d : Dev) (hi lo : Nat) : Nat := d.fld Reg.SYS_STRAP hi lo
/-- ST_BOOT. -/
def Dev.stBoot (d : Dev) : Nat := d.strap 4 3

/-- The ROM waits for a debugger; the sequence has no further steps (R465, R504). -/
def Dev.bootHalt (d : Dev) : Dev := { d.setB Reg.SYS_BOOT 28 true with sys := { d.sys with bootOver := true } }

/-- What the latched straps set: twin role, REFCLK selection, Ethernet mode. -/
def Dev.strapSets (d : Dev) : Dev :=
  let d := (d.setB Reg.TWN_STAT 27 (d.strap 0 0 == 1)).setF Reg.CLK_STAT 25 24 (d.strap 2 1)
  (List.range 2).foldl (fun d p => d.setB (Reg.ETH_P_STAT p) 30 (d.strap 6 6 == 1)) d

/-- Step 4: the fuses' shadows, the band table; with ST_TEST latched nothing more. Step 5 ends at once where REF_OK is 1, and waits 20 ms for it otherwise (R500). -/
def Dev.bootRom (d : Dev) (x : Nat) (o : Otp) : Dev :=
  let d := d.strapSets.otpShadows o
  let d := ((List.range 64).foldl (fun d i => d.wr (Reg.CLK_BAND i) (nth 0 o.bands i)) d).stepTo 4
  if d.strap 8 8 = 1 then
    let d := (d.setF Reg.SYS_BOOT 11 8 4).logDirect x 14 0xE305 [(4, (d.rd Reg.SYS_STRAP).toNat)]
    { d with sys := { d.sys with bootOver := true } }
  else if d.refOk then d.bootPll x
  else { d with sys := { d.sys with refWait := some (x + 20 * uMs) } }

/-- A RETURN sequence that was interrupted is taken up again (R478). -/
def Dev.returnAgain (d : Dev) (x : Nat) (o : Otp) (m : Memory) : Effect :=
  if o.retPend && decide (o.lc < 3) then
    { dev := (d.setF Reg.SEC_LC 1 0 3).keepCold x true |>.setB Reg.LOG_STAT 31 true, cells := journalErase m
      fuses := [.revoke 0, .revoke 1, .revoke 2, .revoke 3, .lifeCycle 3] }
  else .ofDev d []

/-- PORn rises, 2 ms or more after the last rail has come into its range (R497, R498): the straps latch, the power state leaves OFF or KEEP, and the ROM starts. State.reset stands at a rise itself, with no step done. -/
def risePorn (s : State) (straps : Nat) : Effect :=
  let x := s.now
  let d := s.dev
  if !d.keep.main || (d.sys.porn && d.bootStep != 0) || (!d.sys.porn && decide (x < d.keep.mainSince + 2 * uMs)) then .ofDev d []
  else
    let old := d.power
    let d := { d with sys := { SysSt.init with pornAt := x, safeAt := x } }
    let d := (d.wrN Reg.SYS_STRAP (straps % 512 * 65536 + straps % 512)).setB Reg.SYS_RST_CAUSE 2 (old == 4)
    let d := ((d.wr Reg.PWR_WAKE_LO 0).wr Reg.PWR_WAKE_HI 0).setF Reg.PWR_STAT 2 0 1
    let d := if old = 0 || old = 4 then d.raise .per x 240 0xD200 [(1, old), (1, 1)] else d
    let e := ((d.keepFabric x).bootRom x s.otp).returnAgain x s.otp s.mem
    { e with cells := e.cells ++ ddrLost s.mem }

/-- PORN_RISE (R497). -/
def execPornRise (t : Nat) (straps : Nat) (s : State) : Out := actE t s fun s => risePorn s straps

/-- PORN_ASSERT (R498): the ball is held low for at least 10 µs. -/
def execPornAssert (t : Nat) (s : State) : Out := act t s fun _ d => d.pornLow 1

/-- CLOCK_STOP_RESTART (R413, R508): 1 ms after a lock is possible again, all but the retained state is reset, and start-up runs from step 4; once the fabric runs event
227 is raised with the recorded cause and time. -/
def execClockStopRestart (t : Nat) (s : State) : Out :=
  actE t s fun s =>
    let d := s.dev
    let x := s.now
    match d.clk.canLockAt with
    | none => .ofDev d []
    | some c =>
      if !d.clk.stopped || !d.sys.porn || x < c + uMs then .ofDev d []
      else
        let d := d.restartReset
        let data := [(1, d.fld Reg.CLK_STOP_REC 31 28), (8, d.rd64 Reg.CLK_STOP_TLO Reg.CLK_STOP_THI)]
        { dev := ((d.raise .per x 227 0xB103 data).keepFabric x).bootRom x s.otp, cells := ddrLost s.mem, fuses := [] }

/-! ### Steps 5 and 6 (R411, R416, R418, R421, R500, R506) -/

/-- REF_OK_WAIT_TIMEOUT (R500): the PLL takes the SRO. The count of the last window is a free value. -/
def execRefOkWaitTimeout (t : Nat) (s : State) : Out :=
  act t s fun x d => d.live fun d =>
    match d.sys.refWait with
    | none => d
    | some r =>
      if x < r || d.refOk || !d.sroOk then d
      else
        let f := d.fresh
        let d := (f.2.setB Reg.CLK_STAT 29 true).setB Reg.SYS_BOOT 26 true
        (d.logDirect x 14 0xE301 [(4, (Sys2Proof.Config.freeWord f.1).toNat)]).bootPll x

/-- PLL_LOCK_ACQUIRED (R416): no earlier than 200 µs after the start; the domains take their defaults and the soft start begins (R418, R421). -/
def execPllLockAcquired (t : Nat) (s : State) : Out :=
  act t s fun x d => d.live fun d =>
    if !d.clk.started || d.pllLock || x < d.clk.startAt + 200 * uUs then d
    else
      let d := (d.setB Reg.CLK_STAT 28 true).wrN Reg.CLK_PLL_STAT 3600000
      let d := (List.range 5).foldl (fun d k => d.wrN (Reg.CLK_DOM_CFG k) (nth 1 [8, 4, 5, 20, 160] k)) d
      let d := { d with clk := { d.clk with cpuKhz := 720000 } }
      d.blwRun 0 0 s.otp.startProf

/-- The end of a profile: of the soft start, device time starts from KT and step 6 ends; of the soft stop, the core is held in reset (R373, R472). -/
def Dev.blwEnd (d : Dev) (x owner : Nat) : Dev :=
  if owner = 0 then (d.timeStart x (d.ktNow x)).stepTo 6
  else if owner = 3 then d.keepHold x
  else d

/-- BELLOWS_UPDATE (R418): one µs of the profile, counted from the update before. -/
def execBellowsUpdate (t : Nat) (s : State) : Out :=
  act t s fun x d => d.live fun d =>
    match d.clk.blw with
    | none => d
    | some r =>
      if (match d.clk.blwAt with | none => false | some a => decide (x < a + uUs)) then d
      else
      let p := { d with clk := { d.clk with blwAt := some x } }.blwStep; if p.2 then p.1.blwEnd x r.owner else p.1

/-! ### Step 8: firmware (R464, R502, R503) -/

/-- Where the ROM puts the copy of a firmware container. -/
def fwBase : Nat := 0x08000000

/-- The address at which a firmware container in the copy starts: the first byte of its CODE section. -/
def fwEntryOf (bs : List Byte) : Nat :=
  match (dirOf bs).find? (fun e => e.typ == 0x10) with
  | none => fwBase
  | some e => fwBase + e.off

/-- Processor pair MP0 starts in a checked firmware container. -/
def Dev.fwStart (d : Dev) (x : Nat) (bs : List Byte) (warm : Bool) : Dev :=
  ((d.wrN Reg.SEC_FWVER (leAt bs 0x14 4 % 128)).pairStart x 0 (fwEntryOf bs)).setB Reg.SYS_CPU_STAT 7 warm

/-- A container of a slot has failed: the code and event 244 (R65). -/
def Dev.slotFail (d : Dev) (x slot code : Nat) : Dev := (d.setF Reg.IMG_RESULT 15 0 code).raise .per x 244 code [(1, slot), (2, code)]

/-- The slots in the order in which the ROM tries them (R66). -/
def Dev.slotOrder (d : Dev) : List Nat := if d.stBoot % 2 = 1 then [1, 0] else [0, 1]

/-- The code of a slot's firmware container. -/
def Dev.fwCode (d : Dev) (o : Otp) (m : Memory) (s : Nat) : Nat := trustCode (d.trustOf o m s 2) (m.container s 2)

/-- The code of a slot's image at start-up: step 14 waits for step 10, and so does what bank M's calibration decides (R502, R505). -/
def Dev.bootImageCode (d : Dev) (x : Nat) (o : Otp) (m : Memory) (s : Nat) : Nat :=
  let c := trustCode (d.trustOf o m s 1) (m.container s 1)
  if c ≠ 0 then c else (d.setB Reg.ADC_STAT 0 false).imageCode x (m.container s 1) none

/-- The code of a slot: its firmware, then its image where `both`. -/
def Dev.slotCode (d : Dev) (x : Nat) (o : Otp) (m : Memory) (both : Bool) (s : Nat) : Nat :=
  let c := d.fwCode o m s
  if c ≠ 0 || !both then c else d.bootImageCode x o m s

/-- The slots tried in order: what failed, what the ROM copied, and the slot that passed. -/
def bootTry (s : State) (both : Bool) : List Nat → Dev → List Host.Cell → Dev × List Host.Cell × Option Nat
  | [], d, cs => (d, cs, none)
  | k :: rest, d, cs =>
    let c := d.slotCode s.now s.otp s.mem both k
    let cs := cs ++ cellsAt fwBase (s.mem.container k 2)
    if c = 0 then (d, cs, some k) else bootTry s both rest (d.slotFail s.now k c) cs

/-- No slot has passed (R504). -/
def noSlot (s : State) (both : Bool) (d : Dev) : Dev :=
  let code (k : Nat) : Nat := d.slotCode s.now s.otp s.mem both k
  ((d.logDirect s.now 14 0xE303 [(2, code 0), (2, code 1)]).setF Reg.SYS_BOOT 11 8 8).bootHalt

/-- Secure boot, step 8, and the start of step 9 (R464, R502, R505). -/
def secureBoot (s : State) (d : Dev) : Effect :=
  let r := bootTry s true d.slotOrder d []
  match r.2.2 with
  | none => { dev := noSlot s true r.1, cells := r.2.1, fuses := [] }
  | some k =>
    let d := (r.1.setF Reg.SYS_BOOT 27 27 k).fwStart s.now (s.mem.container k 2) false
    let d := (d.setF Reg.SYS_BOOT_MS 31 16 (d.bootMs s.now)).stepTo 8
    let d := { d with sys := { d.sys with bootSlot := k, bootImage := some (imageOf (s.mem.container k 1)) } }
    { dev := d.mcalStart s.now, cells := r.2.1, fuses := [] }

/-- What the ROM does after step 7, by the life cycle and ST_BOOT (R465, R502 to R504). -/
def bootSource (s : State) (d : Dev) : Effect :=
  if d.lc = 0 || d.lc = 3 then .ofDev d.bootHalt []
  else if d.stBoot = 2 then
    let d := d.logDirect s.now 14 0xE304 []
    .ofDev { d with sys := { d.sys with recovery := true, uartLast := none, bootOver := true } } []
  else if d.stBoot = 3 then .ofDev d.bootHalt []
  else secureBoot s d

/-- DDR_TRAINING_DONE (R501): step 7 ends; after two failed attempts the boot goes on without DDR. The failing byte lane is a free value. -/
def execDdrTrainingDone (t : Nat) (ok : Bool) (gib : Nat) (s : State) : Out :=
  actE t s fun s => liveE s fun s =>
    let d := s.dev
    if d.bootStep != 6 then .ofDev d []
    else
      let d := (d.setB Reg.XSP_CFG 0 (Sys2Proof.Config.octal 0)).setB Reg.XSP_CFG 1 (Sys2Proof.Config.octal 1)
      let d :=
        if ok then (d.setB Reg.DDR_STAT 31 true).setF Reg.DDR_STAT 3 0 gib
        else
          let f := d.freshByte
          (f.2.setB Reg.SYS_BOOT 25 true).logDirect s.now 14 0xE302 [(1, 2), (1, f.1)]
      bootSource s (d.stepTo 7)

/-! ### Steps 9 and 10 (R502, R505) -/

/-- Step 10: the image is loaded (in UART recovery there is none, and the step is skipped, R503); its registers judged by bank M's calibration, its placement by step 14. -/
def Dev.bootLoad (d : Dev) (x : Nat) : Dev :=
  match d.sys.bootImage with
  | none => d.stepTo 9
  | some im =>
    let d := { d.stepTo 9 with img := { d.img with slot := d.sys.bootSlot }, sys := { d.sys with bootImage := none } }
    let d := if (d.stageImage x im).imgCfgOk im.regs then d.fullLoad x im d.sys.bootSlot else d.imgReject x 0xD10B
    ({ d.stepTo 10 with sys := { d.sys with bootOver := true } }).readyNote x

/-- MCAL_DONE (R225): bank M's calibration ends; at start-up steps 9 and 10 follow, unless KEEP has abandoned them (R509). -/
def execMcalDone (t : Nat) (z0 r0 z1 r1 : Int) (s : State) : Out :=
  act t s fun x d => d.live fun d =>
    match d.adc.mcalEnd with
    | none => d
    | some e =>
      if x < e then d
      else
        let d := d.mcalDone x [calFactors z0 r0, calFactors z1 r1]
        if d.bootStep = 8 && d.power = 1 then d.bootLoad x else d

/-! ### Warm restarts (R485, R486) -/

/-- A warm restart of processor pair MP0: the firmware part of step 8, and nothing outside the processors, the L2 cache and the interrupt controller; the contexts of MP0
start with nothing enabled. -/
def warmStart (s : State) (d : Dev) : Effect :=
  let d := d.setCpu fun c => { c with
    warmAt := none, enab := c.enab.filter (fun (p : Nat × Nat) => decide (64 ≤ p.1)), thr := upd (upd c.thr 0 (fun _ => 0)) 1 (fun _ => 0) }
  let d := (d.pairStart s.now 0 0).setB Reg.SYS_CPU_STAT 7 true
  if d.lc = 0 || d.lc = 3 then .ofDev (d.setB Reg.SYS_BOOT 28 true) []
  else
    let r := bootTry s false d.slotOrder d []
    match r.2.2 with
    | none => { dev := noSlot s false r.1, cells := r.2.1, fuses := [] }
    | some k => { dev := r.1.fwStart s.now (s.mem.container k 2) true, cells := r.2.1, fuses := [] }

/-- A write of 1 to SYS_CPU_CTRL.RUN0: ignored while MP0 runs. -/
def run0Req (s : State) (d : Dev) : Effect := if d.pairRuns 0 then .ofDev d [] else warmStart s d

/-- RUN0 (R486). -/
def execRun0 (t : Nat) (s : State) : Out := actE t s fun s => liveE s fun s => run0Req s s.dev

/-- WARM_RESTART (R486): 1 ms after a pair fault with no other pair running. -/
def execWarmRestart (t : Nat) (s : State) : Out :=
  actE t s fun s => liveE s fun s =>
    match s.dev.cpu.warmAt with
    | none => .ofDev s.dev []
    | some w => if s.now < w || s.dev.pairRuns 0 then .ofDev s.dev [] else warmStart s s.dev

/-! ### UART recovery (R503) -/

/-- UART_RECOVERY_BEACON (R503): "YLRV" and SYS_ID, every second. -/
def execUartRecoveryBeacon (t : Nat) (s : State) : Out :=
  act t s fun x d => d.live fun d =>
    let due := match d.sys.uartLast with | none => true | some l => decide (l + uS ≤ x)
    if d.sys.recovery && due then
      { d with sys := { d.sys with uartLast := some x }, uartOut := [0x59#8, 0x4C#8, 0x52#8, 0x56#8] ++ leBytes 4 (d.rd Reg.SYS_ID).toNat }
    else d

/-- UART_RECOVERY_CONTAINER (R503): a container of 256 to 0x3F_F000 bytes, copied and checked by steps 2 to 11; it starts, or its code is answered. -/
def execUartRecoveryContainer (t : Nat) (bytes : List Byte) (s : State) : Out :=
  actE t s fun s => liveE s fun s =>
    let d := s.dev
    let n := bytes.length
    if !d.sys.recovery || n < 256 || 0x3FF000 < n then .ofDev d []
    else
      let T : Trust := { kind := 2, commit := none, sent := n, keys := d.trustKeys s.otp, cnt := d.fld Reg.SEC_CNT 22 16 }
      let c := trustCode T bytes
      let d := { d with uartOut := leBytes 2 c, sys := { d.sys with uartLast := none } }
      let d :=
        if c ≠ 0 then d
        else
          let d := (d.setB Reg.SYS_BOOT 29 true).fwStart s.now bytes false
          let d := (d.setF Reg.SYS_BOOT_MS 31 16 (d.bootMs s.now)).stepTo 8
          { d with sys := { d.sys with recovery := false } }.mcalStart s.now
      { dev := d, cells := cellsAt fwBase bytes, fuses := [] }

/-- UART_RECOVERY_GAP_TIMEOUT (R503): the transfer is abandoned, and the ROM sends again. -/
def execUartRecoveryGapTimeout (t : Nat) (s : State) : Out :=
  act t s fun _ d => d.live fun d => if d.sys.recovery then { d with sys := { d.sys with uartLast := none } } else d

/-! ### Supplies (R425, R437, R453, R470) -/

/-- MAIN_SUPPLY_LOSS (R470): a main rail leaves its range; PORn falls, the power state is KEEP, the Keep domain runs from its stores, and system SRAM and DDR are lost. -/
def execMainSupplyLoss (t : Nat) (s : State) : Out :=
  actE t s fun s =>
    let d := s.dev
    let lost := ddrLost s.mem ++ sramLost s.mem
    if !d.keep.main then { dev := d, cells := lost, fuses := [] }
    else { dev := ((d.pornLow 0).keepLoss s.now).setF Reg.PWR_STAT 2 0 4, cells := lost, fuses := [] }

/-- MAIN_SUPPLY_RETURN (R453): the rails are in range again; PSU_EN is high. -/
def execMainSupplyReturn (t : Nat) (s : State) : Out :=
  act t s fun x d =>
    if d.keep.main then d
    else
      let d := d.keepReturn x
      { d with sec := { d.sec with psuEn := true } }

/-- CQ_THRESHOLD_REACHED (R437, R470): without main supplies the Keep domain comes alive, cold. -/
def execCqThresholdReached (t : Nat) (s : State) : Out :=
  act t s fun x d =>
    if d.keep.main || d.keep.alive then d
    else (d.keepCold x false).setF Reg.PWR_STAT 2 0 4

/-- CQ_COLLAPSE (R437): below 1.8 V the Keep domain loses its content, PSU_EN and the wake time with it. A burst in progress leaves free bytes in its sector. -/
def execCqCollapse (t : Nat) (s : State) : Out :=
  actE t s fun s =>
    let d := s.dev
    if d.keep.main || !d.keep.alive then { dev := d, cells := [], fuses := [] }
    else
      let f : List Byte × Dev := if d.keep.burst.isSome then d.freshBytes 4064 else ([], d)
      let cells := cellsAt (d.sectorAt (d.fld Reg.LOG_JNEXT 10 0)) f.1
      let d := (f.2.keepCold s.now false).setF Reg.PWR_STAT 2 0 0
      let d := (d.wr Reg.PWR_WAKE_LO 0).wr Reg.PWR_WAKE_HI 0
      { dev := { d with keep := { d.keep with alive := false }, sec := { d.sec with psuEn := true } }, cells := cells, fuses := [] }

end Sys2Proof.Machine
end

