-- ==== Sys2Proof/Machine/Deliver.lean ====
section
/-! DEFINITION. Machine/Deliver.lean: delivery of events to their destinations (R39, R40). -/

namespace Sys2Proof.Machine

/-- A Hearth trigger latch counts an event up to 255 and keeps the first one's sequence number. -/
def Dev.htLatch (d : Dev) (k seq : Nat) : Dev :=
  { d with anv := { d.anv with ht := updN 32 (0, 0) d.anv.ht k (fun p => if p.1 = 0 then (1, seq) else (Nat.min (p.1 + 1) 255, p.2)) } }

/-- A recorder trigger (R456): one delivered in the fc of a T0 belongs to the next sample. -/
def Dev.recTrig (d : Dev) (x k : Nat) : Dev :=
  if !d.bit Reg.REC_CTRL k then d
  else if d.running && decide (d.fcOf x = 0) then { d with rec_ := { d.rec_ with trigNext := d.rec_.trigNext ||| 2 ^ k } }
  else { d with rec_ := { d.rec_ with trig := d.rec_.trig ||| 2 ^ k } }

/-- An event output is driven for 50 fc; the banks whose urgent request it is take it (R39, R226). -/
def Dev.evoPulse (d : Dev) (x k : Nat) : Dev :=
  let d := { d with anv := { d.anv with evoEnd := updN 8 0 d.anv.evoEnd k (fun _ => x + 50 * uFc) } }
  (List.range 5).foldl (fun d b =>
    let r := Reg.ADC_CTRL b
    if d.bit r 29 && d.fld r 28 26 = k then d.urgReq x b (d.fld (Reg.ADC_URG b) 3 0) else d) d

/-- What one destination does with an event delivered at `x` (R39). Quench requests present on the 4th PWM clock after the end of that fc (R317). -/
def Dev.deliverTo (d : Dev) (x : Nat) (e : Ev) (k : Nat) : Dev :=
  let pres := presentAt (x + uFc)
  if k < 16 then d.tripLatch x pres k
  else if k < 48 then d.htLatch (k - 16) e.seq
  else if k < 56 then d.recTrig x (k - 48)
  else if k < 62 then d.quenchReq x pres (k - 56) 1
  else if k < 70 then d.evoPulse x (k - 62)
  else if k = 70 then d.irq (e.src + 1)
  else if k = 71 then
    if d.keep.alive then d.logPut x { time := e.stamp, seq := e.seq, src := e.src, code := e.code, data := packData e.data } else d
  else if k = 72 then d.hoStart x 1
  else if k = 73 then { d with anv := { d.anv with derateReq := true } }
  else d

/-- The event delivered next: they are delivered in sequence order. -/
def nextEv (es : List Ev) : Option Ev := minBy? (fun e => e.due) es

/-- An event reaches every destination of its mask. -/
def Dev.deliver (d : Dev) (e : Ev) : Dev :=
  let d := { d with anv := { d.anv with evs := d.anv.evs.erase e } }
  (onesBelow 74 e.dst).foldl (fun d k => d.deliverTo e.due e k) d

/-- EVENT_DELIVERY (R39): 2 fc after its arrival the oldest event is delivered, while the fabric domain runs (R38). -/
def execEventDelivery (t : Nat) (s : State) : Out :=
  act t s fun x d => match nextEv d.anv.evs with | none => d | some e => if d.accepts && decide (e.due ≤ x) then d.deliver e else d

end Sys2Proof.Machine
end

