-- ==== Sys2Proof/Machine/FrameT0.lean ====
section
/-! DEFINITION. Machine/FrameT0.lean: the course of a frame: T0 with all that happens at it, the deliveries of Acquire, the starts and ends of tasks, and the
end of Collect (R13 to R30, R39, R80, R81, R102 to R104). -/

namespace Sys2Proof.Machine

/-! ### T0 -/

/-- The instant of the next T0, if one is to come: the end of Guard, or the first T0 after a load (R25, R28). -/
def Dev.t0Due (d : Dev) : Option Nat := if d.running then some d.frm.nextT0 else d.frm.firstT0

/-- FRM_LAT at a frame boundary (R23). -/
def Dev.latT0 (d : Dev) : Dev :=
  let last := d.frm.lastFc
  let d := d.setF Reg.FRM_LAT 31 16 last
  if d.fld Reg.FRM_LAT 15 0 < last then d.setF Reg.FRM_LAT 15 0 last else d

/-- ALIGNED and its events, for an error of `e` in 2^-32 ns in frame `n` (R26, R538). -/
def Dev.alignT0 (d : Dev) (x n : Nat) (e : Int) : Dev :=
  if !d.alignEn then { d with frm := { d.frm with alignRun := 0 } }
  else
    let run := if decide (e.natAbs ≤ 2 * 2 ^ 32) then d.frm.alignRun + 1 else 0
    let d := { d with frm := { d.frm with alignRun := run } }
    let data := [(2, ofSigned 16 (errNs e)), (4, n)]
    if d.bit Reg.FRM_STAT 4 then
      if d.fld Reg.FRM_ERRLIM 15 0 * 2 ^ 32 < e.natAbs then ((d.setB Reg.FRM_STAT 4 false).setB Reg.FRM_STAT 5 true).raise .fabric x 208 0x9000 data else d
    else if 16 ≤ run then (d.setB Reg.FRM_STAT 4 true).raise .fabric x 209 0x9001 data
    else d

/-- The frame generator at the T0 of frame `n` (R23 to R26, R28 to R30). -/
def Dev.frmT0 (d : Dev) (x n : Nat) : Dev :=
  let d := if d.running then d.latT0 else d
  let d := ((d.setB Reg.FRM_STAT 3 true).wrN Reg.FRM_COUNT n).wr64 Reg.FRM_T0_LO Reg.FRM_T0_HI (d.ns x % 2 ^ 64)
  let tref := d.frm.trefNew.getD d.frm.tref
  let e := alignErr (d.time2 x) tref d.P
  let c := if d.alignEn then guardCorr e else 0
  let next := x + ((d.P : Int) - c).toNat * uFc
  let d := { d.setF Reg.FRM_ERR 15 0 (ofSigned 16 (errNs e)) with
    frm := { d.frm with
      t0 := x, nextT0 := next, firstT0 := none, tref := tref, trefNew := none, lastFc := 0, acqDone := false, colDone := false, delivered := [], lastT0 := x } }
  d.alignT0 x n e

/-- The first T0 after a load: the pins leave ST_SAFE for the pair hold and the quench patterns (R28, R328, R498). -/
def Dev.firstT0 (d : Dev) (x : Nat) : Dev :=
  let d := { d with sys := { d.sys with safe := false } }
  let d := d.setHold (!d.owner)
  (List.range 6).foldl (fun d b => if d.quenched b then (d.brChans b).foldl (fun d n => if d.legLost n then d else d.patStart x b n) d else d) d

/-- What the graph's machinery does at the T0 of frame `n`: ownership passes; then in the order of R128 recoveries, parameters and swaps and a hot update's switch,
blocks switched, new migrations and tests; after that the frame's tasks stand. -/
def Dev.graphT0 (d : Dev) (x n : Nat) (first : Bool) (bad : List Nat) : Dev :=
  let d := (d.migT0 x n).hrtT0
  let d := if first then d else d.ratesT0
  let d := d.recovT0 x n bad
  let d := (((d.swapEqual x n).lpT0 x n).hotT0 x n).blkSwitch x n
  let d := (((d.slowT0 x n).thermT0 x n).testT0 x n).rotT0 x
  (d.mirrorT0 n).tmpT0

/-- What the measurement, gate and output blocks do at a T0. -/
def Dev.blocksT0 (d : Dev) (x : Nat) (first : Bool) : Dev := (((((d.adcT0 x).cmpT0).encT0 x).gdpT0 x).toutT0 x).sdmT0 x first

/-- A T0 at the instant `x` (R25): `ecc` are the memory errors that the frame's scrub finds, `bad` the blocks whose newest checkpoint fails its CRC. -/
def Dev.frameT0 (d : Dev) (x : Nat) (ecc : List EccError) (bad : List Nat) : Dev :=
  let first := !d.running
  let old := d.frm.t0
  let n := if first then 0 else (d.frame + 1) % 2 ^ 32
  let d := d.frmT0 x n
  let d := if first then d.firstT0 x else d
  let d := d.graphT0 x n first bad
  let d := d.hrtDue d.heldTasks
  let d := d.blocksT0 x first
  let d := d.setTwn fun q => { q with ckptBad := bad }
  let d := (d.twnT0 x n (if first then none else some old)).fullWaitT0 x
  let d := (d.recSample x n).recDrop n
  (ecc.foldl (fun d q => d.eccError x q) d).readyNote x

/-- FRAME_T0 (R25). -/
def execFrameT0 (ecc : List EccError) (ckptBad : List Nat) (s : State) : Out :=
  act (s.dev.t0Due.getD 0) s fun _ d => d.liveIn 6 fun d => match d.t0Due with | none => d | some x => d.frameT0 x ecc ckptBad

/-! ### Acquire (R16, R234) -/

/-- The blocks of a type whose first parameter names a channel, if `ch` is one; they deliver in the frames in which they run. -/
def Dev.inputBlks (d : Dev) (typ : Nat) (ch : Option Nat) : List Nat :=
  (List.range d.hrt.graph.blks.length).filter (fun j =>
    let b := d.blkAt j
    b.typ == typ && d.blkRuns j && (match ch with | none => true | some c => (nth 0 (d.blkWords 0 b) 0).toNat == c))

/-- Input blocks write their outputs; a value of none leaves the output as it was. -/
def Dev.inputPut (d : Dev) (js : List Nat) (vs : List (Option Word)) : Dev :=
  let d := js.foldl (fun d j => d.putOuts (d.blkAt j) vs) d
  { d with frm := { d.frm with delivered := d.frm.delivered ++ js } }

/-- A measurement or input block delivers its sample. -/
def Dev.deliverInput (d : Dev) (x : Nat) (src : InputSample) : Dev :=
  match src with
  | .sdi n bits spareDiffers =>
    match d.sdiSample n bits with
    | none => d
    | some (v, flags, bad) =>
      let d := (d.inputPut (d.inputBlks 0x4001 (some n)) [some v, some (BitVec.ofNat 32 flags)]).wr (Reg.SDM_CH_DATA n) v |>.sdiTaken n bits
      if d.bit (Reg.SDM_CH_CFG n) 29 then d
      else
        let d := d.mtrSdi n (d.sdiCentre n d.frm.t0) v (bad || flags.testBit 0)
        if spareDiffers && !bad then d.spareMismatch x n else d
  | .adc c =>
    let r := d.adcSample c
    match r.1 with
    | none =>
      match r.2.1 with
      | none => d
      | some u =>
        let js := d.inputBlks 0x4002 (some c)
        (js.foldl (fun d j => d.putOuts (d.blkAt j) [none, some u, some (BitVec.ofNat 32 r.2.2)]) d).adcTaken c
    | some v => (d.inputPut (d.inputBlks 0x4002 (some c)) [some v.1, r.2.1, some (BitVec.ofNat 32 r.2.2)]).adcTaken c
  | .cmp n => d.inputPut (d.inputBlks 0x4003 (some n)) [some (BitVec.ofNat 32 (b2n (d.cmpF n) + 2 * b2n (d.bit (Reg.CMP_LATCH (n / 32)) (n % 32))))]
  | .enc k =>
    let r := d.encDeliver k
    let js := r.2.inputBlks 0x4006 (some k)
    let d := r.2.inputPut js (r.1.map some)
    if js.isEmpty then d else d.encTaken k
  | .bridge b => d.inputPut (d.inputBlks 0x4009 (some b)) ((nth [] d.gdp.brIn b).map some)
  | .temper => d.inputPut (d.inputBlks 0x400A none) (d.tmp.inT0.map some)

/-- INPUT_DELIVERY (R16). -/
def execInputDelivery (t : Nat) (src : InputSample) (s : State) : Out :=
  act t s fun x d => d.liveIn 5 fun d => if d.running && !d.frm.acqDone then d.deliverInput x src else d

/-- The end of Acquire: an input that has not delivered keeps its value (R16). -/
def Dev.acquireEnd (d : Dev) : Dev :=
  let late := (List.range d.hrt.graph.blks.length).any (fun j => isInput (d.blkAt j).typ && d.blkRuns j && !d.frm.delivered.contains j)
  let d := if late then d.setB Reg.FRM_STAT 7 true else d
  { d with frm := { d.frm with acqDone := true } }.twnAcquire

/-- ACQUIRE_END (R16). -/
def execAcquireEnd (s : State) : Out :=
  act (s.dev.fcAt 900) s fun _ d => d.liveIn 6 fun d => if d.running && !d.frm.acqDone then d.acquireEnd else d

/-! ### Tasks (R74 to R76, R80, R81, R114) -/

/-- Engine `e` starts task `i`: corrected errors cost 1 fc each, an uncorrectable one stops the engine (R75, R76). -/
def Dev.startTask (d : Dev) (F : GF) (x e i stretch : Nat) (ecc : List EccError) : Dev :=
  let own := ecc.filter (fun q => q.engine == e)
  match own.find? (fun q => !q.correctable) with
  | some q => d.engFault x q
  | none => (own.foldl (fun d q => d.eccCorrected x q) d).taskStart F x e i (stretch + own.length) (d.isTarget e)

/-- TASK_START (R80): the engine's next task starts if it has every input that is written in this frame. -/
def execTaskStart (t : Nat) (e : Fin 64) (stretch : Nat) (ecc : List EccError) (s : State) : Out :=
  act t s fun x d => d.liveIn 5 fun d =>
    let d := d.hrtSettle x
    match d.mayStart x e.val with
    | none => d
    | some i => if (d.missing d.gf x i).isSome then d else d.startTask d.gf x e.val i stretch ecc

/-- A start with an input missing is reported, but for a migration's target (R81). -/
def Dev.staleStart (d : Dev) (x e : Nat) (m : Nat × Nat) : Dev :=
  if d.isTarget e then d
  else
    let d := (d.setB Reg.HRT_STAT 3 true).inc Reg.HRT_STALE_CNT 31 0
    { d with hrt := { d.hrt with recFlags := d.hrt.recFlags ||| 2 } }.raise .fabric x 165 0x4105 [(4, (d.blkAt m.1).id), (2, m.2)]

/-- LATEST_START_REACHED (R81): from fc P − 600 − c_task on the next task starts with what is there. -/
def execLatestStartReached (t : Nat) (e : Fin 64) (stretch : Nat) (ecc : List EccError) (s : State) : Out :=
  act t s fun x d => d.liveIn 5 fun d =>
    let d := d.hrtSettle x
    match d.mayStart x e.val with
    | none => d
    | some i =>
      let F := d.gf
      if d.P ≤ d.fcOf x + 600 + d.taskCost F i then
        let d := match d.missing F x i with | none => d | some m => d.staleStart x e.val m
        d.startTask F x e.val i stretch ecc
      else d

/-- TASK_FINISH (R114): blocks whose runs have ended take effect, and a task that has run its last block is finished and checkpointed. -/
def execTaskFinish (t : Nat) (e : Fin 64) (s : State) : Out :=
  act t s fun x d => d.liveIn 5 fun d => if (d.engAt e.val).run.isSome then d.hrtSettle x else d

/-! ### The end of Collect (R102 to R104, R117, R118, R120, R122, R154) -/

/-- The end of Collect, at `x`, the first instant of fc P − 88; requests rise in the fc before. `bad` are the migrations whose packets differ. -/
def Dev.collectEnd (d : Dev) (x : Nat) (bad : List Nat) : Dev :=
  let r := x - uFc
  let d := d.hrtSettle x
  let late := d.lateNow
  let d := d.migsCollect r late bad
  let d := (((((d.discardPosts r).commitStates late).reportLate r late).finishFc late).raiseReactions r late)
  let d := (List.range 64).foldl (fun d e => d.engCollect r e) d
  let d := d.recForm d.frame
  let d := { d with frm := { d.frm with colDone := true } }
  (d.stageTry x).twnCollect x

/-- COLLECT_END (R102). -/
def execCollectEnd (cmpBad : List Nat) (s : State) : Out :=
  act (s.dev.fcAt (s.dev.P - 88)) s fun _ d => d.liveIn 5 fun d =>
    if d.running && !d.frm.colDone then d.collectEnd (d.fcAt (d.P - 88)) cmpBad else d

end Sys2Proof.Machine
end

