-- ==== Sys2Proof/Machine/RegWrite.lean ====
section
/-! DEFINITION. Machine/RegWrite.lean: a 32-bit bus write (R6 to R9, R492): which block it reaches, and what each block outside R51 does with it. -/

namespace Sys2Proof.Machine

/-- A write that the address map refuses with an access fault of the bus. -/
def Dev.accessFault (d : Dev) : Dev := { d with busError := true }

/-! ### The address map (R492) -/

/-- What an address is. -/
inductive Region where
  /-- In no range, or in one that takes no writes: the boot ROM, the xSPI window (R493). -/
  | none_
  /-- System SRAM or fitted DDR. -/
  | ram
  /-- Hart timers. -/
  | tmr
  /-- The interrupt controller. -/
  | plic
  /-- A register block. -/
  | block
  deriving DecidableEq, Repr

/-- The region of four bytes from an address. -/
def Dev.region (d : Dev) (a : Nat) : Region :=
  let within (lo len : Nat) : Bool := decide (lo ≤ a) && decide (a + 4 ≤ lo + len)
  if within 0x08000000 0x800000 || d.inDdr a 4 then .ram
  else if within 0x03000000 0x10000 then .tmr
  else if within 0x04000000 0x400000 then .plic
  else if within 0x10000000 0x60000 || within 0x10100000 0x100000 || within 0x10200000 0x80000 || within 0x10300000 0x70000 || within 0x10400000 0x10000 then .block
  else .none_

/-! ### The blocks outside R51 -/

/-- A write to the CLK block (R404, R408, R411, R415 to R420). -/
def Dev.busClk (d : Dev) (x a : Nat) (v : Word) : Dev :=
  match arrIx a (Reg.CLK_DOM_CFG 0) 5 4, arrIx a (Reg.CLK_BAND 0) 64 4 with
  | some k, _ => d.wrDom x k v
  | _, some i => d.wrBand i v
  | _, _ =>
    if a = Reg.CLK_CTRL then (if tbit v 0 then d.refReturn x else d)
    else if a = Reg.CLK_GATE then d.wrGate x v
    else if a = Reg.CLK_BLW_CTRL then d.wrBlwCtrl x v
    else d.rw a v

/-- A write to the hart timers (R483): the timer lines follow at once. -/
def Dev.busTmr (d : Dev) (x a : Nat) (v : Word) : Dev := (d.rw a v).mtimers x

/-- A write to the SYS block outside SYS_CPU_CTRL (R485, R487). -/
def Dev.busSys (d : Dev) (x a : Nat) (v : Word) : Dev :=
  match arrIx a (Reg.SYS_WDT 0) 2 4 with
  | some p => d.wrWdt x p v
  | none => d.rw a v

/-- A write to a SEC register that blows no fuse (R463, R467, R471, R474). The first words of SEC_KSTAGE lie at the last addresses of DBG_RESP: a write there
stages both (DESIGN CHOICE, log entry 80). -/
def Dev.busSec (d : Dev) (x a : Nat) (v : Word) (o : Otp) : Dev :=
  let r := arrIx a (Reg.DBG_RESP 0) 24 4
  let k := arrIx a (Reg.SEC_KSTAGE 0) 24 4
  if r.isSome || k.isSome then
    let d := match r with | some i => d.wrSecStage true i v | none => d
    match k with | some i => d.wrSecStage false i v | none => d
  else if a = Reg.SEC_CNT_CTRL then
    let d := if tbit v 0 then d.advance x false else d
    if tbit v 1 then d.advance x true else d
  else if a = Reg.PWR_CTRL then d.wrPwrCtrl x v o
  else d.rw a v

/-- A write of DBG_REQ: its plain fields, then END, VERIFY and START (R474, R476). -/
def busDbgReq (s : State) (d : Dev) (v : Word) : Effect :=
  let d := d.rw Reg.DBG_REQ v
  let d := if tbit v 29 then d.dbgNone s.now else d
  let d := if tbit v 30 then d.dbgVerifyReq s.now else d
  if tbit v 31 then
    let n := d.freshBytes 32
    dbgStartReq s n.2 v n.1
  else .ofDev d []

/-- A write to the HRT block: the Hearth, the collector, the Placer, parameter sets and the image loader. -/
def Dev.busHrt (d : Dev) (x a : Nat) (v : Word) : Dev :=
  if a = Reg.HRT_BLKCMD then (if tbit v 0 == tbit v 1 then d else d.blkCmd (tbit v 1))
  else if a = Reg.COL_WORDS then (if tbit v 31 then d.setF Reg.COL_WORDS 29 16 0 else d)
  else if a = Reg.PLC_CTRL then d.wrPlcCtrl x v
  else if a = Reg.PLC_ST_INTERVAL then (d.rw a v).rotRestart x
  else if a = Reg.PLC_ST_REQ then (if tbit v 8 then d.testRequest x (bitsOf v 5 0) true else d)
  else if a = Reg.LP_PDATA then d.wrPdata x v
  else if a = Reg.LP_SWAP_CMD then d.swapCmd (d.frameOf x) (bitsOf v 15 0)
  else if a = Reg.IMG_CTRL then
    let d := d.rw a v
    let d := if tbit v 3 then d.hotAbort x else d
    let d := if tbit v 1 then d.fullLoadReq x else d
    if tbit v 0 then d.hotLoadReq else d
  else d.rw a v

/-- A write to the SAF block while its supply is present (R402, R403). -/
def Dev.busSaf (d : Dev) (x a : Nat) (v : Word) : Dev :=
  if !d.saf.vioF then d
  else if a = Reg.SAF_CTRL then d.wrSafCtrl x v
  else if a = Reg.SAF_ITEM_CMD then (if tbit v 0 then d.safStageReq x else d)
  else if (arrIx a (Reg.SAF_PW 0) 8 4).isSome then d.wr a v
  else d.rw a v

/-- A write to the LNK block (R346, R357, R381). -/
def Dev.busLnk (d : Dev) (x a : Nat) (v : Word) : Dev :=
  match arrIx a (Reg.LNK_LN_CFG 0) 4 32 with
  | some l => d.wrLnkCfg x l v
  | none => d.rw a v

/-- A write of a register of one descriptor ring (R364, R366, R381). -/
def Dev.busRing (d : Dev) (p : Nat) (tx : Bool) (r a : Nat) (v : Word) : Dev :=
  let q := ringRegs p tx r
  if a = q.lo || a = q.hi || a = q.len then d.wrRingCfg p tx r a v
  else if a = q.tail then d.wrTail p tx r v
  else if a = q.ctrl then d.wrRun p tx r v
  else d.rw a v

/-- A write to the ETH block (R360 to R367). -/
def Dev.busEth (d : Dev) (x a : Nat) (v : Word) : Dev :=
  match arrIx (a / 1024 * 1024) (Reg.ETH_P_CTRL 0 / 1024 * 1024) 2 1024 with
  | none => d
  | some p =>
    match arrIx (a / 32 * 32) (Reg.ETH_P_TXR_BASE_LO p 0) 2 32, arrIx (a / 32 * 32) (Reg.ETH_P_RXR_BASE_LO p 0) 2 32 with
    | some r, _ => d.busRing p true r a v
    | _, some r => d.busRing p false r a v
    | _, _ =>
      if a = Reg.ETH_P_CTRL p then d.wrEthCtrl x p v
      else if a = Reg.ETH_P_STAT p then (d.rw a v).ethAttn x p
      else if a = Reg.ETH_P_MAXLEN p then d.wrMaxLen p v
      else d.rw a v

/-- A write of FRM_CTRL: ALIGN_EN, then HARD_ALIGN and CLR_LAT (R23, R26, R27). -/
def Dev.busFrmCtrl (d : Dev) (v : Word) : Dev :=
  let d := d.wrAlignEn (tbit v 1)
  let d := if tbit v 0 then d.hardAlign else d
  if tbit v 2 then d.setF Reg.FRM_LAT 15 0 0 else d

/-- A write of FRM_ERRLIM (R26): a limit outside 4 to 25,000 ns is refused. -/
def Dev.busErrlim (d : Dev) (v : Word) : Dev :=
  let n := bitsOf v 15 0
  if n < 4 || decide (25000 < n) then d.setB Reg.FRM_STAT 2 true else d.rw Reg.FRM_ERRLIM v

/-- A write to the frame generator's registers. -/
def Dev.busFrm (d : Dev) (a : Nat) (v : Word) : Dev :=
  if a = Reg.FRM_CTRL then d.busFrmCtrl v
  else if a = Reg.FRM_PHASE_LO then d.wrPhaseLo v
  else if a = Reg.FRM_PHASE_HI then d.wrPhaseHi v
  else if a = Reg.FRM_ERRLIM then d.busErrlim v
  else d.rw a v

/-- A write of TIM_CTRL: HOLD, then SNAP and STEP (R371, R372, R374). -/
def Dev.busTimCtrl (d : Dev) (x : Nat) (v : Word) : Dev :=
  let d := d.timHold x (tbit v 0)
  let d := if tbit v 1 then d.timSnap x else d
  if tbit v 2 then d.timStep x else d

/-- A write of CAP_STAT (R379): OVF clears, POP removes the oldest entry. -/
def Dev.busCapStat (d : Dev) (k a : Nat) (v : Word) : Dev :=
  let d := d.rw a v
  if tbit v 31 then d.capPop k else d

/-- A write to the TIM block (R369 to R381). -/
def Dev.busTim (d : Dev) (x a : Nat) (v : Word) : Dev :=
  if Reg.FRM_CTRL ≤ a then d.busFrm a v
  else
    match arrIx (a / 32 * 32) (Reg.TIM_TRG_CFG 0) 4 32, arrIx a (Reg.TIM_CAP_STAT 0) 4 32 with
    | some k, _ => if a = Reg.TIM_TRG_CFG k then d.wrTrgCfg x k v else d.wrTrgOther k a v
    | _, some k => d.busCapStat k a v
    | _, _ =>
      if a = Reg.TIM_CTRL then d.busTimCtrl x v
      else if a = Reg.TIM_INC_FRAC then d.wrIncFrac v
      else if a = Reg.TIM_INC_NS then d.timCommit x v
      else d.rw a v

/-- A write to the XSP block (R494). -/
def Dev.busXsp (d : Dev) (x a : Nat) (v : Word) : Dev := if a = Reg.XSP_CMD then d.xspStart x v else d.rw a v

/-- A write to a register block, by block: what changes the device only. -/
def Dev.busBlock (d : Dev) (x a : Nat) (v : Word) (o : Otp) : Dev :=
  match a / 0x10000 with
  | 0x1000 => d.busSys x a v
  | 0x1001 => d.busClk x a v
  | 0x1003 => d.wrLog x a v
  | 0x1004 => d.busSec x a v o
  | 0x1010 => d.busHrt x a v
  | 0x1012 => d.busHrt x a v
  | 0x1013 => d.busHrt x a v
  | 0x101F => d.busHrt x a v
  | 0x1027 => d.busSaf x a v
  | 0x1030 => d.busLnk x a v
  | 0x1031 => d.busEth x a v
  | 0x1032 => d.busTim x a v
  | 0x1034 => d.rw a v
  | 0x1035 => d.busXsp x a v
  | _ => d.busImg false x a v

/-- A write to a register block. Four registers do more than change the device: they blow fuses or load firmware. -/
def busReg (s : State) (a : Nat) (v : Word) : Effect :=
  let d := s.dev
  let x := s.now
  if a = Reg.SEC_LC_CTRL then let r := d.lcRequest x v; .ofDev r.1 r.2
  else if a = Reg.SEC_KEY_CTRL then let r := d.wrKeyCtrl x v; .ofDev r.1 r.2
  else if a = Reg.DBG_REQ then busDbgReq s d v
  else if a = Reg.SYS_CPU_CTRL then
    let d := if tbit v 1 then d.run1 x else d
    if tbit v 0 then run0Req s d else .ofDev d []
  else .ofDev (d.busBlock x a v s.otp) []

/-- The cells of a processor's write to memory: those in the checkpoint banks are discarded while an image runs (R115). -/
def Dev.ramCells (d : Dev) (a : Nat) (bs : List Byte) : List Host.Cell :=
  (cellsAt a bs).filter (fun (c : Host.Cell) => !(d.loaded && decide (0x08600000 ≤ c.1) && decide (c.1 < 0x08800000)))

/-- A 32-bit bus write (R6, R492). -/
def busWrite (s : State) (a : Nat) (v : Word) : Effect :=
  let d := s.dev
  match d.region a with
  | .none_ => .ofDev d.accessFault []
  | .ram => { dev := d, cells := d.ramCells a (leBytes 4 v.toNat), fuses := [] }
  | .tmr => if a % 4 = 0 then .ofDev (d.busTmr s.now a v) [] else .ofDev d.accessFault []
  | .plic => if a % 4 = 0 then .ofDev (d.wrPlic (a - 0x04000000) v) [] else .ofDev d.accessFault []
  | .block => if a % 4 = 0 then busReg s a v else .ofDev d.accessFault []

/-- REGISTER_WRITE (R8, R492). -/
def execRegisterWrite (t : Nat) (addr : Nat) (v : Word) (s : State) : Out := actE t s fun s => liveE s fun s => busWrite s addr v

end Sys2Proof.Machine
end

