-- ==== Sys2Proof/Machine/Dispatch.lean ====
section
/-! DEFINITION. Machine/Dispatch.lean: one arm per command, one direct call of its meaning. -/

namespace Sys2Proof.Machine

open Sys2Proof

def exec (i : Instr) (s : State) : Host.Outcome State Fault Refusal :=
  match i with
  | .frameT0 ecc ckptBad => Sys2Proof.Machine.execFrameT0 ecc ckptBad s
  | .acquireEnd => Sys2Proof.Machine.execAcquireEnd s
  | .inputDelivery t src => Sys2Proof.Machine.execInputDelivery t src s
  | .collectEnd cmpBad => Sys2Proof.Machine.execCollectEnd cmpBad s
  | .hardAlign t => Sys2Proof.Machine.execHardAlign t s
  | .clrLat t => Sys2Proof.Machine.execClrLat t s
  | .alignEnWrite t en => Sys2Proof.Machine.execAlignEnWrite t en s
  | .frmPhaseLoWrite t v => Sys2Proof.Machine.execFrmPhaseLoWrite t v s
  | .frmPhaseHiWrite t v => Sys2Proof.Machine.execFrmPhaseHiWrite t v s
  | .eventArrival t => Sys2Proof.Machine.execEventArrival t s
  | .eventDelivery t => Sys2Proof.Machine.execEventDelivery t s
  | .evoPulseEnd t k => Sys2Proof.Machine.execEvoPulseEnd t k s
  | .anvSnap t => Sys2Proof.Machine.execAnvSnap t s
  | .fullLoad t => Sys2Proof.Machine.execFullLoad t s
  | .fullLoadChecksDone t => Sys2Proof.Machine.execFullLoadChecksDone t s
  | .hotLoad t => Sys2Proof.Machine.execHotLoad t s
  | .hotChecksDone t => Sys2Proof.Machine.execHotChecksDone t s
  | .hotPlacingDone t => Sys2Proof.Machine.execHotPlacingDone t s
  | .imgAbort t => Sys2Proof.Machine.execImgAbort t s
  | .taskStart t e stretch ecc => Sys2Proof.Machine.execTaskStart t e stretch ecc s
  | .latestStartReached t e stretch ecc => Sys2Proof.Machine.execLatestStartReached t e stretch ecc s
  | .taskFinish t e => Sys2Proof.Machine.execTaskFinish t e s
  | .collectorCycle t => Sys2Proof.Machine.execCollectorCycle t s
  | .blockOff t => Sys2Proof.Machine.execBlockOff t s
  | .blockOn t => Sys2Proof.Machine.execBlockOn t s
  | .clrMax t => Sys2Proof.Machine.execClrMax t s
  | .rotationTimerExpiry t => Sys2Proof.Machine.execRotationTimerExpiry t s
  | .selfTestRequest t e => Sys2Proof.Machine.execSelfTestRequest t e s
  | .selfTestStart t e => Sys2Proof.Machine.execSelfTestStart t e s
  | .selfTestEnd t failMask => Sys2Proof.Machine.execSelfTestEnd t failMask s
  | .plcCtrlWrite t v => Sys2Proof.Machine.execPlcCtrlWrite t v s
  | .plcStIntervalWrite t v => Sys2Proof.Machine.execPlcStIntervalWrite t v s
  | .lpPdataWrite t v => Sys2Proof.Machine.execLpPdataWrite t v s
  | .lpSwapCmd t groups => Sys2Proof.Machine.execLpSwapCmd t groups s
  | .sdiStreamOutput t n w => Sys2Proof.Machine.execSdiStreamOutput t n w s
  | .protectionLevelChange t n w => Sys2Proof.Machine.execProtectionLevelChange t n w s
  | .settleMaskEnd t n => Sys2Proof.Machine.execSettleMaskEnd t n s
  | .stuckBitstream t n => Sys2Proof.Machine.execStuckBitstream t n s
  | .sdcClockLoss t c => Sys2Proof.Machine.execSdcClockLoss t c s
  | .spareFilterMove t => Sys2Proof.Machine.execSpareFilterMove t s
  | .adcConversionStart t b => Sys2Proof.Machine.execAdcConversionStart t b s
  | .adcConversionDone t b sl raw exceeds check => Sys2Proof.Machine.execAdcConversionDone t b sl raw exceeds check s
  | .syncGroupStart t b => Sys2Proof.Machine.execSyncGroupStart t b s
  | .darningCalibrationDone t b zero ref => Sys2Proof.Machine.execDarningCalibrationDone t b zero ref s
  | .darningRotationDue t b => Sys2Proof.Machine.execDarningRotationDue t b s
  | .mcalStart t => Sys2Proof.Machine.execMcalStart t s
  | .mcalDone t z0 r0 z1 r1 => Sys2Proof.Machine.execMcalDone t z0 r0 z1 r1 s
  | .urgentRequest t b => Sys2Proof.Machine.execUrgentRequest t b s
  | .urgentConversionStart t b => Sys2Proof.Machine.execUrgentConversionStart t b s
  | .adcSeqEnWrite t b v => Sys2Proof.Machine.execAdcSeqEnWrite t b v s
  | .comparatorDecision t n code => Sys2Proof.Machine.execComparatorDecision t n code s
  | .cmpEnableWrite t n v => Sys2Proof.Machine.execCmpEnableWrite t n v s
  | .encCountStep t k a b => Sys2Proof.Machine.execEncCountStep t k a b s
  | .encIndex t z => Sys2Proof.Machine.execEncIndex t z s
  | .serialTransferStart t k idle => Sys2Proof.Machine.execSerialTransferStart t k idle s
  | .serialTransferDone t k bits => Sys2Proof.Machine.execSerialTransferDone t k bits s
  | .observerUpdate t k => Sys2Proof.Machine.execObserverUpdate t k s
  | .probeEdge t k e => Sys2Proof.Machine.execProbeEdge t k e s
  | .encLoad t k v => Sys2Proof.Machine.execEncLoad t k v s
  | .encEnableWrite t k v => Sys2Proof.Machine.execEncEnableWrite t k v s
  | .encEmuWrite t v => Sys2Proof.Machine.execEncEmuWrite t v s
  | .meteringSample t m => Sys2Proof.Machine.execMeteringSample t m s
  | .mtrSnap t points => Sys2Proof.Machine.execMtrSnap t points s
  | .mtrAddImport t m => Sys2Proof.Machine.execMtrAddImport t m s
  | .mtrAddExport t m => Sys2Proof.Machine.execMtrAddExport t m s
  | .mtrEnableWrite t m v => Sys2Proof.Machine.execMtrEnableWrite t m v s
  | .periodBoundary n => Sys2Proof.Machine.execPeriodBoundary n s
  | .peakReload n => Sys2Proof.Machine.execPeakReload n s
  | .referenceEdge t n => Sys2Proof.Machine.execReferenceEdge t n s
  | .commandTurnOn t n high => Sys2Proof.Machine.execCommandTurnOn t n high s
  | .pwmSetCommit t n v => Sys2Proof.Machine.execPwmSetCommit t n v s
  | .pwmEdgeListCommit t n => Sys2Proof.Machine.execPwmEdgeListCommit t n s
  | .pwmElWrite t n v => Sys2Proof.Machine.execPwmElWrite t n v s
  | .setPresent t n => Sys2Proof.Machine.execSetPresent t n s
  | .edgeListPresent t n => Sys2Proof.Machine.execEdgeListPresent t n s
  | .pwmEnableWrite t n v => Sys2Proof.Machine.execPwmEnableWrite t n v s
  | .fltPinLow t n => Sys2Proof.Machine.execFltPinLow t n s
  | .fltDetection t n => Sys2Proof.Machine.execFltDetection t n s
  | .fltFilterRelease t n => Sys2Proof.Machine.execFltFilterRelease t n s
  | .blankingWindowEnd t n => Sys2Proof.Machine.execBlankingWindowEnd t n s
  | .restore t n => Sys2Proof.Machine.execRestore t n s
  | .quench t b => Sys2Proof.Machine.execQuench t b s
  | .clear t b => Sys2Proof.Machine.execClear t b s
  | .quenchPresent t b => Sys2Proof.Machine.execQuenchPresent t b s
  | .diagStart t v => Sys2Proof.Machine.execDiagStart t v s
  | .diagAbort t => Sys2Proof.Machine.execDiagAbort t s
  | .diagSettleEnd t => Sys2Proof.Machine.execDiagSettleEnd t s
  | .diagMeansTaken t => Sys2Proof.Machine.execDiagMeansTaken t s
  | .diagDwellEnd t => Sys2Proof.Machine.execDiagDwellEnd t s
  | .gdpTestStart t v => Sys2Proof.Machine.execGdpTestStart t v s
  | .gdpTestEnd t failPart => Sys2Proof.Machine.execGdpTestEnd t failPart s
  | .ownReadback t level => Sys2Proof.Machine.execOwnReadback t level s
  | .t0AbsenceTimeout t => Sys2Proof.Machine.execT0AbsenceTimeout t s
  | .peerOwnEdge t => Sys2Proof.Machine.execPeerOwnEdge t s
  | .takeoverSdcDrive t => Sys2Proof.Machine.execTakeoverSdcDrive t s
  | .takeoverHoldLift t => Sys2Proof.Machine.execTakeoverHoldLift t s
  | .twnCtrlHandover t => Sys2Proof.Machine.execTwnCtrlHandover t s
  | .twnCtrlWithdraw t => Sys2Proof.Machine.execTwnCtrlWithdraw t s
  | .caps t lane seq body => Sys2Proof.Machine.execCaps t lane seq body s
  | .capsAck t lane seq body => Sys2Proof.Machine.execCapsAck t lane seq body s
  | .heartbeat t lane seq body => Sys2Proof.Machine.execHeartbeat t lane seq body s
  | .blocks t lane seq body => Sys2Proof.Machine.execBlocks t lane seq body s
  | .stateMsg t lane seq body => Sys2Proof.Machine.execStateMsg t lane seq body s
  | .paramMsg t lane seq body => Sys2Proof.Machine.execParamMsg t lane seq body s
  | .swapMsg t lane seq body => Sys2Proof.Machine.execSwapMsg t lane seq body s
  | .resultMsg t lane seq body => Sys2Proof.Machine.execResultMsg t lane seq body s
  | .yieldMsg t lane seq body => Sys2Proof.Machine.execYieldMsg t lane seq body s
  | .yieldAckMsg t lane seq body => Sys2Proof.Machine.execYieldAckMsg t lane seq body s
  | .withdraw t lane seq body => Sys2Proof.Machine.execWithdraw t lane seq body s
  | .rxDetectPulse t lane found => Sys2Proof.Machine.execRxDetectPulse t lane found s
  | .laneTrainDone t lane => Sys2Proof.Machine.execLaneTrainDone t lane s
  | .laneTrainTimeout t lane => Sys2Proof.Machine.execLaneTrainTimeout t lane s
  | .laneBlockLock t l => Sys2Proof.Machine.execLaneBlockLock t l s
  | .laneBlockLockLoss t l => Sys2Proof.Machine.execLaneBlockLockLoss t l s
  | .capsResend t lane => Sys2Proof.Machine.execCapsResend t lane s
  | .laneExchangeTimeout t lane => Sys2Proof.Machine.execLaneExchangeTimeout t lane s
  | .equaliserAdaptDone t lane eyes => Sys2Proof.Machine.execEqualiserAdaptDone t lane eyes s
  | .rxIdleTimeout t lane => Sys2Proof.Machine.execRxIdleTimeout t lane s
  | .laneRateWrite t lane v => Sys2Proof.Machine.execLaneRateWrite t lane v s
  | .laneTxEnWrite t lane v => Sys2Proof.Machine.execLaneTxEnWrite t lane v s
  | .lanePrbsWrite t lane v => Sys2Proof.Machine.execLanePrbsWrite t lane v s
  | .ethFrameReceived t p bytes fcsOk => Sys2Proof.Machine.execEthFrameReceived t p bytes fcsOk s
  | .ethFrameTransmit t p => Sys2Proof.Machine.execEthFrameTransmit t p s
  | .ethTxComplete t p => Sys2Proof.Machine.execEthTxComplete t p s
  | .ethLinkChange t p link anDone => Sys2Proof.Machine.execEthLinkChange t p link anDone s
  | .ringTailWrite t p tx r v => Sys2Proof.Machine.execRingTailWrite t p tx r v s
  | .ringRunWrite t p tx r v => Sys2Proof.Machine.execRingRunWrite t p tx r v s
  | .timIncFracWrite t v => Sys2Proof.Machine.execTimIncFracWrite t v s
  | .timIncCommit t v => Sys2Proof.Machine.execTimIncCommit t v s
  | .timeStep t => Sys2Proof.Machine.execTimeStep t s
  | .timSnap t => Sys2Proof.Machine.execTimSnap t s
  | .holdWrite t hold => Sys2Proof.Machine.execHoldWrite t hold s
  | .holdoverTimeout t => Sys2Proof.Machine.execHoldoverTimeout t s
  | .triggerArm t k v => Sys2Proof.Machine.execTriggerArm t k v s
  | .triggerFire t k => Sys2Proof.Machine.execTriggerFire t k s
  | .toutPulseEnd t k => Sys2Proof.Machine.execToutPulseEnd t k s
  | .captureEdge t k rising => Sys2Proof.Machine.execCaptureEdge t k rising s
  | .pop t k => Sys2Proof.Machine.execPop t k s
  | .vioFPowerOn t => Sys2Proof.Machine.execVioFPowerOn t s
  | .safetySelftestDone t fail => Sys2Proof.Machine.execSafetySelftestDone t fail s
  | .vioFLoss t => Sys2Proof.Machine.execVioFLoss t s
  | .safetyScan t srb crcOk => Sys2Proof.Machine.execSafetyScan t srb crcOk s
  | .sinLevelAccept t pair contact level => Sys2Proof.Machine.execSinLevelAccept t pair contact level s
  | .discrepancyTimeout t pair => Sys2Proof.Machine.execDiscrepancyTimeout t pair s
  | .supplyCut t f => Sys2Proof.Machine.execSupplyCut t f s
  | .offPulseStart t k => Sys2Proof.Machine.execOffPulseStart t k s
  | .offPulseEnd t k => Sys2Proof.Machine.execOffPulseEnd t k s
  | .readbackCheck t k level => Sys2Proof.Machine.execReadbackCheck t k level s
  | .backgroundSelftest t fail => Sys2Proof.Machine.execBackgroundSelftest t fail s
  | .inputInjection t fail => Sys2Proof.Machine.execInputInjection t fail s
  | .clockCheckWindow t count => Sys2Proof.Machine.execClockCheckWindow t count s
  | .scanDeadlineExpiry t => Sys2Proof.Machine.execScanDeadlineExpiry t s
  | .safUnlock t => Sys2Proof.Machine.execSafUnlock t s
  | .passwordHashDone t => Sys2Proof.Machine.execPasswordHashDone t s
  | .safStage t => Sys2Proof.Machine.execSafStage t s
  | .safCommit t => Sys2Proof.Machine.execSafCommit t s
  | .safLock t => Sys2Proof.Machine.execSafLock t s
  | .safDiscard t => Sys2Proof.Machine.execSafDiscard t s
  | .lockoutEnd t => Sys2Proof.Machine.execLockoutEnd t s
  | .unlockTimeout t => Sys2Proof.Machine.execUnlockTimeout t s
  | .refclkFailure t count => Sys2Proof.Machine.execRefclkFailure t count s
  | .refclkRecovered t => Sys2Proof.Machine.execRefclkRecovered t s
  | .sroOkRise t => Sys2Proof.Machine.execSroOkRise t s
  | .sroOkFall t => Sys2Proof.Machine.execSroOkFall t s
  | .pllLockAcquired t => Sys2Proof.Machine.execPllLockAcquired t s
  | .pllLockLoss t => Sys2Proof.Machine.execPllLockLoss t s
  | .clockStopRestart t => Sys2Proof.Machine.execClockStopRestart t s
  | .lanePllLockLoss t => Sys2Proof.Machine.execLanePllLockLoss t s
  | .refReturn t => Sys2Proof.Machine.execRefReturn t s
  | .bellowsStart t v => Sys2Proof.Machine.execBellowsStart t v s
  | .bellowsAbort t => Sys2Proof.Machine.execBellowsAbort t s
  | .bellowsUpdate t => Sys2Proof.Machine.execBellowsUpdate t s
  | .domainSwitch t d v => Sys2Proof.Machine.execDomainSwitch t d v s
  | .domainRestart t d => Sys2Proof.Machine.execDomainRestart t d s
  | .gateWrite t v => Sys2Proof.Machine.execGateWrite t v s
  | .temperMeasurement t readings defects => Sys2Proof.Machine.execTemperMeasurement t readings defects s
  | .resume t => Sys2Proof.Machine.execResume t s
  | .mainSupplyLoss t => Sys2Proof.Machine.execMainSupplyLoss t s
  | .mainSupplyReturn t => Sys2Proof.Machine.execMainSupplyReturn t s
  | .cqThresholdReached t => Sys2Proof.Machine.execCqThresholdReached t s
  | .cqCollapse t => Sys2Proof.Machine.execCqCollapse t s
  | .harvesterStart t => Sys2Proof.Machine.execHarvesterStart t s
  | .harvesterStop t => Sys2Proof.Machine.execHarvesterStop t s
  | .ktUpdate t => Sys2Proof.Machine.execKtUpdate t s
  | .logEntryWrite t => Sys2Proof.Machine.execLogEntryWrite t s
  | .logFwWrite t => Sys2Proof.Machine.execLogFwWrite t s
  | .logReadLatch t => Sys2Proof.Machine.execLogReadLatch t s
  | .flush t => Sys2Proof.Machine.execFlush t s
  | .flushAgeExpiry t => Sys2Proof.Machine.execFlushAgeExpiry t s
  | .journalBurstStart t => Sys2Proof.Machine.execJournalBurstStart t s
  | .journalBurstVerify t ok => Sys2Proof.Machine.execJournalBurstVerify t ok s
  | .journalBurstRetry t => Sys2Proof.Machine.execJournalBurstRetry t s
  | .storeMeasurement t cq cs => Sys2Proof.Machine.execStoreMeasurement t cq cs s
  | .recorderRecordWrite t => Sys2Proof.Machine.execRecorderRecordWrite t s
  | .recEnableWrite t v => Sys2Proof.Machine.execRecEnableWrite t v s
  | .rearm t => Sys2Proof.Machine.execRearm t s
  | .swtrig t => Sys2Proof.Machine.execSwtrig t s
  | .lcChangeRequest t v => Sys2Proof.Machine.execLcChangeRequest t v s
  | .keyProg t slot => Sys2Proof.Machine.execKeyProg t slot s
  | .keyRevoke t slot => Sys2Proof.Machine.execKeyRevoke t slot s
  | .advImg t => Sys2Proof.Machine.execAdvImg t s
  | .advFw t => Sys2Proof.Machine.execAdvFw t s
  | .fuseBlowDone t => Sys2Proof.Machine.execFuseBlowDone t s
  | .otpShadowCheck t upsets => Sys2Proof.Machine.execOtpShadowCheck t upsets s
  | .arm t => Sys2Proof.Machine.execArm t s
  | .disarm t => Sys2Proof.Machine.execDisarm t s
  | .keepCmd t => Sys2Proof.Machine.execKeepCmd t s
  | .wakeTimeReached t => Sys2Proof.Machine.execWakeTimeReached t s
  | .dbgStart t v nonce => Sys2Proof.Machine.execDbgStart t v nonce s
  | .dbgVerify t => Sys2Proof.Machine.execDbgVerify t s
  | .dbgVerifyDone t => Sys2Proof.Machine.execDbgVerifyDone t s
  | .dbgEnd t => Sys2Proof.Machine.execDbgEnd t s
  | .challengeExpiry t => Sys2Proof.Machine.execChallengeExpiry t s
  | .debugLockoutEnd t => Sys2Proof.Machine.execDebugLockoutEnd t s
  | .lockstepMismatch t p pc => Sys2Proof.Machine.execLockstepMismatch t p pc s
  | .watchdogExpiry t p pc => Sys2Proof.Machine.execWatchdogExpiry t p pc s
  | .watchdogHalf t p => Sys2Proof.Machine.execWatchdogHalf t p s
  | .kick t p => Sys2Proof.Machine.execKick t p s
  | .run1 t => Sys2Proof.Machine.execRun1 t s
  | .run0 t => Sys2Proof.Machine.execRun0 t s
  | .warmRestart t => Sys2Proof.Machine.execWarmRestart t s
  | .patrolScrub t errs => Sys2Proof.Machine.execPatrolScrub t errs s
  | .mtimerMatch t h => Sys2Proof.Machine.execMtimerMatch t h s
  | .mtimeLoRead t => Sys2Proof.Machine.execMtimeLoRead t s
  | .plicClaim t ctx => Sys2Proof.Machine.execPlicClaim t ctx s
  | .plicComplete t ctx id => Sys2Proof.Machine.execPlicComplete t ctx id s
  | .xspiCommand t v => Sys2Proof.Machine.execXspiCommand t v s
  | .xspiCommandDone t ok data patch => Sys2Proof.Machine.execXspiCommandDone t ok data patch s
  | .xspiTimeout t => Sys2Proof.Machine.execXspiTimeout t s
  | .ddrTemperatureHigh t => Sys2Proof.Machine.execDdrTemperatureHigh t s
  | .pornAssert t => Sys2Proof.Machine.execPornAssert t s
  | .pornRise t straps => Sys2Proof.Machine.execPornRise t straps s
  | .refOkWaitTimeout t => Sys2Proof.Machine.execRefOkWaitTimeout t s
  | .ddrTrainingDone t ok gib => Sys2Proof.Machine.execDdrTrainingDone t ok gib s
  | .uartRecoveryBeacon t => Sys2Proof.Machine.execUartRecoveryBeacon t s
  | .uartRecoveryContainer t bytes => Sys2Proof.Machine.execUartRecoveryContainer t bytes s
  | .uartRecoveryGapTimeout t => Sys2Proof.Machine.execUartRecoveryGapTimeout t s
  | .registerWrite t addr v => Sys2Proof.Machine.execRegisterWrite t addr v s
  | .lanePllLockAcquired t => Sys2Proof.Machine.execLanePllLockAcquired t s
  | .sdcClockReturn t c => Sys2Proof.Machine.execSdcClockReturn t c s
  | .fltPinHigh t n => Sys2Proof.Machine.execFltPinHigh t n s
  | .prbsCheckerLock t lane => Sys2Proof.Machine.execPrbsCheckerLock t lane s
  | .prbsBitError t lane => Sys2Proof.Machine.execPrbsBitError t lane s
  | .messageCrcFail t lane => Sys2Proof.Machine.execMessageCrcFail t lane s
  | .unknownMessage t lane => Sys2Proof.Machine.execUnknownMessage t lane s
  | .gpioEdge t pin rising => Sys2Proof.Machine.execGpioEdge t pin rising s

end Sys2Proof.Machine
end

