-- ==== Sys2Proof/Machine/Views.lean ====
section
/-! DEFINITION. Machine/Views.lean: what the outside sees of a state: what a bus read returns (R6, R8, R492) and the levels at the output pins (R39, R205, R277, R307,
R316, R328, R329, R377, R390, R393, R424, R498, R541). A view changes nothing. -/

namespace Sys2Proof.Machine

/-! ### Bus reads -/

/-- The register that a bus read of an address returns: what hardware shows live is computed, all else is the register's value. A WO field reads 0, and no register
field of that type is ever stored but those of SAF_PW. -/
def Dev.regView (d : Dev) (x a : Nat) : Word :=
  let v := d.rd a
  match arrIx a (Reg.PLC_ENG_INFO 0) 64 4 with
  | some e => setFld v 15 0 (d.stAge x e)
  | none =>
    if a = Reg.SYS_BOOT then setBit v 31 d.ready
    else if a = Reg.FRM_STAT then setFld v 1 0 (d.phaseAt x)
    else if a = Reg.LP_PDATA then d.lpRead
    else if a = Reg.HRT_BLKSTAT then BitVec.ofNat 32 d.blkStat
    else if a = Reg.TMR_MTIME_LO then BitVec.ofNat 32 (d.ns x)
    else if a = Reg.TMR_MTIME_HI then d.cpu.mtimeHi
    else if (arrIx a (Reg.SAF_PW 0) 8 4).isSome then 0
    else if a = Reg.SAF_ITEM_VAL then d.safItemRead
    else if a = Reg.LOG_STAT then setBit v 31 d.keep.main
    else if a = Reg.LOG_KT_LO then BitVec.ofNat 32 (d.ktNow x)
    else if a = Reg.LOG_KT_HI then BitVec.ofNat 32 (d.ktNow x / 2 ^ 32)
    else v

/-- A word of signal memory at the home that firmware reads (R89): a signal homed with its writer as its last run left it, any other, and a request output on
which a packet has still to decide (R181), as its last packet did (R80). -/
def Dev.sigView (d : Dev) (i : Nat) : Word := if nth 0 d.hrt.place.home i = 0 && !d.rqOpen i then nth 0 d.hrt.sig i else nth 0 d.hrt.copy i

/-- Bytes of the safety working copy as a word (the register reference of the SAF block); beyond its length 0. -/
def Dev.safView (d : Dev) (off : Nat) : Word := BitVec.ofNat 32 (leNat ((d.saf.copy.drop off).take 4))

/-- A word of the interrupt controller in the layout of the RISC-V PLIC specification 1.0.0 (R488; PRESUMED, log entry 33): priorities, pending bits, enables, thresholds, and
the interrupt that a claim would return. -/
def Dev.plicView (d : Dev) (off : Nat) : Word :=
  if off < 4 * 272 then BitVec.ofNat 32 (if off = 0 then 0 else d.irqPrio (off / 4))
  else if 0x1000 ≤ off ∧ off < 0x1000 + 4 * 9 then
    BitVec.ofNat 32 ((List.range 32).foldl (fun w b => if d.cpu.ipend.contains (8 * (off - 0x1000) + b) then w + 2 ^ b else w) 0)
  else if 0x2000 ≤ off ∧ off < 0x2000 + 0x80 * 4 then BitVec.ofNat 32 ((assocGet ((off - 0x2000) / 4) d.cpu.enab).getD 0)
  else if 0x200000 ≤ off ∧ off < 0x204000 then
    let ctx := (off - 0x200000) / 0x1000
    let r := (off - 0x200000) % 0x1000
    if r = 0 then BitVec.ofNat 32 (nth 0 d.cpu.thr ctx) else if r = 4 then BitVec.ofNat 32 (d.claimOf ctx) else 0
  else 0

/-- A word of the checkpoint banks in system SRAM (R114, R115), once they hold checkpoints: bank 0 at 0x0860_0000 and bank 1 at 0x0870_0000 hold each task's FRM_COUNT,
state words and CRC. Where in its bank a task lies, and which CRC it is, the spec does not say: the word is a free function of what the bank holds (log entry 90). -/
def Dev.ckptView (d : Dev) (a : Nat) : Option Word :=
  let bank := d.hrt.rt.map (fun r => r.bank ((a - 0x08600000) / 0x100000))
  if 0x08600000 ≤ a ∧ a < 0x08800000 ∧ bank.any Option.isSome = true then some (Sys2Proof.Config.ckptWord (a - 0x08600000) bank) else none

/-- The word a 32-bit bus read of an address returns, or none for an access fault: an address outside the map (R492) or an uncorrectable error (R491). -/
def State.busRead (s : State) (x a : Nat) : Option Word :=
  let d := s.dev
  match d.region a with
  | .none_ => if a + 4 ≤ 0x20000 || (decide (0x20000000 ≤ a) && decide (a + 4 ≤ 0x30000000)) then some (s.mem.word a) else none
  | .ram => if (d.badIn s.mem a 4).isSome then none else some ((d.ckptView a).getD (s.mem.word a))
  | .plic => if a % 4 = 0 then some (d.plicView (a - 0x04000000)) else none
  | .tmr => if a % 4 = 0 then some (d.regView x a) else none
  | .block =>
    if a % 4 ≠ 0 then none
    else if 0x10180000 ≤ a ∧ a < 0x10180000 + 4 * d.hrt.graph.sigs.length then some (d.sigView ((a - 0x10180000) / 4))
    else if 0x10278000 ≤ a ∧ a < 0x10280000 then some (d.safView (a - 0x10278000))
    else some (d.regView x a)

/-! ### The debug port (R473) -/

/-- What a debugger does at the port. -/
inductive DbgAccess where
  /-- IDCODE, BYPASS and SAMPLE. -/
  | scan
  /-- A register of the DBG group. -/
  | dbgReg
  /-- Trace. -/
  | trace
  /-- A read of a register or of memory. -/
  | read
  /-- Halting, stepping or resuming a hart. -/
  | run
  /-- A write of a register or of memory. -/
  | write
  /-- EXTEST and CLAMP. -/
  | drive
  deriving DecidableEq, Repr

/-- The least debug level that permits an access (R473). -/
def DbgAccess.level : DbgAccess → Nat
  | .scan => 0
  | .dbgReg => 0
  | .trace => 1
  | .read => 1
  | .run => 2
  | .write => 2
  | .drive => 2

/-- The debug port serves an access; any other it ignores without an error (R473). Without the core supplies the port is unpowered (R477). -/
def Dev.dbgPermits (d : Dev) (a : DbgAccess) : Bool := d.keep.main && decide (a.level ≤ d.dbgLevel)

/-! ### The journal (R451, R452) -/

/-- A sector of the journal holds a valid burst (R451). -/
def burstValid (b : List Byte) : Bool :=
  let c := b.drop 4064
  commitOk 3 c && leAt c 8 4 == 4064 && leAt c 0x14 4 == (crc32 (b.take 4064)).toNat && isText b 0 [0x41, 0x5A, 0x4A, 0x42] && leAt b 4 1 == 1

/-- The valid bursts of the journal, BURST_NUM and sector, in the order of BURST_NUM (R451). -/
def State.journal (s : State) : List (Nat × Nat) :=
  (List.range 2048).foldl (fun l k =>
    let b := s.mem.bytes (s.dev.sectorAt k) 4096
    if burstValid b then insertBy (fun q => q.1) (leAt b 8 8, k) l else l) []

/-- Replay: the entries of the valid bursts, oldest first (R451). -/
def State.replay (s : State) : List (List Byte) :=
  s.journal.flatMap (fun q =>
    let b := s.mem.bytes (s.dev.sectorAt q.2) 4096
    chunks 32 (leAt b 5 1) (b.drop 32))

/-- What firmware writes to LOG_JNEXT and LOG_BURST before it sets JEN (R452): the sector after the newest valid burst and the number after its own, or 0 and 0. -/
def State.journalNext (s : State) : Nat × Nat :=
  match s.journal.getLast? with
  | none => (0, 0)
  | some q => ((q.2 + 1) % 2048, q.1 + 1)

/-! ### Output pins -/

/-- The pair override in force on a channel at an instant: SWAP and INV. A new mapping applies after the off interval (R296). -/
def Dev.ovrOf (d : Dev) (x n : Nat) : Bool × Bool :=
  let o := if x < (d.pch n).ovrOff then (d.pch n).ovrWas else (d.pch n).ovr
  (o.testBit 0, o.testBit 1)

/-- The safety pulse stop holds a used channel's pins (R390). -/
def Dev.pulseStopped (d : Dev) (n : Nat) : Bool := match d.chUse n with | none => false | some u => d.pulseStop.testBit u.1

/-- The pins carry the ST_SAFE pattern: before the first T0 after PORn or a failed load, and while the domains are stopped (R424, R498). -/
def Dev.safePattern (d : Dev) : Bool := d.sys.safe || d.clk.stopped

/-- The level of PWH (`high`) or PWL of a channel at an instant; none for high impedance. The sources prevail in the order of R541; the off level of R307 follows the register's
INV, the commands follow the mapping applied at a boundary (R296). -/
def Dev.pinPwm (d : Dev) (x n : Nat) (high : Bool) : Option Bool :=
  if !d.sys.porn then none
  else
    let o := d.ovrOf x n
    let off := d.bit (Reg.PWM_CH_OVR n) 1
    let g := d.gch n
    if d.pulseStopped n || d.pinHeld x n then some off
    else if d.safePattern then
      let lowOn := d.strap 5 5 == 1 && decide (d.sys.safeAt + (2500 + Sys2Proof.Config.safeDelay n % 1001) * uNs ≤ x)
      some (if high then off else off != lowOn)
    else if d.testing 0 n || d.twn.pairHold || d.twn.takeoverHold then some off
    else if x < (d.pch n).ovrOff then some o.2
    else
      let cmd := if high != o.1 then g.gHi || decide (x < g.offHi) else g.gLo || decide (x < g.offLo)
      some (o.2 != cmd)

/-- OWN (R329). -/
def Dev.pinOwn (d : Dev) : Bool := d.twn.own
/-- An SDC pin is driven by the chip (R205, R329). -/
def Dev.sdcDriven (d : Dev) (c : Nat) : Bool := d.sys.porn && d.sdm.driven && d.bit (Reg.SDM_CLK_CFG c) 31
/-- The level of an SDC pin while the chip drives it, else none: the pin is an input (R205). While the domains are stopped it stands as at the stop (R412). -/
def Dev.pinSdc (d : Dev) (x c : Nat) : Option Bool :=
  if d.sdcDriven c then some (d.divLevel (if d.clk.stopped then d.sys.safeAt else x) c) else none
/-- An event output (R39). -/
def Dev.pinEvo (d : Dev) (x k : Nat) : Bool := decide (x < nth 0 d.anv.evoEnd k)
/-- A trigger output (R377). -/
def Dev.pinTout (d : Dev) (x k : Nat) : Bool := decide (x < nth 0 d.time.toutEnd k)
/-- EOA, EOB and EOZ (R255, R256): the emulation, else the repeat of the pins of ENC0, which needs only VIO_E and runs while PORn is low and the core supplies are absent; high
impedance without VIO_E. Whether VIO_E is present is a fact of the board (log entry 93). -/
def Dev.pinEo (d : Dev) (x : Nat) (vioE : Bool) : Option (Bool × Bool × Bool) :=
  let c := d.encCh 0
  if !vioE then none
  else if d.sys.porn && d.keep.main && d.bit Reg.ENC_EMU 31 then
    let l := d.emuLevels x
    some (l.1, l.2, decide (x < d.enc.eozEnd))
  else some (c.pinA, c.pinB, c.pinZ)
/-- ENCk_CLK (R237, R245, R531): high under PORn, not driven without the core supplies, high impedance without VIO_E. -/
def Dev.pinEncClk (d : Dev) (x k : Nat) (vioE : Bool) : Option Bool :=
  if !vioE || !d.keep.main then none else some (!d.sys.porn || d.encClk x k)
/-- Pins PSU_EN and FSUP (R450, R470, R472). -/
def Dev.pinPsuEn (d : Dev) : Bool := d.sec.psuEn
/-- A lane's transmitter is idle (R346). -/
def Dev.laneIdle (d : Dev) (l : Nat) : Bool := (d.lane l).txIdle
/-- A safety output (R393). -/
def Dev.pinSout (d : Dev) (k : Nat) : Bool := d.saf.vioF && (d.safOut k).on
/-- The interrupt controller interrupts a context (R488). -/
def Dev.ctxInterrupt (d : Dev) (ctx : Nat) : Bool := d.claimOf ctx != 0
/-- An interrupt of the interrupt controller is pending (R488). -/
def Dev.irqPending (d : Dev) (id : Nat) : Bool := d.cpu.ipend.contains id

end Sys2Proof.Machine
end

