-- ==== Sys2Proof/Safety.lean ====
section
/-! DEFINITION. Safety.lean: the terms in which statements about the machine are written: what a command leaves unchanged, and the invariant of
every step. -/

namespace Sys2Proof.Safety

open Sys2Proof Sys2Proof.Machine

/-- The command completes, and leaves the device `d`: the next state is the state as the command finds it at `t` (its clock is the later of its own and
`t`, the outputs of the command before are gone) with this device. The memory, the fuses and the waiting commands stay. -/
def Leaves (c : Instr) (t : Nat) (s : State) (d : Dev) : Prop := exec c s = .next { s.arrive t with dev := d }

/-- Every register outside the list reads as before. -/
def RegsKept (d d' : Dev) (written : List Nat) : Prop := ∀ a, a ∉ written → d'.rd a = d.rd a

/-- Every register outside the list and outside the addresses from `lo` to below `hi` reads as before. -/
def RegsKeptOutside (d d' : Dev) (lo hi : Nat) (written : List Nat) : Prop :=
  ∀ a, a ∉ written → a < lo ∨ hi ≤ a → d'.rd a = d.rd a

/-- Bits `[hi:lo]` of a register apart, every bit of it reads as before. -/
def BitsKept (d d' : Dev) (a hi lo : Nat) : Prop := ∀ i, i < lo ∨ hi < i → d'.bit a i = d.bit a i

/-- A request of a source stands with the Anvil, with the arrival instant that R34 gives its origin, and the code and data of its log entry. -/
def Requested (d : Dev) (o : Origin) (x src code : Nat) (data : List (Nat × Nat)) : Prop :=
  ({ src := src, arrive := arrivalOf o x, code := code, data := data } : EvReq) ∈ d.anv.reqs

/-- The Anvil accepts events (R38), and no request of a source arrives in the fc in which a request that rises at `x` would (R33). -/
def Quiet (d : Dev) (o : Origin) (x src : Nat) : Prop := d.accepts = true ∧ ∀ r ∈ d.anv.reqs, r.src = src → r.arrive ≠ arrivalOf o x

/-- Fuses only grow: no counter of `o'` is below that of `o`, no key is lost or changed, no revocation is undone, and the life cycle never moves
back (R460). -/
def FusesGrow (o o' : Otp) : Prop :=
  o.lc ≤ o'.lc ∧ (o.retPend = true → o'.retPend = true) ∧ o.fwCnt ≤ o'.fwCnt ∧ o.imgCnt ≤ o'.imgCnt ∧
  (∀ i, o.revoked.testBit i = true → o'.revoked.testBit i = true) ∧
  o'.uid = o.uid ∧ o'.keys.length = o.keys.length ∧ ∀ (i : Nat) (k : Nat × Nat), o.keys[i]? = some (some k) → o'.keys[i]? = some (some k)

/-- What every step keeps: the memory stays in its canonical form. -/
def Inv (s : State) : Prop := s.mem.wf = true

end Sys2Proof.Safety
end

