-- ==== Sys2Proof/Certificates/Slice0/Obligations.lean ====
section
/-! DEFINITION. Certificates/Slice0/Obligations.lean: the statements for the provers. Each names the rules of spec/ it follows; a statement that a command
completes says what next state it answers and what it leaves unchanged. `d` is the device as the command finds it: as before but for the clock and the
outputs of the command before. -/

open Sys2Proof Sys2Proof.Machine Sys2Proof.Safety

/-- O1 (tier 1): A step runs the command at the front of the queue on the state with the rest of the queue. Rules: the queue; the idle step is DESIGN
CHOICE, log entry 1. -/
def Obligations.StepRunsTheFrontCommand : Prop :=
  (
    ∀ (s : State) (c : Instr) (rest : List Instr), s.pending = c :: rest → step s = exec c { s with pending := rest }) ∧
  (
    ∀ s : State, s.pending = [] → step s = .next s)

/-- O2 (tier 2): CLR_LAT, ALIGN_EN and HARD_ALIGN complete with the effects of the frame generator. Rules: R23, R26, R27, R29. -/
def Obligations.FrameRegisterWrites : Prop :=
  (
    ∀ (t : Nat) (s : State) (en : Bool), s.dev.runs = true →
      let d := (s.arrive t).dev
      Leaves (.clrLat t) t s (d.setF Reg.FRM_LAT 15 0 0) ∧
      Leaves (.alignEnWrite t en) t s
        (if d.alignEn = en then d.setB Reg.FRM_CTRL 1 en
         else if en then { d.setB Reg.FRM_CTRL 1 true with frm := { d.frm with alignRun := 0 } }
         else { (d.setB Reg.FRM_CTRL 1 false).setB Reg.FRM_STAT 4 false with frm := { d.frm with alignRun := 0 } })) ∧
  (
    ∀ (t : Nat) (s : State), s.dev.runs = true →
      let d := (s.arrive t).dev
      (d.running = false → Leaves (.hardAlign t) t s d) ∧
      (d.running = true → d.power = 2 → Leaves (.hardAlign t) t s (d.setB Reg.FRM_STAT 6 true)) ∧
      (d.running = true → d.power ≠ 2 → 0 < d.P →
        ∃ ext, ext < d.P ∧ Leaves (.hardAlign t) t s { d with frm := { d.frm with nextT0 := d.fcAt (d.P + ext) } } ∧
          let late : Int := ((d.frm.tref : Int) * 2 ^ 32 - d.time2 (d.fcAt d.P)) % (2 * d.P * 2 ^ 32)
          (∀ k, k < ext → (k : Int) * 2 ^ 33 < late) ∧ (ext + 1 < d.P → late ≤ (ext : Int) * 2 ^ 33)))

/-- O3 (tier 2): A write to FRM_PHASE_HI commits both words of t_ref, and the new t_ref applies from the next T0. Rules: R30. -/
def Obligations.PhaseReferenceAppliesFromTheNextT0 : Prop :=
  ∀ (t x : Nat) (v : Word) (ecc : List EccError) (bad : List Nat) (s : State), s.dev.runs = true →
    let d := (s.arrive t).dev
    Leaves (.frmPhaseLoWrite t v) t s { d.wr Reg.FRM_PHASE_LO v with frm := { d.frm with loStaged := v } } ∧
    Leaves (.frmPhaseHiWrite t v) t s
      { d.wr Reg.FRM_PHASE_HI v with frm := { d.frm with trefNew := some (d.frm.loStaged.toNat + 2 ^ 32 * v.toNat) } } ∧
    (s.dev.clocked 6 = true → s.dev.t0Due = some x → ∃ d', Leaves (.frameT0 ecc bad) x s d' ∧ d'.frm.trefNew = none ∧
      d'.frm.tref = (match s.dev.frm.trefNew with | some r => r | none => s.dev.frm.tref))

/-- O4 (tier 2): Events arrive in order of time and source, take their sequence number and reach their destinations. Rules: R31 to R40. -/
def Obligations.EventsArriveAndReachTheirDestinations : Prop :=
  (
    ∀ (t : Nat) (s : State) (r : EvReq), s.dev.accepts = true → nextReq s.dev.anv.reqs = some r → r.arrive ≤ Nat.max s.now t →
      let d := (s.arrive t).dev
      ((∀ q ∈ d.anv.reqs, q.src < 256) → ∀ q ∈ d.anv.reqs, r.arrive < q.arrive ∨ r.arrive = q.arrive ∧ r.src ≤ q.src) ∧
      (d.bit (Reg.ANV_SRC_CFG r.src) 0 = false → Leaves (.eventArrival t) t s { d with anv := { d.anv with reqs := d.anv.reqs.erase r } }) ∧
      (d.bit (Reg.ANV_SRC_CFG r.src) 0 = true →
        let q := (d.rd Reg.ANV_SEQ).toNat
        let e : Ev := { src := r.src, seq := q, stamp := d.ns r.arrive, dst := d.dstMask r.src, due := r.arrive + 2 * uFc, code := r.code, data := r.data }
        ∃ d', Leaves (.eventArrival t) t s d' ∧ RegsKept d d' [Reg.ANV_SEQ] ∧ d'.rd Reg.ANV_SEQ = d.rd Reg.ANV_SEQ + 1 ∧
          d' = { d with
            regs := d'.regs, hwSet := d'.hwSet
            anv := { d.anv with reqs := d.anv.reqs.erase r, evs := d.anv.evs ++ [e], lastSeq := q, lastSrc := r.src, lastTime := d.ns r.arrive } })) ∧
  (
    ∀ (t k : Nat) (s : State) (e : Ev), s.dev.accepts = true → nextEv s.dev.anv.evs = some e → e.due ≤ Nat.max s.now t →
      let d := (s.arrive t).dev
      let a := { d.anv with evs := d.anv.evs.erase e }
      (∀ q ∈ d.anv.evs, e.due ≤ q.due) ∧
      (e.dst = 0 → Leaves (.eventDelivery t) t s { d with anv := a }) ∧
      (k < 32 → e.dst = 2 ^ (16 + k) →
        Leaves (.eventDelivery t) t s
          { d with anv := { a with ht := updN 32 (0, 0) a.ht k (fun p => if p.1 = 0 then (1, e.seq) else (Nat.min (p.1 + 1) 255, p.2)) } }) ∧
      (k < 8 → e.dst = 2 ^ (48 + k) → d.bit Reg.REC_CTRL k = false → Leaves (.eventDelivery t) t s { d with anv := a }) ∧
      (k < 8 → e.dst = 2 ^ (48 + k) → d.bit Reg.REC_CTRL k = true →
        Leaves (.eventDelivery t) t s { d with anv := a, rec_ := { d.rec_ with trig := d.rec_.trig ||| 2 ^ k } } ∨
        Leaves (.eventDelivery t) t s { d with anv := a, rec_ := { d.rec_ with trigNext := d.rec_.trigNext ||| 2 ^ k } } ∧ d.fcOf e.due = 0) ∧
      (k < 8 → e.dst = 2 ^ (62 + k) → (∀ b, b < 5 → d.bit (Reg.ADC_CTRL b) 29 = false) →
        Leaves (.eventDelivery t) t s { d with anv := { a with evoEnd := updN 8 0 a.evoEnd k (fun _ => e.due + 50 * uFc) } }) ∧
      (e.dst = 2 ^ 70 → ∃ d', Leaves (.eventDelivery t) t s d' ∧ d'.irqPending (e.src + 1) = true ∧ d' = { d with anv := a, cpu := d'.cpu }) ∧
      (e.dst = 2 ^ 71 → d.keep.alive = true → d.keep.queue.length < 512 →
        let w : LogEntry := { time := e.stamp, seq := e.seq, src := e.src, code := e.code, data := packData e.data }
        Leaves (.eventDelivery t) t s { d with anv := a, keep := { d.keep with queue := d.keep.queue ++ [w] } }) ∧
      (e.dst = 2 ^ 73 → Leaves (.eventDelivery t) t s { d with anv := { a with derateReq := true } })) ∧
  (
    ∀ (t : Nat) (s : State) (k : Fin 8),
      let d := (s.arrive t).dev
      (s.dev.runs = true →
        Leaves (.anvSnap t) t s
          ((((d.wrN Reg.ANV_LAST_SEQ d.anv.lastSeq).wrN Reg.ANV_LAST_SRC d.anv.lastSrc).wrN Reg.ANV_LAST_TLO d.anv.lastTime).wrN Reg.ANV_LAST_THI
            (d.anv.lastTime / 2 ^ 32))) ∧
      ∃ l, Leaves (.evoPulseEnd t k) t s { d with anv := { d.anv with evoEnd := l } } ∧
        (∀ j x, Nat.max s.now t ≤ x → decide (x < nth 0 l j) = d.pinEvo x j) ∧ ∀ j, j ≠ k.val → nth 0 l j = nth 0 d.anv.evoEnd j)

/-- O5 (tier 2): Sigma-delta filters, streams, settle masks, stuck bitstreams, clock losses and the spare filter. Rules: R205 to R216. -/
def Obligations.SigmaDeltaInputs : Prop :=
  (
    ∀ n : Nat, 0 < n →
      sinc3 n (List.replicate (3 * n - 2) true) = (n : Int) ^ 3 ∧ sinc3 n (List.replicate (3 * n - 2) false) = -(n : Int) ^ 3 ∧
      sinc2 n (List.replicate (2 * n - 1) true) = (n : Int) ^ 2 ∧ sinc2 n (List.replicate (2 * n - 1) false) = -(n : Int) ^ 2) ∧
  (
    ∀ (t : Nat) (n : Fin 96) (bits : List Bool) (differs : Bool) (s : State), s.dev.runsIn 8 = true →
      let d := (s.arrive t).dev
      let x := Nat.max s.now t
      let v := d.sdiValue n (sinc3 (d.sdiN n) bits) (d.sdiN n ^ 3)
      let bad := d.sdiDisturbed n x
      let replaces := differs && !bad && d.bit Reg.SDM_SPARE 15 && !d.bit Reg.SDM_SPARE 31 && decide (d.fld Reg.SDM_SPARE 6 0 = n.val);
      (d.sdiEn n = true → d.bit (Reg.SDM_CH_CFG n) 29 = true → d.sdiLost n = false → d.streamDue x n = true →
        ∃ d', Leaves (.sdiStreamOutput t n ⟨bits, differs⟩) t s d' ∧
          d' = { d with regs := d'.regs, hwSet := d'.hwSet, sdm := d'.sdm, mtr := d'.mtr, anv := d'.anv } ∧ (∀ m, m ≠ n.val → d'.sdi m = d.sdi m) ∧
          (d'.sdi n).stream.getLast? = some (x, v, bad) ∧ (d'.sdi n).outAt = some x ∧
          (nth [] d'.mtr.isrc n).head? = some { time := d.time2 (x - (3 * d.sdiN n - 3) * d.sdiT n / 2), val := v, bad := bad || (d.sdi n).stuck != 0 } ∧
          (∀ m, m ≠ n.val → nth [] d'.mtr.isrc m = nth [] d.mtr.isrc m) ∧
          (replaces = false → d'.regs = d.regs ∧ d'.anv = d.anv) ∧
          (replaces = true → RegsKept d d' [Reg.SDM_SPARE, Reg.SDM_STAT] ∧ d'.bit Reg.SDM_SPARE 31 = true ∧ BitsKept d d' Reg.SDM_SPARE 31 31 ∧
            d'.bit Reg.SDM_STAT 3 = true ∧ BitsKept d d' Reg.SDM_STAT 3 3 ∧ (Quiet d .pwm x 239 → Requested d' .pwm x 239 0xC107 [(1, n.val)]))) ∧
      (d.sdiEn n = false ∨ d.bit (Reg.SDM_CH_CFG n) 29 = false ∨ d.sdiLost n = true ∨ d.streamDue x n = false →
        Leaves (.sdiStreamOutput t n ⟨bits, differs⟩) t s d) ∧
      (d.sdiEn n = true → d.fld (Reg.SDM_CLK_CFG (d.sdiClk n)) 23 16 ≠ 0 →
        ∃ d', Leaves (.stuckBitstream t n) t s d' ∧ d' = { d with regs := d'.regs, hwSet := d'.hwSet, sdm := d'.sdm, anv := d'.anv } ∧ (d'.sdi n).stuck = 2 ∧
          (∀ m, m ≠ n.val → d'.sdi m = d.sdi m) ∧
          RegsKept d d' [Reg.SDM_FAULT (n.val / 32), Reg.SDM_STAT] ∧ d'.bit (Reg.SDM_FAULT (n.val / 32)) (n.val % 32) = true ∧
          BitsKept d d' (Reg.SDM_FAULT (n.val / 32)) (n.val % 32) (n.val % 32) ∧ d'.bit Reg.SDM_STAT 1 = true ∧ BitsKept d d' Reg.SDM_STAT 1 1 ∧
          (Quiet d .pwm x 232 → Requested d' .pwm x 232 0xC100 [(1, n.val), (1, d.sdiClk n)])) ∧
      ∃ d', Leaves (.settleMaskEnd t n) t s d' ∧ d' = { d with regs := d'.regs, hwSet := d'.hwSet, sdm := d'.sdm } ∧ RegsKept d d' [Reg.SDM_STAT] ∧ BitsKept d d' Reg.SDM_STAT 4 4 ∧
        (d'.sdi n).maskEnd = (if (d.sdi n).maskEnd ≤ x then 0 else (d.sdi n).maskEnd) ∧ (∀ m, m ≠ n.val → d'.sdi m = d.sdi m)) ∧
  (
    ∀ (t : Nat) (c : Fin 8) (s : State), s.dev.runsIn 8 = true →
      let d := (s.arrive t).dev
      let x := Nat.max s.now t;
      (d.pair = 3 → d.bit (Reg.SDM_CLK_CFG c) 31 = true → d.sdm.driven = false → nth false d.sdm.clkLost c = false →
        ∃ d', Leaves (.sdcClockLoss t c) t s d' ∧ d' = { d with regs := d'.regs, hwSet := d'.hwSet, sdm := d'.sdm, anv := d'.anv } ∧ nth false d'.sdm.clkLost c = true ∧
          RegsKept d d' [Reg.SDM_STAT] ∧ d'.bit Reg.SDM_STAT 2 = true ∧ BitsKept d d' Reg.SDM_STAT 2 2 ∧
          (∀ n, n < 96 → d.sdiClk n = c.val → (d'.sdi n).prot = false) ∧ (∀ n, d.sdiClk n ≠ c.val → d'.sdi n = d.sdi n) ∧
          (Quiet d .pwm x 233 → Requested d' .pwm x 233 0xC101 [(1, c.val)])) ∧
      (nth false d.sdm.clkLost c = true →
        ∃ d', Leaves (.sdcClockReturn t c) t s d' ∧ d' = { d with regs := d'.regs, hwSet := d'.hwSet, sdm := d'.sdm } ∧ nth false d'.sdm.clkLost c = false ∧
          RegsKept d d' [Reg.SDM_STAT] ∧ BitsKept d d' Reg.SDM_STAT 4 4 ∧
          (∀ n, n < 96 → d.sdiEn n = true → d.sdiClk n = c.val →
            (d'.sdi n).maskEnd = x + (2 * d.sdiM n + 3) * d.sdiT n ∧ (d'.sdi n).prot = false ∧ (d'.sdi n).disturb.head? = some x ∧ (d'.sdi n).outAt = none) ∧
          (∀ n, d.sdiEn n = false ∨ d.sdiClk n ≠ c.val → d'.sdi n = d.sdi n)) ∧
      (d.bit Reg.SDM_SPARE 15 = true → d.bit Reg.SDM_SPARE 31 = false → (d.sdiEn (d.fld Reg.SDM_SPARE 6 0) = true → 256 ≤ d.sdm.spareFrames) → ∀ m, d.nextSdi (d.fld Reg.SDM_SPARE 6 0) = some m →
        Leaves (.spareFilterMove t) t s { d.setF Reg.SDM_SPARE 6 0 m with sdm := { d.sdm with spareFrames := 0 } }) ∧
      (d.bit Reg.SDM_SPARE 15 = false ∨ d.bit Reg.SDM_SPARE 31 = true ∨ d.sdiEn (d.fld Reg.SDM_SPARE 6 0) = true ∧ d.sdm.spareFrames < 256 ∨
        d.nextSdi (d.fld Reg.SDM_SPARE 6 0) = none → Leaves (.spareFilterMove t) t s d))

/-- O6 (tier 2): A comparator decision: hysteresis, the K-of-M vote, the latch and its event, also under test; writes of its enable. Rules: R228 to
R231, R216. -/
def Obligations.Comparators : Prop :=
  ∀ (t code : Nat) (n : Fin 48) (v : Word) (s : State), s.dev.runs = true →
    let d := (s.arrive t).dev
    let x := Nat.max s.now t
    let st := Reg.CMP_STATE (n.val / 32)
    let la := Reg.CMP_LATCH (n.val / 32)
    let i := n.val % 32
    let m := d.fld (Reg.CMP_CH_CFG n) 11 8
    let k := d.fld (Reg.CMP_CH_CFG n) 3 0
    let y := if d.testing 1 n then d.testLevel n (nth CmpCh.init d.cmp n).tested else toSigned 14 code
    let hi := toSigned 14 (d.fld (Reg.CMP_CH_THR n) 29 16 / 4 * 4)
    let lo := toSigned 14 (d.fld (Reg.CMP_CH_THR n) 13 0 / 4 * 4);
    (d.cmpEn n = true → d.clocked 14 = true →
      ∃ d', Leaves (.comparatorDecision t n code) t s d' ∧ d' = { d with regs := d'.regs, hwSet := d'.hwSet, cmp := d'.cmp, anv := d'.anv } ∧ RegsKept d d' [st, la] ∧
        BitsKept d d' st i i ∧ BitsKept d d' la i i ∧ (∀ j, j ≠ n.val → nth CmpCh.init d'.cmp j = nth CmpCh.init d.cmp j) ∧
        let c' := nth CmpCh.init d'.cmp n
        let was := nth CmpCh.init d.cmp n;
        (d.bit (Reg.CMP_CH_CFG n) 30 = false → c'.raw = (if y > hi then true else if y < lo then false else was.raw)) ∧
        (d.bit (Reg.CMP_CH_CFG n) 30 = true → c'.raw = (if y < lo then true else if y > hi then false else was.raw)) ∧
        c'.hist.head? = some c'.raw ∧ c'.tested = (if d.testing 1 n then was.tested + 1 else 0) ∧
        (k ≤ ((c'.hist.take m).filter (· == true)).length → d'.bit st i = true) ∧
        (¬ k ≤ ((c'.hist.take m).filter (· == true)).length → k ≤ ((c'.hist.take m).filter (· == false)).length → d'.bit st i = false) ∧
        (d.bit st i = false → d'.bit st i = true → d.bit la i = false → d.testing 1 n = false →
          d'.bit la i = true ∧ (Quiet d .per x (96 + n.val) →
            Requested d' .per x (96 + n.val) (0x1000 + n.val) [(2, d.fld (Reg.CMP_CH_THR n) 29 16), (2, d.fld (Reg.CMP_CH_THR n) 13 0)])) ∧
        (d.bit st i = true ∨ d'.bit st i = false ∨ d.bit la i = true ∨ d.testing 1 n = true → d'.bit la i = d.bit la i ∧ d'.anv = d.anv)) ∧
    (let d1 := d.rw (Reg.CMP_CH_CFG n) v;
      (d1.cmpEn n = true → d1.cmpOk n = false → Leaves (.cmpEnableWrite t n v) t s (d.setB Reg.CMP_STAT 0 true)) ∧
      (d1.cmpEn n = true → d1.cmpOk n = true → d.cmpEn n = false →
        Leaves (.cmpEnableWrite t n v) t s { (d1.setB st i false).setB la i false with cmp := updN 48 CmpCh.init d.cmp n (fun _ => CmpCh.init) }) ∧
      (d1.cmpEn n = true → d1.cmpOk n = true → d.cmpEn n = true → Leaves (.cmpEnableWrite t n v) t s d1) ∧
      (d1.cmpEn n = false → d.cmpEn n = true →
        Leaves (.cmpEnableWrite t n v) t s { d1.setB st i false with cmp := updN 48 CmpCh.init d.cmp n (fun _ => CmpCh.init) }) ∧
      (d1.cmpEn n = false → d.cmpEn n = false → Leaves (.cmpEnableWrite t n v) t s d1))

/-- O7 (tier 2): SAR conversions start on a free slice, end with a corrected code, and urgent conversions go first. Rules: R217 to R227. -/
def Obligations.SarConversions : Prop :=
  (
    ∀ (t : Nat) (b : Fin 5) (sl : Nat) (raw : Int) (exceeds : Bool) (chk : Option DarningCheck) (s : State), s.dev.runsIn 9 = true →
      let x := Nat.max s.now t
      let d0 := (s.arrive t).dev
      let k0 := d0.bank b
      let d := d0.urgStart x b
      let k := d.bank b
      let e := d.seqEntry b k.entry;
      (d.freeSlice b = some sl →
        (sl ∈ d.inService b ∧ k.busy sl = false ∧ ∀ q ∈ d.inService b, k.busy q = false → nth 0 k.freeAt sl ≤ nth 0 k.freeAt q) ∧
        (d.seqEn b = true → d.spacingOk b x = true → e.sync = false → (k.group = none ∨ ∃ g, k.group = some (g, 0)) →
          ∃ d', Leaves (.adcConversionStart t b) t s d' ∧ d' = { d with adc := d'.adc } ∧ (∀ c, c ≠ b.val → d'.bank c = d.bank c) ∧
            (d'.bank b).conv = k.conv ++ [{ slice := sl, ch := e.ch, start := x, entry := k.entry, num := k.num, sync := none, drop := false }] ∧
            (d'.bank b).lastStart = some x ∧ (d'.bank b).num = k.num + 1 ∧ (d'.bank b).group = k.group ∧
            (k.rep < e.rep → (d'.bank b).entry = k.entry ∧ (d'.bank b).rep = k.rep + 1) ∧
            (e.rep ≤ k.rep → (d'.bank b).entry = (if k.entry < d.seqLen b then k.entry + 1 else 0) ∧ (d'.bank b).rep = 0)) ∧
        (∀ t0 left, d.seqEn b = true → d.spacingOk b x = true → e.sync = true → k.group = some (t0, left + 1) →
          (∀ l, k.lastStart = some l → x = Nat.max (l + d.spacing b) (nth 0 k.freeAt sl)) →
          ∃ d', Leaves (.adcConversionStart t b) t s d' ∧ d' = { d with adc := d'.adc } ∧ (∀ c, c ≠ b.val → d'.bank c = d.bank c) ∧
            (d'.bank b).group = some (t0, left) ∧ (d'.bank b).lastStart = some x ∧
            (d'.bank b).conv = k.conv ++ [{ slice := sl, ch := e.ch, start := x, entry := k.entry, num := k.num, sync := some t0, drop := false }]) ∧
        (let g := groupSize (syncRun ((d.seqTable b).drop k.entry))
          let start := d.frm.nextT0 - (g - 1) * d.spacing b / 2
          d.atGroup b = true → d.spacingOk b x = true → d.running = true → d.frm.t0 + uPer < x → x = start →
            ∃ d', Leaves (.syncGroupStart t b) t s d' ∧ d' = { d with adc := d'.adc } ∧ (∀ c, c ≠ b.val → d'.bank c = d.bank c) ∧
              (d'.bank b).group = some (d.frm.nextT0, g - 1) ∧
              (d'.bank b).conv =
                k.conv ++ [{ slice := sl, ch := e.ch, start := x, entry := k.entry, num := k.num, sync := some d.frm.nextT0, drop := false }])) ∧
      (d.seqEn b = false ∨ d.spacingOk b x = false ∨ d.freeSlice b = none → Leaves (.adcConversionStart t b) t s d) ∧
      (d.atGroup b = false ∨ d.spacingOk b x = false ∨ d.freeSlice b = none → Leaves (.syncGroupStart t b) t s d) ∧
      (∀ c, k0.conv.find? (fun q => q.slice == sl && decide (q.start + 200 * uNs ≤ x)) = some c →
        let f := nth (0x8000, 0, 0) k0.fact sl
        let code := clampI (-8192) 8191 (roundDiv ((16 * raw - f.2.1) * (f.1 : Int)) (16 * 0x8000))
        let data := Reg.ADC_CH_DATA (adcChan b c.ch)
        ∃ d', Leaves (.adcConversionDone t b sl raw exceeds chk) t s d' ∧
          d' = { d0 with regs := d'.regs, hwSet := d'.hwSet, adc := d'.adc, mtr := d'.mtr, anv := d'.anv } ∧
          (∀ q, q ≠ b.val → d'.bank q = d0.bank q) ∧
          d'.bit (Reg.ADC_URG b) 15 = (k0.urgHeld.isSome || (k0.conv.erase c).any (fun q => q.entry == 64)) ∧ BitsKept d0 d' (Reg.ADC_URG b) 15 15 ∧
          (k0.marked ≠ some sl ∨ chk = none → d'.rd (Reg.ADC_SLICE b) = d0.rd (Reg.ADC_SLICE b)) ∧
          (c.drop = true → RegsKept d0 d' [Reg.ADC_URG b, Reg.ADC_SLICE b, Reg.ADC_STAT]) ∧
          (c.drop = false → c.entry = 64 → c.ch < 12 →
            RegsKept d0 d' [data, Reg.ADC_STAT, Reg.ADC_URG b, Reg.ADC_SLICE b] ∧ d'.rd data = BitVec.ofNat 32 (adcDataWord code exceeds false true)) ∧
          (c.drop = false → c.entry ≠ 64 → c.num = k0.nextOut → k0.wait = [] → c.ch < 12 →
            RegsKept d0 d' [data, Reg.ADC_STAT, Reg.ADC_URG b, Reg.ADC_SLICE b] ∧
            d'.rd data = BitVec.ofNat 32 (adcDataWord code exceeds (c.sync != none) false))) ∧
      (k0.conv.find? (fun q => q.slice == sl && decide (q.start + 200 * uNs ≤ x)) = none → Leaves (.adcConversionDone t b sl raw exceeds chk) t s d0)) ∧
  (
    ∀ (t : Nat) (b : Fin 5) (v : Word) (s : State), s.dev.runs = true →
      let d := (s.arrive t).dev
      let x := Nat.max s.now t
      let k := d.bank b
      let ch := d.fld (Reg.ADC_URG b) 3 0;
      (k.urgHeld = none →
        Leaves (.urgentRequest t b) t s ((d.setBank b (fun k => { k with urgHeld := some (ch, x) })).setB (Reg.ADC_URG b) 15 true)) ∧
      (∀ y, k.urgHeld = some (ch, y) → Leaves (.urgentRequest t b) t s d) ∧
      (∀ c y, k.urgHeld = some (c, y) → c ≠ ch →
        Leaves (.urgentRequest t b) t s (((d.inc (Reg.ADC_URG b) 23 16).setB Reg.ADC_STAT 3 true).raise .per x 237 0xC105 [(1, b), (1, adcChan b ch)])) ∧
      (∀ c y sl, k.urgHeld = some (c, y) → y + 10 * uNs ≤ x → k.group = none → (b.val ≠ 4 ∨ d.adc.mcalEnd = none) → d.clocked 9 = true → d.freeSlice b = some sl →
        Leaves (.urgentConversionStart t b) t s (d.setBank b fun k =>
          { k with
            conv := { slice := sl, ch := c, start := x, entry := 64, num := 0, sync := none, drop := false } :: k.conv
            urgHeld := none })) ∧
      (∀ c y q, k.urgHeld = some (c, y) → y + 10 * uNs ≤ x → k.group = none → (b.val ≠ 4 ∨ d.adc.mcalEnd = none) → d.clocked 9 = true → d.freeSlice b = none →
        q ∈ k.conv → q.start ≤ x → (∀ p ∈ k.conv, p.start ≤ x → p ≠ q → p.start < q.start) →
        ∃ d', Leaves (.urgentConversionStart t b) t s d' ∧ d' = { d with adc := d'.adc } ∧ (d'.bank b).urgHeld = none ∧
          (d'.bank b).conv.head? = some { slice := q.slice, ch := c, start := x, entry := 64, num := 0, sync := none, drop := false } ∧
          { q with start := x + 200 * uNs } ∈ (d'.bank b).conv) ∧
      (let a := Reg.ADC_CTRL b
        let d1 := d.rw a v
        let d2 := if d1.bit a 30 && (!d.bit a 30 || d1.fld a 15 0 != d.fld a 15 0) then d1.setBank b (fun k => { k with rotAt := x }) else d1
        let refused := (d.seqEn b = true ∧ d1.seqLen b ≠ d.seqLen b) ∨
          (b.val = 4 ∧ d.seqEn b = false ∧ d1.seqEn b = true ∧ d.bit Reg.ADC_STAT 0 = true) ∨ d1.adcBankOk b = false;
        (refused → Leaves (.adcSeqEnWrite t b v) t s (d.setB Reg.ADC_STAT 6 true)) ∧
        (¬ refused → d.seqEn b = d1.seqEn b → Leaves (.adcSeqEnWrite t b v) t s d2) ∧
        (¬ refused → d.seqEn b = false → d1.seqEn b = true →
          ∃ d', Leaves (.adcSeqEnWrite t b v) t s d' ∧ d' = { d1 with adc := d'.adc } ∧
            d' = d2.setBank b (fun k => { k with entry := 0, rep := 0, group := none, lastEntryStart := none, nextOut := k.num })) ∧
        (¬ refused → d.seqEn b = true → d1.seqEn b = false →
          ∃ d', Leaves (.adcSeqEnWrite t b v) t s d' ∧ d' = { d1 with regs := d'.regs, hwSet := d'.hwSet, adc := d'.adc, anv := d'.anv } ∧ (d'.bank b).lastStart = k.lastStart ∧
            RegsKept d1 d' [Reg.ADC_STAT] ∧ BitsKept d1 d' Reg.ADC_STAT 4 4 ∧ (d'.bank b).wait = [] ∧
            (∀ c ∈ (d'.bank b).conv, c.entry ≠ 64 → c.drop = true) ∧
            (k.group ≠ none → d'.bit Reg.ADC_STAT 4 = true ∧ (Quiet d .per x 238 → Requested d' .per x 238 0xC106 [(1, b), (4, 1)])))))

/-- O8 (tier 2): Darning and metering calibration: factors, the slice marked for rotation, refusals and results. Rules: R220 to R224, R227. -/
def Obligations.SarCalibration : Prop :=
  (
    ∀ (t : Nat) (b : Fin 4) (zero ref z1 r1 : Int) (s : State), s.dev.runs = true →
      let d := (s.arrive t).dev
      let x := Nat.max s.now t;
      (d.clocked 9 = true → d.bit (Reg.ADC_CTRL b) 30 = true → d.darning b < 5 →
        ∃ d', Leaves (.darningCalibrationDone t b zero ref) t s d' ∧ d' = { d with adc := d'.adc } ∧ (∀ c, c ≠ b.val → d'.bank c = d.bank c) ∧
          (d'.bank b).darnReady = true ∧ nth (0x8000, 0, 0) (d'.bank b).fact (d.darning b) = ((calFactors zero ref).1, (calFactors zero ref).2, x) ∧
          ∀ q, q ≠ d.darning b → nth (0x8000, 0, 0) (d'.bank b).fact q = nth (0x8000, 0, 0) (d.bank b).fact q) ∧
      (d.clocked 9 = true → d.bit (Reg.ADC_CTRL b) 30 = true → d.rotLast b x > Nat.max (d.bank b).rotAt d.sys.pornAt →
        ∃ d', Leaves (.darningRotationDue t b) t s d' ∧ d' = { d with adc := d'.adc } ∧ (d'.bank b).rotAt = d.rotLast b x ∧ (∀ c, c ≠ b.val → d'.bank c = d.bank c) ∧
          (d.darning b ≠ 7 → d.bankFaulted b = false → (d.bank b).darnReady = true → d.inService b ≠ [] → ∃ m, (d'.bank b).marked = some m ∧
            m ∈ d.inService b ∧ ∀ q ∈ d.inService b, (nth (0, 0, 0) (d.bank b).fact m).2.2 ≤ (nth (0, 0, 0) (d.bank b).fact q).2.2) ∧
          (d.darning b = 7 ∨ d.bankFaulted b = true ∨ (d.bank b).darnReady = false → (d'.bank b).marked = (d.bank b).marked)) ∧
      (d.bit (Reg.ADC_CTRL b) 30 = false ∨ d.rotLast b x ≤ Nat.max (d.bank b).rotAt d.sys.pornAt → Leaves (.darningRotationDue t b) t s d) ∧
      (let barred := (∃ m, m < 4 ∧ d.bit (Reg.MTR_MP_CFG m) 31 = true) ∨ d.seqEn 4 = true ∨ d.bit Reg.ADC_MCAL 0 = true;
        (barred → Leaves (.mcalStart t) t s (d.setB Reg.ADC_STAT 5 true)) ∧
        (¬ barred → Leaves (.mcalStart t) t s { d.setB Reg.ADC_MCAL 0 true with adc := { d.adc with mcalEnd := some (x + 1800 * uUs) } })) ∧
      (∀ end_, d.adc.mcalEnd = some end_ → end_ ≤ x → d.fld Reg.SYS_BOOT 3 0 ≠ 8 →
        let f0 := calFactors zero ref
        let f1 := calFactors z1 r1
        let ok (p : Nat × Int) : Prop := 0x7000 ≤ p.1 ∧ p.1 ≤ 0x9000 ∧ p.2.natAbs ≤ 16 * 64
        ∃ d', Leaves (.mcalDone t zero ref z1 r1) t s d' ∧ d' = { d with regs := d'.regs, hwSet := d'.hwSet, adc := d'.adc, anv := d'.anv } ∧ d'.adc.mcalEnd = none ∧
          RegsKept d d' [Reg.ADC_MCAL, Reg.ADC_M_FACT 0, Reg.ADC_M_FACT 1, Reg.ADC_STAT] ∧ BitsKept d d' Reg.ADC_MCAL 2 0 ∧ BitsKept d d' Reg.ADC_STAT 0 0 ∧
          d'.bit Reg.ADC_MCAL 0 = false ∧ (d'.bit Reg.ADC_MCAL 1 = true ↔ ok f0 ∧ ok f1) ∧ (d'.bit Reg.ADC_MCAL 2 = true ↔ ¬ (ok f0 ∧ ok f1)) ∧
          d'.rd (Reg.ADC_M_FACT 0) = BitVec.ofNat 32 (f0.1 * 2 ^ 16 + ofSigned 16 f0.2) ∧
          d'.rd (Reg.ADC_M_FACT 1) = BitVec.ofNat 32 (f1.1 * 2 ^ 16 + ofSigned 16 f1.2) ∧
          (ok f0 → ok f1 → d'.bit Reg.ADC_STAT 0 = false ∧ d'.anv = d.anv) ∧
          (¬ (ok f0 ∧ ok f1) → d'.bit Reg.ADC_STAT 0 = d.bit Reg.ADC_STAT 0 ∧ (Quiet d .per x 236 → ∃ data, Requested d' .per x 236 0xC104 data)))) ∧
  (
    ∀ (t : Nat) (b : Fin 4) (sl : Nat) (raw : Int) (exceeds : Bool) (chk : DarningCheck) (s : State) (c : Conv), s.dev.runsIn 9 = true →
      let d := (s.arrive t).dev
      let x := Nat.max s.now t
      let k := d.bank b
      let sr := Reg.ADC_SLICE b
      let dn := d.darning b
      let off (sum : Int) : Prop := 96 < (sum - 16 * 7373).natAbs;
      sl < 5 → dn < 5 → sl ≠ dn → k.conv.find? (fun q => q.slice == sl && decide (q.start + 200 * uNs ≤ x)) = some c → c.ch < 12 →
      (k.conv.erase c).all (fun q => q.slice != sl) = true → k.marked = some sl → d.bit (Reg.ADC_CTRL b) 30 = true → k.group = none →
        ∃ d', Leaves (.adcConversionDone t (b.castLE (by decide)) sl raw exceeds (some chk)) t s d' ∧ (d'.bank b).marked = none ∧
          (d'.bank b).darnReady = false ∧
          (chk.diffSum ≤ 96 ∨ ¬ off chk.leaveRef ∧ ¬ off chk.darnRef →
            d'.darning b = sl ∧ d'.fld sr 15 0 = (d.fld sr 15 0 + 1) % 2 ^ 16 ∧ d'.fld sr 31 19 = d.fld sr 31 19 ∧ nth 0 (d'.bank b).freeAt dn = x) ∧
          (96 < chk.diffSum → off chk.leaveRef → ¬ off chk.darnRef →
            d'.darning b = 7 ∧ d'.fld sr 15 0 = (d.fld sr 15 0 + 1) % 2 ^ 16 ∧ d'.sliceFaulted b sl = true ∧
            (∀ q, q < 5 → q ≠ sl → d'.sliceFaulted b q = d.sliceFaulted b q) ∧ d'.bit Reg.ADC_STAT 2 = true) ∧
          (96 < chk.diffSum → ¬ off chk.leaveRef → off chk.darnRef →
            d'.darning b = 7 ∧ d'.fld sr 15 0 = d.fld sr 15 0 ∧ d'.sliceFaulted b dn = true ∧
            (∀ q, q < 5 → q ≠ dn → d'.sliceFaulted b q = d.sliceFaulted b q) ∧ d'.bit Reg.ADC_STAT 2 = true) ∧
          (96 < chk.diffSum → off chk.leaveRef → off chk.darnRef →
            d'.darning b = 7 ∧ d'.fld sr 15 0 = d.fld sr 15 0 ∧ d'.sliceFaulted b dn = true ∧ d'.sliceFaulted b sl = true ∧
            (∀ q, q < 5 → q ≠ dn → q ≠ sl → d'.sliceFaulted b q = d.sliceFaulted b q) ∧ d'.bit Reg.ADC_STAT 2 = true) ∧
          (96 < chk.diffSum → Quiet d .per x 235 →
            Requested d' .per x 235 0xC103
              [(1, b), (1, sl), (1, match decide (96 < (chk.leaveRef - 16 * 7373).natAbs), decide (96 < (chk.darnRef - 16 * 7373).natAbs) with
                | true, false => 0 | false, true => 1 | true, true => 2 | false, false => 3)]))

/-- O9 (tier 2): Encoder counting, index, serial transfers and the observer update. Rules: R241 to R254. -/
def Obligations.EncoderCountingAndSerial : Prop :=
  (
    ∀ (t : Nat) (k : Fin 2) (a b : List Bool) (s : State), s.dev.runsIn 10 = true →
      let x := Nat.max s.now t
      let d := ((s.arrive t).dev).setEnc k fun c => { c with pinA := a.headD c.pinA, pinB := b.headD c.pinB }
      let c := d.encCh k
      let fa := filterLevel (d.encFilt k) a c.a
      let fb := filterLevel (d.encFilt k) b c.b
      let st := Reg.ENCK_STAT k
      let w := d.encWrap k
      let r := d.encR k
      let mul := d.fld (Reg.ENCK_CFG k) 28 27
      let counts := mul = 0 ∧ (c.a ≠ fa ∨ c.b ≠ fb) ∨ mul = 1 ∧ c.a ≠ fa ∨ mul = 2 ∧ c.a ≠ fa ∧ fa = true
      let loads := ∃ l, c.loaded = some l ∧ l.cycle = x / uPer
      let samples := d.running = true ∧ x / uPer = d.frm.t0 / uPer;
      (∀ (n : Nat) (l : List Bool) (v was : Bool), 0 < n →
        (n ≤ l.length → (∀ y ∈ l.take n, y = v) → filterLevel n l was = v) ∧
        (l.length < n ∨ true ∈ l.take n ∧ false ∈ l.take n → filterLevel n l was = was)) ∧
      (d.encEn k = false ∨ d.encSerial k = true → Leaves (.encCountStep t k a b) t s (d.setEnc k fun c => { c with a := fa, b := fb })) ∧
      (d.encEn k = true → d.encSerial k = false → ¬ loads → mul < 3 → (c.a = fa ∨ c.b = fb) → ¬ counts →
        ∃ d', Leaves (.encCountStep t k a b) t s d' ∧ d' = { d with regs := d'.regs, enc := d'.enc } ∧ RegsKept d d' [Reg.ENCK_SPEED k] ∧
          (d'.encCh k).a = fa ∧ (d'.encCh k).b = fb ∧ (d'.encCh k).steps = c.steps ∧ (∀ j, j ≠ k.val → d'.encCh j = d.encCh j) ∧
          (¬ samples → d' = d.setEnc k fun c => { c with a := fa, b := fb })) ∧
      (d.encEn k = true → d.encSerial k = false → ¬ loads → c.a ≠ fa → c.b ≠ fb →
        ∃ d', Leaves (.encCountStep t k a b) t s d' ∧ d' = { d with regs := d'.regs, hwSet := d'.hwSet, enc := d'.enc, anv := d'.anv } ∧
          RegsKept d d' [st, Reg.ENCK_SPEED k] ∧ BitsKept d d' st 3 3 ∧ d'.bit st 3 = true ∧ (¬ samples → d'.rd (Reg.ENCK_SPEED k) = d.rd (Reg.ENCK_SPEED k)) ∧
          (d'.encCh k).fault = true ∧ (∀ j, j ≠ k.val → d'.encCh j = d.encCh j) ∧
          (d.bit st 3 = false → Quiet d .per x (154 + 4 * k.val) → Requested d' .per x (154 + 4 * k.val) (0x3102 + 16 * k.val) [(1, 0)])) ∧
      (d.encEn k = true → d.encSerial k = false → ¬ loads → counts → (c.a = fa ∨ c.b = fb) → 0 < w →
        let up := (if c.a = fa then fa == fb else fa != fb) != d.bit (Reg.ENCK_CFG k) 29
        let dir : Int := if up then 1 else -1
        ∃ d', Leaves (.encCountStep t k a b) t s d' ∧ d' = { d with regs := d'.regs, hwSet := d'.hwSet, enc := d'.enc } ∧
          RegsKept d d' [Reg.ENCK_RAW k, Reg.ENCK_POS k, Reg.ENCK_TURNS k, st, Reg.ENCK_SPEED k] ∧ BitsKept d d' st 1 0 ∧
          (¬ samples → d'.rd (Reg.ENCK_SPEED k) = d.rd (Reg.ENCK_SPEED k)) ∧
          d'.encR k = (((r : Int) + dir) % (w : Int)).toNat ∧
          d'.bit st 0 = !up ∧ (d.bit st 1 = true ∨ c.lastUp = some (!up) → d'.bit st 1 = true) ∧
          (d.bit st 1 = false → c.lastUp ≠ some (!up) →
            d'.bit st 1 = false ∧ (d'.encP k : Int) = (d.encX k + dir) % (w : Int) ∧
            d'.rd (Reg.ENCK_TURNS k) = BitVec.ofNat 32 (ofSigned 32 ((d.encX k + dir) / (w : Int)))) ∧
          (∀ j, j ≠ k.val → d'.encCh j = d.encCh j)) ∧
      (∀ l, d.encEn k = true → d.encSerial k = false → c.loaded = some l → l.cycle = x / uPer →
        ∃ d', Leaves (.encCountStep t k a b) t s d' ∧ d' = { d with regs := d'.regs, hwSet := d'.hwSet, enc := d'.enc, anv := d'.anv } ∧
          RegsKept d d' [Reg.ENCK_RAW k, Reg.ENCK_POS k, Reg.ENCK_TURNS k, st, Reg.ENCK_SPEED k] ∧ BitsKept d d' st 3 0 ∧ (∀ j, j ≠ k.val → d'.encCh j = d.encCh j) ∧
          d'.rd (Reg.ENCK_RAW k) = BitVec.ofNat 32 l.value ∧ d'.rd (Reg.ENCK_POS k) = BitVec.ofNat 32 l.value ∧ d'.rd (Reg.ENCK_TURNS k) = 0)) ∧
  (
    ∀ (t : Nat) (k : Fin 2) (z : List Bool) (s : State), s.dev.runsIn 10 = true →
      let x := Nat.max s.now t
      let d := ((s.arrive t).dev).setEnc k fun c => { c with pinZ := z.headD c.pinZ }
      let c := d.encCh k
      let fz := filterLevel (d.encFilt k) z c.z
      let st := Reg.ENCK_STAT k
      let w := d.encWrap k
      let r := d.encR k
      let loads := ∃ l, c.loaded = some l ∧ l.cycle = x / uPer
      let samples := d.running = true ∧ x / uPer = d.frm.t0 / uPer
      let e := encDiff w r
      let home := d.encIdxMode k = 2 ∧ c.homePend = true
      let tol := d.fld (Reg.ENCK_IDX k) 7 0
      let again := d.fld (Reg.ENCK_IDX k) 15 8
      let run := if d.fld st 31 24 ≠ 0 ∧ (d.rd (Reg.ENCK_IDXERR k)).toNat = r then Nat.min (d.fld st 31 24 + 1) 255 else 1;
      (fz = false ∨ c.z = true ∨ d.encEn k = false ∨ d.encSerial k = true → Leaves (.encIndex t ⟨k, z⟩) t s (d.setEnc k fun c => { c with z := fz })) ∧
      (fz = true → c.z = false → d.encEn k = true → d.encSerial k = false → d.encIdxMode k = 0 → ¬ loads → ¬ samples →
        Leaves (.encIndex t ⟨k, z⟩) t s (d.setEnc k fun c => { c with z := fz })) ∧
      (fz = true → c.z = false → d.encEn k = true → d.encSerial k = false → d.encIdxMode k ≠ 0 → ¬ loads → 0 < w → r < w →
        ∃ d', Leaves (.encIndex t ⟨k, z⟩) t s d' ∧ d' = { d with regs := d'.regs, hwSet := d'.hwSet, enc := d'.enc, anv := d'.anv } ∧
          RegsKept d d' [Reg.ENCK_RAW k, Reg.ENCK_POS k, Reg.ENCK_TURNS k, Reg.ENCK_IDXERR k, st, Reg.ENCK_SPEED k] ∧
          (¬ samples → d'.rd (Reg.ENCK_SPEED k) = d.rd (Reg.ENCK_SPEED k)) ∧ (∀ j, j ≠ k.val → d'.encCh j = d.encCh j) ∧
          (home → d'.encR k = 0 ∧ (d'.encP k : Int) = (d.encX k - r) % (w : Int) ∧ d'.bit st 2 = true ∧ d'.fld st 31 24 = 0 ∧ (d'.encCh k).homePend = false ∧
            (Quiet d .per x (153 + 4 * k.val) → Requested d' .per x (153 + 4 * k.val) (0x3101 + 16 * k.val) [(1, 0), (4, r)])) ∧
          (¬ home → e.natAbs ≤ tol →
            d'.fld st 31 24 = 0 ∧ (d'.encR k : Int) = ((r : Int) - e) % (w : Int) ∧
            (d'.encP k : Int) = (if e = 0 then (d.encP k : Int) else (d.encX k - e) % (w : Int))) ∧
          (¬ home → tol < e.natAbs →
            d'.rd (Reg.ENCK_IDXERR k) = BitVec.ofNat 32 r ∧ d'.bit st 5 = true ∧
            (Quiet d .per x (152 + 4 * k.val) → Requested d' .per x (152 + 4 * k.val) (0x3100 + 16 * k.val) [(4, r), (1, run)])) ∧
          (¬ home → tol < e.natAbs → again < 2 ∨ run ≠ again →
            d'.fld st 31 24 = run ∧ d'.encR k = r ∧ d'.rd (Reg.ENCK_POS k) = d.rd (Reg.ENCK_POS k) ∧ d'.rd (Reg.ENCK_TURNS k) = d.rd (Reg.ENCK_TURNS k)) ∧
          (¬ home → tol < e.natAbs → 2 ≤ again → run = again →
            d'.fld st 31 24 = 0 ∧ d'.bit st 4 = true ∧ (d'.encR k : Int) = ((r : Int) - e) % (w : Int) ∧ (d'.encP k : Int) = (d.encX k - e) % (w : Int)))) ∧
  (
    ∀ (t : Nat) (k : Fin 2) (idle : Bool) (bits : List Bool) (s : State), s.dev.runsIn 10 = true →
      let d := (s.arrive t).dev
      let x := Nat.max s.now t
      let c := d.encCh k
      let st := Reg.ENCK_STAT k
      let w := d.encWrap k
      let a := Reg.ENCK_SER k
      let np := d.fld a 17 12;
      (d.encEn k = true → d.encSerial k = true → d.serialDue x k = true →
        Leaves (.serialTransferStart t k idle) t s (d.setEnc k fun c => { c with serStart := some (x, !idle), serClk := some x })) ∧
      (d.encEn k = false ∨ d.encSerial k = false ∨ d.serialDue x k = false → Leaves (.serialTransferStart t k idle) t s d) ∧
      (∀ st0, d.encEn k = true → d.encSerial k = true → c.serStart = some (st0, false) → d.serialEnd k st0 ≤ x → d.bit a 8 = false → d.bit a 6 = false → 0 < w →
        let r := msbNat (if d.bit a 7 then grayDecode (bits.take np) else bits.take np) % w
        ∃ d', Leaves (.serialTransferDone t k bits) t s d' ∧ d' = { d with regs := d'.regs, hwSet := d'.hwSet, enc := d'.enc } ∧
          RegsKept d d' [Reg.ENCK_RAW k, Reg.ENCK_POS k, Reg.ENCK_TURNS k, st] ∧ BitsKept d d' st 2 2 ∧ d'.bit st 2 = true ∧ d'.encR k = r ∧
          (d.bit st 2 = false → d'.encP k = r ∧ d'.rd (Reg.ENCK_TURNS k) = 0) ∧
          (d.bit st 2 = true → (d'.encP k : Int) = (d.encX k + encDiff w ((r : Int) - d.encP k)) % (w : Int)) ∧
          (d'.encCh k).serStart = none ∧ (d'.encCh k).serErrRun = 0 ∧ (d'.encCh k).serGood.head? = some (st0, (r : Int)) ∧
          (∀ j, j ≠ k.val → d'.encCh j = d.encCh j)) ∧
      (∀ st0, d.encEn k = true → d.encSerial k = true → c.serStart = some (st0, true) → d.serialEnd k st0 ≤ x →
        ∃ d', Leaves (.serialTransferDone t k bits) t s d' ∧ d' = { d with regs := d'.regs, hwSet := d'.hwSet, enc := d'.enc, anv := d'.anv } ∧
          RegsKept d d' [st] ∧ d'.fld st 23 8 = Nat.min (d.fld st 23 8 + 1) 65535 ∧ (d'.encCh k).serStart = none ∧ (d'.encCh k).serErrRun = c.serErrRun + 1 ∧
          (d'.encCh k).serGood = c.serGood ∧ (∀ j, j ≠ k.val → d'.encCh j = d.encCh j) ∧
          (c.serErrRun + 1 ≠ d.fld a 5 2 → BitsKept d d' st 23 8) ∧
          (c.serErrRun + 1 = d.fld a 5 2 → d'.bit st 3 = true ∧
            (d.bit st 3 = false → Quiet d .per x (154 + 4 * k.val) → Requested d' .per x (154 + 4 * k.val) (0x3102 + 16 * k.val) [(1, 1)]))) ∧
      (c.serStart = none ∨ (∃ p, c.serStart = some p ∧ x < d.serialEnd k p.1) → Leaves (.serialTransferDone t k bits) t s d) ∧
      (let due := c.obs.lastU + 200 * uNs;
        (d.encEn k = true → d.encSerial k = false → w ≤ 65536 → due ≤ x →
          Leaves (.observerUpdate t k) t s
            (d.setEnc k fun c => { c with obs := obsUpdate (d.rd (Reg.ENCK_BW k)) c.obs due (some (d.encX k * 2 ^ 32)) })) ∧
        (d.encEn k = false ∨ d.encSerial k = true ∨ 65536 < w ∨ x < due → Leaves (.observerUpdate t k) t s d)))

/-- O10 (tier 2): Probe edges, LOAD, and writes of encoder and emulation configuration. Rules: R250, R255 to R259. -/
def Obligations.EncoderRegisters : Prop :=
  ∀ (t : Nat) (k : Fin 2) (pin : Fin 4) (rising : Bool) (v : Word) (s : State), s.dev.runs = true →
    let d := (s.arrive t).dev
    let x := Nat.max s.now t
    let st := Reg.ENCK_STAT k
    let active := d.clocked 10 = true ∧ d.encEn k = true ∧ d.bit (Reg.ENCK_CFG k) 24 = true ∧ d.fld (Reg.ENCK_CFG k) 23 22 = pin.val ∧
      d.bit (Reg.ENCK_CFG k) (if rising then 20 else 21) = true;
    (¬ active → Leaves (.probeEdge t k ⟨pin, rising⟩) t s d) ∧
    (active → d.bit st 6 = true → Leaves (.probeEdge t k ⟨pin, rising⟩) t s (d.setB st 7 true)) ∧
    (active → d.bit st 6 = false → (∀ l, (d.encCh k).loaded = some l → l.cycle ≠ x / uPer) →
      ∃ d', Leaves (.probeEdge t k ⟨pin, rising⟩) t s d' ∧ d' = { d with regs := d'.regs, hwSet := d'.hwSet, anv := d'.anv } ∧
        RegsKept d d' [Reg.ENCK_PRB_POS k, Reg.ENCK_PRB_SPD k, Reg.ENCK_PRB_TLO k, Reg.ENCK_PRB_THI k, st] ∧ BitsKept d d' st 6 6 ∧ d'.bit st 6 = true ∧
        d'.rd (Reg.ENCK_PRB_POS k) = d.rd (Reg.ENCK_POS k) ∧ d'.rd (Reg.ENCK_PRB_SPD k) = d.encRad k (d.encSpeed x k) ∧
        d'.rd (Reg.ENCK_PRB_TLO k) = BitVec.ofNat 32 (d.ns x) ∧ d'.rd (Reg.ENCK_PRB_THI k) = BitVec.ofNat 32 (d.ns x / 2 ^ 32) ∧
        (Quiet d .per x (155 + 4 * k.val) → Requested d' .per x (155 + 4 * k.val) (0x3103 + 16 * k.val) [(4, d.encP k)])) ∧
    (d.encWrap k ≤ v.toNat → Leaves (.encLoad t k v) t s (d.setB Reg.ENC_STAT 0 true)) ∧
    (v.toNat < d.encWrap k →
      ∃ d', Leaves (.encLoad t k v) t s d' ∧ d' = { d with regs := d'.regs, hwSet := d'.hwSet, enc := d'.enc } ∧
        RegsKept d d' [Reg.ENCK_RAW k, Reg.ENCK_POS k, Reg.ENCK_TURNS k, st] ∧ BitsKept d d' st 1 1 ∧ d'.bit st 1 = false ∧
        d'.rd (Reg.ENCK_RAW k) = v ∧ d'.rd (Reg.ENCK_POS k) = v ∧ d'.rd (Reg.ENCK_TURNS k) = 0 ∧
        (d'.encCh k).obs.xh = (d.encCh k).obs.xh + ((v.toNat : Int) - d.encX k) * 2 ^ 32) ∧
    (let d1 := d.rw (Reg.ENCK_CFG k) v
      let refused := (d.encEn k = true ∧ d1.fld (Reg.ENCK_CFG k) 30 0 ≠ d.fld (Reg.ENCK_CFG k) 30 0) ∨
        (d.encEn k = false ∧ d1.encEn k = true ∧ d1.encValid k = false);
      (refused → Leaves (.encEnableWrite t k v) t s (d.setB Reg.ENC_STAT 0 true)) ∧
      (¬ refused → d.encEn k = true ∨ d1.encEn k = false → Leaves (.encEnableWrite t k v) t s d1) ∧
      (¬ refused → d.encEn k = false → d1.encEn k = true →
        ∃ d', Leaves (.encEnableWrite t k v) t s d' ∧ d' = { d1 with regs := d'.regs, hwSet := d'.hwSet, enc := d'.enc } ∧
          RegsKept d1 d' [Reg.ENCK_RAW k, Reg.ENCK_POS k, Reg.ENCK_TURNS k, st] ∧ d'.rd (Reg.ENCK_RAW k) = 0 ∧ d'.rd (Reg.ENCK_POS k) = 0 ∧
          d'.rd (Reg.ENCK_TURNS k) = 0 ∧ (d'.encCh k).homePend = true ∧ (d'.encCh k).serGood = [] ∧ (d'.encCh k).obs.wh = 0)) ∧
    (let d1 := d.rw Reg.ENC_EMU v;
      (d1.emuOk = false → Leaves (.encEmuWrite t v) t s (d.setB Reg.ENC_STAT 0 true)) ∧
      (d1.emuOk = true → d1.bit Reg.ENC_EMU 31 = true → d.bit Reg.ENC_EMU 31 = false →
        Leaves (.encEmuWrite t v) t s
          { d1 with enc := { d1.enc with acc := 0, eoA := (d1.encCh 0).pinA, eoB := (d1.encCh 0).pinB, eoAt := 0, eozEnd := 0 } }) ∧
      (d1.emuOk = true → d1.bit Reg.ENC_EMU 31 = false ∨ d.bit Reg.ENC_EMU 31 = true → Leaves (.encEmuWrite t v) t s d1))

/-- O11 (tier 2): Metering samples, window starts, snapshots, additions and enable writes. Rules: R262 to R273. -/
def Obligations.Metering : Prop :=
  (
    ∀ (t points : Nat) (m : Fin 4) (s : State), s.dev.runsIn 11 = true →
      let d := (s.arrive t).dev
      let x := Nat.max s.now t
      let p := d.mp m
      let k := (d.ns x - 200000) / 10000
      let st := Reg.MTR_MP_STATE m
      let snap (j : Nat) := [Reg.MTR_MP_SNP_IMP_LO j, Reg.MTR_MP_SNP_IMP_HI j, Reg.MTR_MP_SNP_EXP_LO j, Reg.MTR_MP_SNP_EXP_HI j,
        Reg.MTR_MP_SNP_CNT j, Reg.MTR_MP_SNP_TLO j, Reg.MTR_MP_SNP_THI j];
      (d.mpEn m = false ∨ d.ns x < 200000 ∨ (∃ l, p.lastK = some l ∧ k ≤ l) → Leaves (.meteringSample t m) t s d) ∧
      (∀ l ks ref pw, d.mpEn m = true → 200000 ≤ d.ns x → p.lastK = some l → l < k → p.kStart = some ks → p.below = false →
        (k - ks) * 10 < d.fld (Reg.MTR_MP_CYC m) 23 16 * 1000 → d.mpState m ≠ 1 → d.mpSample m k = (ref, some (some pw), 0) →
        ∃ d', Leaves (.meteringSample t m) t s d' ∧ d' = { d with regs := d'.regs, mtr := d'.mtr } ∧ RegsKept d d' (snap m) ∧
          (p.snapAt ≠ some (x / uPer) → d'.regs = d.regs) ∧ (d'.mp m).lastK = some k ∧ (d'.mp m).n = p.n + 1 ∧
          (d'.mp m).sumP = p.sumP + pw ∧ (d'.mp m).lastP = pw ∧ (d'.mp m).gapRun = false ∧ (∀ j, j ≠ m.val → d'.mp j = d.mp j)) ∧
      (∀ l ks ref pw, d.mpEn m = true → 200000 ≤ d.ns x → p.lastK = some l → l < k → p.kStart = some ks → d.mpState m = 1 →
        d.fld (Reg.MTR_MP_CYC m) 23 16 * 1000 ≤ (k - ks) * 10 → d.mpSample m k = (ref, some (some pw), 0) →
        ∃ d', Leaves (.meteringSample t m) t s d' ∧ d' = { d with regs := d'.regs, hwSet := d'.hwSet, mtr := d'.mtr, anv := d'.anv } ∧ RegsKept d d' (snap m ++ [st]) ∧ BitsKept d d' st 1 0 ∧
          d'.mpState m = 2 ∧ (d'.mp m).kStart = some k) ∧
      ∃ d', Leaves (.mtrSnap t points) t s d' ∧ d' = { d with regs := d'.regs, mtr := d'.mtr } ∧ d'.mtr.isrc = d.mtr.isrc ∧ d'.mtr.vsrc = d.mtr.vsrc ∧
        (∀ j, j < 4 → d'.mp j = if points.testBit j then { d.mp j with snapAt := some (x / uPer) } else d.mp j) ∧
        (∀ j, j < 4 → points.testBit j = true →
          d'.rd (Reg.MTR_MP_SNP_IMP_LO j) = d.rd (Reg.MTR_MP_IMP_LO j) ∧ d'.rd (Reg.MTR_MP_SNP_IMP_HI j) = d.rd (Reg.MTR_MP_IMP_HI j) ∧
          d'.rd (Reg.MTR_MP_SNP_EXP_LO j) = d.rd (Reg.MTR_MP_EXP_LO j) ∧ d'.rd (Reg.MTR_MP_SNP_EXP_HI j) = d.rd (Reg.MTR_MP_EXP_HI j) ∧
          d'.rd (Reg.MTR_MP_SNP_CNT j) = BitVec.ofNat 32 (d.fld (Reg.MTR_MP_STATE j) 31 8) ∧
          d'.rd (Reg.MTR_MP_SNP_TLO j) = BitVec.ofNat 32 (d.ns (x / uPer * uPer)) ∧ d'.rd (Reg.MTR_MP_SNP_THI j) = BitVec.ofNat 32 (d.ns (x / uPer * uPer) / 2 ^ 32)) ∧
        (∀ a, (∀ j, j < 4 → points.testBit j = true → a ∉ snap j) → d'.rd a = d.rd a)) ∧
  (
    ∀ (t : Nat) (m : Fin 4) (exp : Bool) (v : Word) (s : State), s.dev.runs = true →
      let d := (s.arrive t).dev
      let x := Nat.max s.now t
      let st := Reg.MTR_MP_STATE m
      let c : Instr := if exp then .mtrAddExport t m else .mtrAddImport t m
      let lo := if exp then Reg.MTR_MP_EXP_LO m else Reg.MTR_MP_IMP_LO m
      let hi := if exp then Reg.MTR_MP_EXP_HI m else Reg.MTR_MP_IMP_HI m
      let amount := d.rd64 (Reg.MTR_MP_ADD_LO m) (Reg.MTR_MP_ADD_HI m);
      (d.bit st 2 = true → Leaves c t s (d.setB Reg.MTR_STAT 1 true)) ∧
      (d.bit st 2 = false → d.mpState m < 2 →
        ∃ d', Leaves c t s d' ∧ d' = { d with regs := d'.regs, anv := d'.anv, mtr := d'.mtr } ∧
          RegsKept d d' [lo, hi, Reg.MTR_MP_SNP_IMP_LO m, Reg.MTR_MP_SNP_IMP_HI m, Reg.MTR_MP_SNP_EXP_LO m, Reg.MTR_MP_SNP_EXP_HI m,
            Reg.MTR_MP_SNP_CNT m, Reg.MTR_MP_SNP_TLO m, Reg.MTR_MP_SNP_THI m] ∧
          ((d.mp m).snapAt ≠ some (x / uPer) → RegsKept d d' [lo, hi] ∧ d'.mtr = d.mtr) ∧ d'.rd64 lo hi = (d.rd64 lo hi + amount) % 2 ^ 64 ∧
          (Quiet d .per x 188 → Requested d' .per x 188 0x6104 [(1, m.val), (1, b2n exp), (4, amount % 2 ^ 32)])) ∧
      (d.bit st 2 = false → 2 ≤ d.mpState m → Leaves c t s ((d.setMp m fun p => { p with addPend := some (exp, amount) }).setB st 2 true)) ∧
      (let d1 := d.rw (Reg.MTR_MP_CFG m) v
        let refused := (d.mpEn m = true ∧ d1.fld (Reg.MTR_MP_CFG m) 30 0 ≠ d.fld (Reg.MTR_MP_CFG m) 30 0) ∨
          (d.mpEn m = false ∧ d1.mpEn m = true ∧ (d1.mtrEnOk m = false ∨ d1.mtrRangesOk m = false));
        (refused → Leaves (.mtrEnableWrite t m v) t s (d.setB Reg.MTR_STAT 0 true)) ∧
        (¬ refused → d.mpEn m = d1.mpEn m → Leaves (.mtrEnableWrite t m v) t s d1) ∧
        (¬ refused → d.mpEn m = false → d1.mpEn m = true →
          ∃ d', Leaves (.mtrEnableWrite t m v) t s d' ∧ d' = { d1 with regs := d'.regs, hwSet := d'.hwSet, mtr := d'.mtr } ∧ RegsKept d1 d' [st] ∧ BitsKept d1 d' st 1 0 ∧
            d'.mpState m = 1 ∧ (d'.mp m).n = 0 ∧ (d'.mp m).sumP = 0) ∧
        (¬ refused → d.mpEn m = true → d1.mpEn m = false → d.mpState m < 2 → (d.mp m).addPend = none →
          Leaves (.mtrEnableWrite t m v) t s ((d1.setF st 1 0 0).mtrResnap x m))))

/-- O12 (tier 2): PWM reloads at the period boundary and the peak, reference edges with dead time, and command turn-on. Rules: R283 to R297, R312. -/
def Obligations.PwmReloadsAndEdges : Prop :=
  (
    ∀ (n : Fin 96) (s : State), s.dev.runsIn 7 = true →
      let t := (s.dev.pch n).next
      let tp := (s.dev.pch n).bound + 4 * s.dev.actPer n
      let d := (s.arrive t).dev
      let c := d.pch n
      let st := Reg.PWM_CH_STAT n
      let pend := d.shadowPend n
      let acts := [Reg.PWM_CH_ACT_PER n, Reg.PWM_CH_ACT_CMPU n, Reg.PWM_CH_ACT_CMPD n, st, Reg.PWM_STAT, Reg.PWM_MINP_CNT]
      d.pwmEn n = true → d.pwmSrcList n = false → d.pwmSrcPend n = false → c.sets = [] → d.fltLow n = false →
      (let x := Nat.max s.now t
        let per := if pend then c.shPer else d.rd (Reg.PWM_CH_ACT_PER n)
        let ph := (d.rd (Reg.PWM_CH_PHASE n)).toNat
        let e0 : Int := ((d.fine x + ph % 8 : Nat) : Int) - ((d.frm.tref * 8 + ph : Nat) : Int)
        let e := e0 - roundDiv e0 (8 * per.toNat) * ((8 * per.toNat : Nat) : Int)
        let slew : Int := d.fld (Reg.PWM_CH_LOCK n) 7 0
        ∃ d', Leaves (.periodBoundary n) t s d' ∧ d' = { d with regs := d'.regs, hwSet := d'.hwSet, pwm := d'.pwm, gdp := d'.gdp, anv := d'.anv } ∧
          (∀ m, m ≠ n.val → d'.pch m = d.pch m ∧ d'.gch m = d.gch m) ∧
          (d'.pch n).bound = x ∧ (d'.pch n).begun = true ∧ (d'.pch n).peakDone = false ∧ (d'.pch n).dt = d.fld (Reg.PWM_CH_DT n) 13 0 ∧
          (d'.pch n).minp = d.fld (Reg.PWM_CH_DT n) 29 16 ∧ (d'.pch n).phase = ph ∧ (d'.pch n).ovr = d.fld (Reg.PWM_CH_OVR n) 1 0 ∧
          (c.ovr ≠ d.fld (Reg.PWM_CH_OVR n) 1 0 → (d'.pch n).ovrWas = c.ovr ∧ (d'.pch n).ovrOff = x + d.fld (Reg.PWM_CH_DT n) 13 0 * uNs) ∧
          (d.pwmLock n = false → (d'.pch n).next = x + per.toNat * uNs ∧ RegsKept d d' acts) ∧
          (d.pwmLock n = true →
            (d'.pch n).next = x + ((per.toNat : Int) - clampI (-slew) slew (roundDiv e 8)).toNat * uNs ∧
            d'.rd (Reg.PWM_CH_LERR n) = BitVec.ofNat 32 (ofSigned 32 e) ∧ RegsKept d d' (Reg.PWM_CH_LERR n :: Reg.PWM_LOCKED (n.val / 32) :: acts)) ∧
          (pend = true → d'.rd (Reg.PWM_CH_ACT_PER n) = c.shPer ∧ d'.rd (Reg.PWM_CH_ACT_CMPU n) = clipCmp c.shPer c.shU ∧
            d'.rd (Reg.PWM_CH_ACT_CMPD n) = clipCmp c.shPer c.shD ∧ d'.bit st 28 = false) ∧
          (pend = false → d'.rd (Reg.PWM_CH_ACT_PER n) = d.rd (Reg.PWM_CH_ACT_PER n) ∧ d'.rd (Reg.PWM_CH_ACT_CMPU n) = d.rd (Reg.PWM_CH_ACT_CMPU n) ∧
            d'.rd (Reg.PWM_CH_ACT_CMPD n) = d.rd (Reg.PWM_CH_ACT_CMPD n))) ∧
      (c.begun = true → c.peakDone = false → d.pwmMode n = 2 → d.bit (Reg.PWM_CH_CFG n) 28 = true →
        ∃ d', Leaves (.peakReload n) tp s d' ∧ d' = { (s.arrive tp).dev with regs := d'.regs, hwSet := d'.hwSet, pwm := d'.pwm, gdp := d'.gdp, anv := d'.anv } ∧
          (d'.pch n).peakDone = true ∧ RegsKept d d' acts ∧
          (pend = true → c.shPer = d.rd (Reg.PWM_CH_ACT_PER n) →
            d'.rd (Reg.PWM_CH_ACT_CMPU n) = clipCmp c.shPer c.shU ∧ d'.rd (Reg.PWM_CH_ACT_CMPD n) = clipCmp c.shPer c.shD ∧ d'.bit st 28 = false) ∧
          (pend = false ∨ c.shPer ≠ d.rd (Reg.PWM_CH_ACT_PER n) →
            d'.rd (Reg.PWM_CH_ACT_CMPU n) = d.rd (Reg.PWM_CH_ACT_CMPU n) ∧ d'.rd (Reg.PWM_CH_ACT_CMPD n) = d.rd (Reg.PWM_CH_ACT_CMPD n) ∧ d'.bit st 28 = pend))) ∧
  (
    ∀ (t : Nat) (n : Fin 96) (high : Bool) (s : State), s.dev.runsIn 7 = true →
      let d := (s.arrive t).dev
      let x := Nat.max s.now t
      let c := d.pch n
      let tau := x - c.bound
      let per := d.actPer n
      let u := d.rd (Reg.PWM_CH_ACT_CMPU n)
      let v := d.rd (Reg.PWM_CH_ACT_CMPD n)
      let below (w : Word) : Prop := w = 0xFFFFFFFF#32 ∨ tau < w.toNat
      let above (w : Word) : Prop := w = 0xFFFFFFFF#32 ∨ (w ≠ 0 ∧ 8 * per ≤ tau + w.toNat)
      let high_ : Prop := (d.pwmMode n = 0 ∧ below u) ∨ (d.pwmMode n = 1 ∧ above u) ∨
        (2 ≤ d.pwmMode n ∧ ((tau < 4 * per ∧ below u) ∨ (4 * per ≤ tau ∧ above v)))
      let rules := if d.pwmMode n = 2 ∧ 4 * per ≤ tau then v else u
      d.fltLow n = false →
      (d.pwmEn n = true → c.begun = true → d.pwmSrcList n = false → d.pwmLock n = false → c.minp = 0 → c.deferred = none → 0 < c.dt →
        c.bound ≤ x → c.lastReload ≤ x → tau < 8 * per → (∀ l, c.lastEdge = some l → l ≤ x) →
        ∃ d', Leaves (.referenceEdge t n) t s d' ∧ d' = { d with pwm := d'.pwm, gdp := d'.gdp } ∧ (∀ m, m ≠ n.val → d'.pch m = d.pch m ∧ d'.gch m = d.gch m) ∧
          ((d'.pch n).level = true ↔ high_) ∧ ((d'.pch n).level = c.level → d'.pch n = c) ∧
          ((d'.pch n).level ≠ c.level → (d'.pch n).lastEdge = some x) ∧
          ((d'.pch n).level = true → c.level = false → (d'.pch n).lo = false ∧ (d'.pch n).hiOn = some (x + c.dt * uNs) ∧ (d'.pch n).loOn = none) ∧
          ((d'.pch n).level = false → c.level = true → (d'.pch n).hi = false ∧ (d'.pch n).loOn = some (x + c.dt * uNs) ∧ (d'.pch n).hiOn = none)) ∧
      (∀ l, d.pwmEn n = true → c.begun = true → d.pwmSrcList n = false → d.pwmLock n = false → c.deferred = none → d.pwmMode n < 3 →
        c.bound ≤ x → c.lastReload ≤ x → tau < 8 * per → c.lastEdge = some l → l ≤ x → x < l + c.minp * uNs → ¬ (c.level = true ↔ high_) →
        (rules ≠ 0 → rules ≠ 0xFFFFFFFF#32 →
          Leaves (.referenceEdge t n) t s
            ((d.setPch n fun c => { c with deferred := some (l + c.minp * uNs, !c.level) }).inc Reg.PWM_MINP_CNT 31 0)) ∧
        (rules = 0 ∨ rules = 0xFFFFFFFF#32 →
          ∃ d', Leaves (.referenceEdge t n) t s d' ∧ d' = { d with pwm := d'.pwm, gdp := d'.gdp } ∧ (∀ m, m ≠ n.val → d'.pch m = d.pch m ∧ d'.gch m = d.gch m) ∧
            (d'.pch n).level = !c.level ∧ (d'.pch n).lastEdge = some x ∧ (d'.pch n).deferred = none)) ∧
      (∀ a, (if high then c.hiOn else c.loOn) = some a →
        ∃ d', Leaves (.commandTurnOn t n high) t s d' ∧ d' = { d with pwm := d'.pwm, gdp := d'.gdp } ∧ (∀ m, m ≠ n.val → d'.pch m = d.pch m ∧ d'.gch m = d.gch m) ∧
          (x < a → d'.pch n = c) ∧
          (a ≤ x → (if high then (d'.pch n).hi else (d'.pch n).lo) = true ∧ (if high then (d'.pch n).hiOn else (d'.pch n).loOn) = none) ∧
          (a ≤ x → d.legLost n = false → d.testing 0 n = false → d.chUse n = none → (d.gch n).relAt ≤ x →
            (if high then (d'.gch n).gHi else (d'.gch n).gLo) = true ∧
            ((if high then (d.gch n).gHi else (d.gch n).gLo) = false → d.fld (Reg.GDP_CH_CFG n) 13 0 ≠ 0 →
              (d'.gch n).winEnd = ceilDiv x uNs * uNs + d.fld (Reg.GDP_CH_CFG n) 13 0 * uNs))))

/-- O13 (tier 2): PWM set and edge-list commits, their presentation, and writes of a channel's enable. Rules: R283 to R303. -/
def Obligations.PwmCommitsAndEnable : Prop :=
  (
    ∀ (t : Nat) (n : Fin 96) (v : Word) (s : State), s.dev.runs = true →
      let d := (s.arrive t).dev
      let x := Nat.max s.now t
      let c := d.pch n
      let st := Reg.PWM_CH_STAT n
      let refuse := d.setB Reg.PWM_STAT 0 true
      let part (b : Bool) (a : Nat) : Option Word := if b then some (d.rd a) else none
      let q : PwmSet := { present := x / uNs * uNs + 4 * uNs, per := part (tbit v 0) (Reg.PWM_CH_PER n)
                          cmpu := part (tbit v 1) (Reg.PWM_CH_CMPU n), cmpd := part (tbit v 1) (Reg.PWM_CH_CMPD n) }
      let put := d.setPch n fun c => { c with sets := c.sets ++ [q] };
      (tbit v 0 = false → tbit v 1 = false → Leaves (.pwmSetCommit t n v) t s d) ∧
      (tbit v 0 = true ∨ tbit v 1 = true → d.pwmOwned n = true → Leaves (.pwmSetCommit t n v) t s refuse) ∧
      (d.pwmOwned n = false → tbit v 1 = true → tbit v 0 = true ∨ d.bit (Reg.PWM_CH_CFG n) 27 = false → Leaves (.pwmSetCommit t n v) t s put) ∧
      (d.pwmOwned n = false → (tbit v 0 = true ∧ tbit v 1 = false) ∨ (tbit v 0 = false ∧ tbit v 1 = true ∧ d.bit (Reg.PWM_CH_CFG n) 27 = true) →
        Leaves (.pwmSetCommit t n v) t s (((put.setB Reg.PWM_STAT 2 true).inc Reg.PWM_PARTIAL_CNT 31 0).raise .pwm x 176 0x5100
          (setData n 0 (q.per.getD 0) (q.cmpu.getD 0) (q.cmpd.getD 0)))) ∧
      (8 ≤ c.elStage.length → Leaves (.pwmElWrite t n v) t s refuse) ∧
      (c.elStage.length < 8 → Leaves (.pwmElWrite t n v) t s (d.setPch n fun c => { c with elStage := c.elStage ++ [v] })) ∧
      (d.pwmOwned n = true → Leaves (.pwmEdgeListCommit t n) t s refuse) ∧
      (d.pwmOwned n = false → c.elStage = [] → Leaves (.pwmEdgeListCommit t n) t s d) ∧
      (d.pwmOwned n = false → c.elStage ≠ [] →
        ∃ d', Leaves (.pwmEdgeListCommit t n) t s d' ∧ d' = { d with pwm := d'.pwm } ∧ (∀ m, m ≠ n.val → d'.pch m = d.pch m) ∧
          d'.pch n = { c with lists := c.lists ++ [{ present := x / uNs * uNs + 4 * uNs, words := c.elStage }], elStage := [] }) ∧
      (∀ w : PwmSet, c.sets = [w] → w.present ≤ x →
        let p := w.per.getD c.shPer
        let u := w.cmpu.getD c.shU
        let z := w.cmpd.getD c.shD;
        (d.clocked 7 = true → d.pwmEn n = false →
          ∃ d', Leaves (.setPresent t n) t s d' ∧ d' = { d with regs := d'.regs, hwSet := d'.hwSet, pwm := d'.pwm, anv := d'.anv } ∧ (d'.pch n).sets = [] ∧
            RegsKept d d' [Reg.PWM_CH_ACT_PER n, Reg.PWM_CH_ACT_CMPU n, Reg.PWM_CH_ACT_CMPD n, st, Reg.PWM_STAT] ∧ d'.bit st 28 = false ∧
            d'.rd (Reg.PWM_CH_ACT_PER n) = p ∧ d'.rd (Reg.PWM_CH_ACT_CMPU n) = clipCmp p u ∧ d'.rd (Reg.PWM_CH_ACT_CMPD n) = clipCmp p z) ∧
        (d.clocked 7 = true → d.pwmEn n = true → x / uNs ≠ d.nextReload n / uNs → w.present / uNs ≠ c.lastReload / uNs → d.pwmSrcList n = false → d.pwmSrcPend n = false →
          ∃ d', Leaves (.setPresent t n) t s d' ∧ d' = { d with regs := d'.regs, hwSet := d'.hwSet, pwm := d'.pwm } ∧ RegsKept d d' [st] ∧ BitsKept d d' st 28 28 ∧
            d'.bit st 28 = true ∧ d'.pch n = { c with sets := [], shPer := p, shU := u, shD := z })) ∧
      (∀ w : PwmList, c.lists = [w] → w.present ≤ x → w.words ≠ [] → w.words.length ≤ 8 →
        let es := w.words.map fun e => (d.fine d.frm.t0 + natBits e.toNat 30 0, tbit e 31);
        (d.clocked 7 = true → d.pwmEn n = false →
          ∃ d', Leaves (.edgeListPresent t n) t s d' ∧ d' = { d with regs := d'.regs, hwSet := d'.hwSet, pwm := d'.pwm, anv := d'.anv } ∧ (d'.pch n).edges = c.edges ∧
            RegsKept d d' [Reg.PWM_STAT, Reg.PWM_ELDROP_CNT] ∧ d'.bit Reg.PWM_STAT 5 = true ∧
            (Quiet d .pwm x 179 → Requested d' .pwm x 179 0x5103 [(1, n.val), (1, 4), (1, w.words.length)])) ∧
        (d.clocked 7 = true → d.pwmEn n = true → List.Pairwise (fun a b => a.1 < b.1) es → (∀ e ∈ es, d.fine x + 16 * 8 ≤ e.1) → d.pwmSrcList n = true → c.edges = [] →
          ∃ d', Leaves (.edgeListPresent t n) t s d' ∧ d' = { d with regs := d'.regs, hwSet := d'.hwSet, pwm := d'.pwm } ∧ (d'.pch n).edges = es ∧ (d'.pch n).lists = [] ∧
            RegsKept d d' [st] ∧ d'.fld st 4 0 = es.length ∧ d'.bit st 29 = false))) ∧
  (
    ∀ (t : Nat) (n : Fin 96) (v : Word) (s : State), s.dev.runs = true →
      let d := (s.arrive t).dev
      let x := Nat.max s.now t
      let a := Reg.PWM_CH_CFG n
      let d1 := d.rw a v
      let st := Reg.PWM_CH_STAT n
      let refused := (d.pwmEn n = true ∧ d1.fld a 30 26 ≠ d.fld a 30 26) ∨ d1.pwmOk n = false;
      (refused → Leaves (.pwmEnableWrite t n v) t s (d.setB Reg.PWM_STAT 0 true)) ∧
      (¬ refused → d.pwmEn n = d1.pwmEn n → Leaves (.pwmEnableWrite t n v) t s d1) ∧
      (¬ refused → d.pwmEn n = false → d1.pwmEn n = true →
        ∃ d', Leaves (.pwmEnableWrite t n v) t s d' ∧ d' = { d1 with pwm := d'.pwm } ∧ (∀ m, m ≠ n.val → d'.pch m = d.pch m) ∧ (d'.pch n).begun = false ∧
          (d'.pch n).hi = false ∧ (d'.pch n).lo = false ∧ (d'.pch n).hiOn = none ∧ (d'.pch n).loOn = none ∧
          (d1.pwmLock n = false → (d'.pch n).next = (x / uNs * uNs + 4 * uNs) + 16 * uNs) ∧
          (d1.pwmLock n = true → (x / uNs * uNs + 4 * uNs) + 1000 * uNs ≤ (d'.pch n).next + uNs)) ∧
      (¬ refused → d.pwmEn n = true → d1.pwmEn n = false → d.fltLow n = false →
        ∃ d', Leaves (.pwmEnableWrite t n v) t s d' ∧ d' = { d1 with regs := d'.regs, hwSet := d'.hwSet, pwm := d'.pwm, gdp := d'.gdp } ∧ RegsKept d1 d' [st] ∧
          (d'.pch n).begun = false ∧ (d'.pch n).hi = false ∧ (d'.pch n).lo = false ∧ (d'.pch n).hiOn = none ∧ (d'.pch n).loOn = none ∧
          (d'.pch n).edges = [] ∧ (d'.pch n).elStage = [] ∧ d'.bit st 30 = false ∧ d'.bit st 29 = false ∧ d'.bit st 28 = false ∧ d'.fld st 4 0 = 0 ∧
          (d.chUse n = none → (d'.gch n).gHi = false ∧ (d'.gch n).gLo = false)))

/-- O14 (tier 2): Fault inputs, the blanking window and what a leg loses. Rules: R305 to R316. -/
def Obligations.FaultInputsAndBlanking : Prop :=
  (
    ∀ (t : Nat) (n : Fin 96) (s : State),
      let d := (s.arrive t).dev
      let x := Nat.max s.now t
      let g := d.gch n
      let st := Reg.GDP_CH_STAT n;
      (g.pinLow = false →
        ∃ d', Leaves (.fltPinLow t n) t s d' ∧ d' = { d with gdp := d'.gdp } ∧ (∀ m, m ≠ n.val → d'.gch m = d.gch m) ∧
          d'.gch n = { g with pinLow := true, pinAt := x } ∧ (∀ y, y < x + 40 * uNs → d'.pinHeld y n = false) ∧
          (∀ y, x + 120 * uNs ≤ y → d.fltEn n = true → d.inWindow y n = false → d'.pinHeld y n = true)) ∧
      (g.pinLow = true → ∃ d', Leaves (.fltPinLow t n) t s d' ∧ d' = { d with gdp := d'.gdp } ∧ ∀ m, d'.gch m = d.gch m) ∧
      (∃ d', Leaves (.fltPinHigh t n) t s d' ∧ d' = { d with gdp := d'.gdp } ∧ (∀ m, m ≠ n.val → d'.gch m = d.gch m) ∧ (∀ y, d'.pinHeld y n = false) ∧
        (g.pinLow = true → (d'.gch n).pinAt = x)) ∧
      (s.dev.runsIn 7 = true →
        (d.fltEn n = true → g.pinLow = true → d.fltLow n = false → g.pinAt + g.filt * uNs ≤ x → d.legLost n = true → (d.sdi n).prot = false →
          ∃ d', Leaves (.fltDetection t n) t s d' ∧ d' = { d with regs := d'.regs, hwSet := d'.hwSet, gdp := d'.gdp } ∧ RegsKept d d' [st, Reg.GDP_CH_TDET n] ∧
            d'.bit st 28 = true ∧ (d'.gch n).det = g.det ∧ (d'.gch n).decided = g.decided) ∧
        (d.fltEn n = true → g.pinLow = true → d.fltLow n = false → g.pinAt + g.filt * uNs ≤ x →
          (d.inWindow x n = true → (d.sdi n).prot = false →
            ∃ d', Leaves (.fltDetection t n) t s d' ∧ d' = { d with regs := d'.regs, hwSet := d'.hwSet, gdp := d'.gdp } ∧ RegsKept d d' [st, Reg.GDP_CH_TDET n] ∧
              d'.rd (Reg.GDP_CH_TDET n) = BitVec.ofNat 32 (d.ns x) ∧ d'.bit st 28 = true ∧ d'.bit st 30 = true ∧ d'.bit st 29 = d.bit st 29 ∧
              d'.bit st 31 = d.bit st 31 ∧ (d'.gch n).gHi = g.gHi ∧ (d'.gch n).gLo = g.gLo) ∧
          (d.inWindow x n = false → g.gHi = false → g.gLo = false →
            ∃ d', Leaves (.fltDetection t n) t s d' ∧ d' = { d with regs := d'.regs, hwSet := d'.hwSet, gdp := d'.gdp } ∧ RegsKept d d' [st, Reg.GDP_CH_TDET n] ∧
              BitsKept d d' st 28 28 ∧ d'.bit st 28 = true ∧ d'.rd (Reg.GDP_CH_TDET n) = BitVec.ofNat 32 (d.ns x)) ∧
          (d.inWindow x n = false → g.gHi = true ∨ g.gLo = true → d.legLost n = false → d.twn.pairHold = false → d.img.hot = false →
            ∀ b p leg, d.chUse n = some (b, p, leg) → b < 6 → p < 3 → leg < 32 → d.quenched b = false →
              (∀ m, m ≠ n.val → d.legLost m = false) →
              ∃ d', Leaves (.fltDetection t n) t s d' ∧ d' = { d with regs := d'.regs, hwSet := d'.hwSet, gdp := d'.gdp, anv := d'.anv } ∧
                RegsKept d d' [st, Reg.GDP_CH_TDET n, Reg.GDP_BR_LOST b, Reg.GDP_BR_OK b p, Reg.GDP_STAT] ∧ (d'.gch n).gHi = false ∧ (d'.gch n).gLo = false ∧
                d'.bit st 31 = true ∧ d'.fld st 26 24 = 0 ∧ d'.brLost b p = Nat.min (d.brLost b p + 1) 255 ∧ d'.bit (Reg.GDP_BR_OK b p) leg = false ∧
                d'.bit Reg.GDP_STAT 3 = true ∧
                (d'.gbr b).reqs = (if d.brAllow b < d'.brLost b p then (d.gbr b).reqs ++ [(x + uNs, 3)] else (d.gbr b).reqs) ∧
                (Quiet d .pin x n → Requested d' .pin x n n
                  [(1, 0), (1, b), (1, p), (1, leg), (1, d'.brLost b p), (1, if d.brAllow b < d'.brLost b p then 1 else 0)]))) ∧
        (g.pinLow = false → d.fltLow n = true → g.pinAt + g.filt * uNs ≤ x →
          Leaves (.fltFilterRelease t n) t s ((d.setB st 28 false).setGch n fun g => { g with lowDur := x - g.lowAt })) ∧
        (g.pinLow = true ∨ d.fltLow n = false ∨ x < g.pinAt + g.filt * uNs → Leaves (.fltFilterRelease t n) t s d))) ∧
  (
    ∀ (t : Nat) (n : Fin 96) (bits : List Bool) (differs : Bool) (s : State), s.dev.runsIn 7 = true →
      let d := (s.arrive t).dev
      let x := Nat.max s.now t
      let g := d.gch n
      let st := Reg.GDP_CH_STAT n
      let legRegs := [st, Reg.GDP_STAT, Reg.GDP_PDROP_CNT, Reg.LOG_LOST, Reg.LOG_STAT]
      let lost (d' : Dev) (x cause : Nat) : Prop :=
        d'.bit st 31 = true ∧ d'.fld st 26 24 = cause ∧ (d'.gch n).gHi = false ∧ (d'.gch n).gLo = false ∧
        (Quiet d .pin x n → ∃ data, Requested d' .pin x n n ((1, cause) :: data))
      let may := d.legLost n = false ∧ d.twn.pairHold = false;
      (g.winEnd = 0 ∨ x < g.winEnd → Leaves (.blankingWindowEnd t n) t s d) ∧
      (g.winEnd ≠ 0 → g.winEnd ≤ x → d.chUse n = none →
        ∃ d', Leaves (.blankingWindowEnd t n) t s d' ∧ d' = { d with regs := d'.regs, hwSet := d'.hwSet, gdp := d'.gdp, anv := d'.anv, keep := d'.keep } ∧ RegsKept d d' legRegs ∧
          (d'.gch n).winEnd = 0 ∧ d'.bit st 30 = false ∧ d'.bit st 29 = false ∧ d'.bit st 28 = d.bit st 28 ∧
          (d.bit st 30 = true → d.fltLow n = true → may → lost d' x 1) ∧
          (d.bit st 30 = true → d.fltLow n = false → d.bit st 29 = true → may → lost d' x 2) ∧
          (d.bit st 30 = true → d.fltLow n = false → d.bit st 29 = false →
            d'.bit st 0 = true ∧ d'.bit Reg.GDP_STAT 2 = true ∧ d'.fld Reg.GDP_PDROP_CNT 31 0 = Nat.min (d.fld Reg.GDP_PDROP_CNT 31 0 + 1) (2 ^ 32 - 1) ∧
            ((d.sdi n).prot = false ∨ d.ocEn n = false → d'.bit st 31 = d.bit st 31) ∧ ((d.sdi n).prot = true → d.ocEn n = true → may → lost d' x 3) ∧
            (d.keep.alive = true → d.keep.main = true → d.keep.queue.length < 512 → d'.keep.queue = d.keep.queue ++
              [{ time := d.ns x, seq := (d.rd Reg.ANV_SEQ).toNat, src := 0x8000, code := 0x0100 + n, data := packData [(2, g.lowDur / uNs), (1, 0)] }])) ∧
          (d.bit st 30 = false → (d.sdi n).prot = true → d.ocEn n = true → may → lost d' x 3) ∧
          (d.bit st 30 = false → (d.sdi n).prot = false ∨ d.ocEn n = false → d'.bit st 31 = d.bit st 31 ∧ d'.keep = d.keep ∧ d'.anv = d.anv)) ∧
      (d.chUse n = none →
        let lv := d.sdiProt x n bits
        let p := x + 2 * uNs
        let replaces := differs && !decide (x < (d.sdi n).maskEnd) && d.bit Reg.SDM_SPARE 15 && !d.bit Reg.SDM_SPARE 31 &&
          decide (d.fld Reg.SDM_SPARE 6 0 = n.val) && d.sdiEn n
        ∃ d', Leaves (.protectionLevelChange t n ⟨bits, differs⟩) t s d' ∧
          d' = { d with regs := d'.regs, hwSet := d'.hwSet, sdm := d'.sdm, gdp := d'.gdp, anv := d'.anv } ∧
          RegsKept d d' [st, Reg.SDM_SPARE, Reg.SDM_STAT] ∧ (d'.sdi n).prot = lv ∧ (∀ m, m ≠ n.val → d'.sdi m = d.sdi m) ∧
          (replaces = false → RegsKept d d' [st]) ∧
          (replaces = true → d'.bit Reg.SDM_SPARE 31 = true ∧ BitsKept d d' Reg.SDM_SPARE 31 31 ∧ d'.bit Reg.SDM_STAT 3 = true ∧ BitsKept d d' Reg.SDM_STAT 3 3 ∧
            (Quiet d .pwm x 239 → Requested d' .pwm x 239 0xC107 [(1, n.val)])) ∧
          (lv = true → d.inWindow p n = true → d'.bit st 29 = (d.bit st 29 || d.bit st 30) ∧ BitsKept d d' st 29 29 ∧ d'.gdp = d.gdp) ∧
          (lv = true → d.inWindow x n = false → d.opensBy p n = false → d.ocEn n = true → may → lost d' (x + 4 * uNs) 3) ∧
          (lv = false ∨ d.inWindow p n = false ∧ (d.inWindow x n = true ∨ d.opensBy p n = true ∨ d.ocEn n = false) →
            d'.rd st = d.rd st ∧ d'.gdp = d.gdp)))

/-- O15 (tier 2): QUENCH, its presentation, CLEAR and RESTORE. Rules: R317 to R321. -/
def Obligations.QuenchAndRelease : Prop :=
  ∀ (t : Nat) (b : Fin 6) (n : Fin 96) (s : State), s.dev.runs = true →
    let d := (s.arrive t).dev
    let x := Nat.max s.now t
    let st := Reg.GDP_BR_STAT b
    let after := x / uNs * uNs + 4 * uNs
    let refuse := d.setB Reg.GDP_STAT 1 true
    let tripped := ∃ g, g < 16 ∧ d.bit Reg.GDP_TG_LATCH g = true ∧ (d.rd (Reg.GDP_TG_CFG g)).toNat.testBit b = true
    let exceeds := ∃ p, p < 3 ∧ d.brAllow b < d.brLost b p;
    (d.img.hot = false → Leaves (.quench t b) t s (d.setGbr b fun r => { r with reqs := r.reqs ++ [(after, 0)] })) ∧
    (d.power ≠ 2 ∨ tripped ∨ exceeds ∨ d.quenched b = false → Leaves (.clear t b) t s refuse) ∧
    (d.power = 2 → ¬ tripped → ¬ exceeds → d.quenched b = true → d.gdp.diag = none →
      Leaves (.clear t b) t s (d.setGbr b fun r => { r with clear := some (after + 4 * uNs) })) ∧
    (∀ at_ cause, d.clocked 7 = true → (d.gbr b).reqs = [(at_, cause)] → cause < 7 → (∀ m, d.fltLow m = false) →
      ∃ d', Leaves (.quenchPresent t b) t s d' ∧
        d' = { d with regs := d'.regs, hwSet := d'.hwSet, gdp := d'.gdp, twn := { d.twn with txQuench := d'.twn.txQuench }, keep := d'.keep, anv := d'.anv } ∧
        RegsKept d d' [st, Reg.GDP_BR_QTIME b, Reg.LOG_LOST, Reg.LOG_STAT] ∧
        (x < at_ → d'.gbr b = d.gbr b ∧ d'.rd st = d.rd st) ∧
        (at_ ≤ x → d'.quenched b = true ∧ d'.bit st (8 + cause) = true ∧ (∀ i, i ≠ 0 → i ≠ 8 + cause → d'.bit st i = d.bit st i) ∧ (d'.gbr b).reqs = [] ∧
          (d'.gbr b).clear = none ∧ (d.quenched b = true → d'.gdp.ch = d.gdp.ch ∧ d'.rd (Reg.GDP_BR_QTIME b) = d.rd (Reg.GDP_BR_QTIME b)) ∧
          (d.quenched b = false → d'.rd (Reg.GDP_BR_QTIME b) = BitVec.ofNat 32 (d.ns x) ∧ (d'.gbr b).quenchedAt = x ∧
            ∀ m ∈ d.brChans b, d.legLost m = false →
              (d.brRule b ≠ 1 → (d'.gch m).gLo = false) ∧ (d.brRule b ≠ 2 → (d'.gch m).gHi = false)))) ∧
    (d.chUse n = none → Leaves (.restore t n) t s (d.setB Reg.GDP_STAT 0 true)) ∧
    (∀ p leg, d.chUse n = some (b.val, p, leg) → d.quenched b = false ∨ d.fltLow n = true ∨ d.power = 2 →
      Leaves (.restore t n) t s (d.setB Reg.GDP_STAT 0 true)) ∧
    (∀ p leg, d.chUse n = some (b.val, p, leg) → d.quenched b = true → d.fltLow n = false → d.power ≠ 2 → d.legLost n = false → Leaves (.restore t n) t s d) ∧
    (∀ p leg, d.chUse n = some (b.val, p, leg) → p < 3 → leg < 32 → d.quenched b = true → d.fltLow n = false → d.power ≠ 2 → d.legLost n = true →
      (d.sdi n).prot = true → d.ocEn n = true → d.brRule b = 0 → d.inWindow x n = false → d.twn.pairHold = false →
      ∃ d', Leaves (.restore t n) t s d' ∧ d'.legLost n = true ∧ d'.fld (Reg.GDP_CH_STAT n) 26 24 = 3) ∧
    (∀ p leg, d.chUse n = some (b.val, p, leg) → p < 3 → leg < 32 → d.quenched b = true → d.fltLow n = false → d.power ≠ 2 → d.legLost n = true →
      (d.sdi n).prot = false ∨ d.ocEn n = false →
      ∃ d', Leaves (.restore t n) t s d' ∧ d' = { d with regs := d'.regs, hwSet := d'.hwSet, gdp := d'.gdp } ∧
        RegsKept d d' [Reg.GDP_CH_STAT n, Reg.GDP_BR_LOST b, Reg.GDP_BR_OK b p] ∧ BitsKept d d' (Reg.GDP_CH_STAT n) 31 31 ∧ d'.legLost n = false ∧
        d'.brLost b p = (d.brLost b p - 1) % 256 ∧ d'.bit (Reg.GDP_BR_OK b p) leg = true ∧ (∀ m, m ≠ n.val → d'.gch m = d.gch m))

/-- O16 (tier 2): Off-state diagnostics and the tests of gate and comparator inputs. Rules: R322 to R325. -/
def Obligations.DiagnosticsAndTests : Prop :=
  (
    ∀ (t : Nat) (v : Word) (s : State), s.dev.runs = true →
      let d := (s.arrive t).dev
      let x := Nat.max s.now t
      let ds := Reg.GDP_DIAG_STAT
      let i := d.fld ds 4 0
      let e := Reg.GDP_DIAG_E i
      let k := d.fld e 21 20;
      (d.gdp.diag = none →
        let d1 := d.rw Reg.GDP_DIAG_CTRL (setBit v 31 true)
        let count := d1.fld Reg.GDP_DIAG_CTRL 4 0
        let bad : Prop := d1.power = 2 ∨ count = 0 ∨ 24 < count ∨ (∃ b ∈ d1.diagBridges count, d1.quenched b = false) ∨
          Fp.ge (d1.adcNow (d1.fld Reg.GDP_DIAG_CFG 29 24)) (d1.rd Reg.GDP_DIAG_VDCMIN) = false ∨
          ¬ ∀ j, j < count → 10 ≤ d1.fld (Reg.GDP_DIAG_E j) 15 8 ∧ d1.fld (Reg.GDP_DIAG_E j) 15 8 ≤ 200 ∧ d1.fld (Reg.GDP_DIAG_E j) 5 0 ≤ 55;
        (bad → Leaves (.diagStart t v) t s (d1.setB ds 28 true)) ∧
        (¬ bad → (∀ m, d1.fltLow m = false) →
          ∃ d', Leaves (.diagStart t v) t s d' ∧ d' = { d1 with regs := d'.regs, hwSet := d'.hwSet, gdp := d'.gdp } ∧ d'.bit ds 31 = true ∧ d'.fld ds 4 0 = 0 ∧
            d'.gdp.diag = some { stage := 0, count := count, v0 := 0, vdc := 0, since := x } ∧ (∀ j, j < 24 → d'.rd (Reg.GDP_DIAG_R j) = 0 ∧ d'.rd (Reg.GDP_DIAG_DV j) = 0) ∧
            (∀ b ∈ d1.diagBridges count, b < 6 → (d'.gbr b).diagHold = true) ∧
            (∀ a, a ≠ ds → (∀ j, j < 24 → a ≠ Reg.GDP_DIAG_R j ∧ a ≠ Reg.GDP_DIAG_DV j) → d'.rd a = d1.rd a))) ∧
      (d.gdp.diag ≠ none → tbit v 30 = false → Leaves (.diagStart t v) t s ((d.rw Reg.GDP_DIAG_CTRL (setBit v 31 true)).setB ds 28 true)) ∧
      (d.gdp.diag = none → Leaves (.diagAbort t) t s d ∧ Leaves (.diagSettleEnd t) t s d ∧ Leaves (.diagDwellEnd t) t s d ∧ Leaves (.diagMeansTaken t) t s d) ∧
      (∀ r, d.gdp.diag = some r → (∀ m, d.fltLow m = false) →
        ∃ d', Leaves (.diagAbort t) t s d' ∧ d' = { d with regs := d'.regs, hwSet := d'.hwSet, gdp := d'.gdp, keep := d'.keep, anv := d'.anv } ∧
          RegsKept d d' [ds, Reg.LOG_LOST, Reg.LOG_STAT] ∧ d'.gdp.diag = none ∧ d'.gdp.tdac = [0, 0, 0, 0] ∧ d'.bit ds 31 = false ∧ d'.bit ds 30 = true ∧
          d'.bit ds 29 = true) ∧
      (∀ r, d.clocked 7 = true → d.gdp.diag = some r → r.stage = 0 → r.since + d.fld Reg.GDP_DIAG_CFG 23 16 * uMs ≤ x →
        Leaves (.diagSettleEnd t) t s { d with gdp := { d.gdp with diag := some { r with stage := 1, since := x } } }) ∧
      (∀ r, d.clocked 7 = true → d.gdp.diag = some r → r.stage = 2 → r.since + d.fld Reg.GDP_DIAG_CFG 15 0 * uMs ≤ x →
        Leaves (.diagDwellEnd t) t s { d with gdp := { d.gdp with diag := some { r with stage := 3, since := x } } }) ∧
      (∀ r v0 vdc, d.clocked 7 = true → d.gdp.diag = some r → r.stage = 1 → d.mean16 (d.fld e 5 0) r.since = some v0 → d.mean16 (d.fld Reg.GDP_DIAG_CFG 29 24) r.since = some vdc →
        Leaves (.diagMeansTaken t) t s
          { d with gdp := { d.gdp with tdac := updN 4 0 d.gdp.tdac k (fun _ => d.fld e 15 8), diag := some { stage := 2, count := r.count, v0 := v0, vdc := vdc, since := x } } }) ∧
      (∀ r v1, d.clocked 7 = true → d.gdp.diag = some r → r.stage = 3 → d.mean16 (d.fld e 5 0) r.since = some v1 → r.count ≤ i + 1 → i < 24 →
        (∀ m, d.fltLow m = false) →
        let dv := Fp.sub v1 r.v0
        let clean := ∀ j, j ≤ i → (if j = i then Fp.ge dv (d.rd Reg.GDP_DIAG_DVMAX) = false ∧ Fp.ge dv (d.rd Reg.GDP_DIAG_DVMIN) = true else d.fld (Reg.GDP_DIAG_R j) 2 0 = 1)
        ∃ d', Leaves (.diagMeansTaken t) t s d' ∧
          d' = { d with regs := d'.regs, hwSet := d'.hwSet, gdp := d'.gdp, keep := d'.keep, anv := d'.anv, sys := { d.sys with readied := d'.sys.readied } } ∧
          RegsKept d d' [Reg.GDP_DIAG_R i, Reg.GDP_DIAG_DV i, ds, Reg.LOG_LOST, Reg.LOG_STAT, Reg.SYS_BOOT, Reg.SYS_BOOT_MS] ∧ d'.gdp.diag = none ∧
          d'.gdp.tdac = [0, 0, 0, 0] ∧ d'.bit ds 31 = false ∧ d'.bit ds 30 = true ∧ d'.bit ds 29 = d.bit ds 29 ∧ d'.rd (Reg.GDP_DIAG_DV i) = dv ∧
          (clean → d'.bit Reg.SYS_BOOT 30 = true) ∧ (¬ clean → d'.rd Reg.SYS_BOOT = d.rd Reg.SYS_BOOT)) ∧
      (∀ r v1, d.clocked 7 = true → d.gdp.diag = some r → r.stage = 3 → d.mean16 (d.fld e 5 0) r.since = some v1 → i + 1 < r.count → i < 23 →
        let dv := Fp.sub v1 r.v0
        ∃ d', Leaves (.diagMeansTaken t) t s d' ∧ d' = { d with regs := d'.regs, hwSet := d'.hwSet, gdp := d'.gdp } ∧
          RegsKept d d' [Reg.GDP_DIAG_R i, Reg.GDP_DIAG_DV i, ds] ∧ d'.fld ds 4 0 = i + 1 ∧ BitsKept d d' ds 4 0 ∧ d'.rd (Reg.GDP_DIAG_DV i) = dv ∧
          d'.rd (Reg.GDP_DIAG_R i) = BitVec.ofNat 32 (if Fp.ge dv (d.rd Reg.GDP_DIAG_DVMAX) then 2 else if Fp.ge dv (d.rd Reg.GDP_DIAG_DVMIN) then 1
            else if Fp.gt r.v0 (Fp.div r.vdc Fp.two) then 3 else 4) ∧
          d'.gdp.diag = some { stage := 0, count := r.count, v0 := 0, vdc := 0, since := x } ∧ nth 0 d'.gdp.tdac k = 0)) ∧
  (
    ∀ (t : Nat) (v : Word) (part : Option Nat) (s : State), s.dev.runs = true →
      let d := (s.arrive t).dev
      let x := Nat.max s.now t
      let ts := Reg.GDP_TEST_STAT
      let d1 := d.rw Reg.GDP_TEST_CTRL (setBit v 31 true)
      let i := d1.fld Reg.GDP_TEST_CTRL 6 0
      let channel := d1.bit Reg.GDP_TEST_CTRL 24 = false
      let busy := d1.power = 2 ∨ d1.gdp.test ≠ none ∨ d1.gdp.diag ≠ none
      let chOk := i < 96 ∧ d1.pwmEn i = false ∧ (∀ u, d1.chUse i = some u → d1.quenched u.1 = true)
      let cmpOk := i < 48 ∧ d1.cmpEn i = true ∧ d1.cmpHi i + 64 ≤ 8191 ∧ -8192 ≤ d1.cmpLo i - 64;
      (busy ∨ (channel ∧ ¬ chOk) ∨ (¬ channel ∧ ¬ cmpOk) → Leaves (.gdpTestStart t v) t s (d1.setF ts 30 29 3)) ∧
      (¬ busy → channel → chOk →
        ∃ d', Leaves (.gdpTestStart t v) t s d' ∧ d' = { d1 with regs := d'.regs, hwSet := d'.hwSet, gdp := { d1.gdp with test := some (0, i, x + 200 * uUs), ch := d'.gdp.ch } } ∧
          RegsKept d1 d' [ts] ∧ BitsKept d1 d' ts 31 29 ∧ d'.fld ts 31 29 = 4 ∧ (d'.gch i).gHi = false ∧ (d'.gch i).gLo = false ∧
          (∀ m, m ≠ i → d'.gch m = d1.gch m)) ∧
      (¬ busy → ¬ channel → cmpOk → Leaves (.gdpTestStart t v) t s
        { ((d1.setB (Reg.CMP_LATCH (i / 32)) (i % 32) false).setB ts 31 true).setF ts 30 29 0 with
          cmp := updN 48 CmpCh.init d1.cmp i (fun c => { c with tested := 0 })
          gdp := { d1.gdp with test := some (1, i, x + (2 * d1.fld (Reg.CMP_CH_CFG i) 11 8 + 4) * 40 * uNs) } }) ∧
      (d.gdp.test = none ∨ (∃ p, d.gdp.test = some p ∧ x < p.2.2) → Leaves (.gdpTestEnd t part) t s d) ∧
      (∀ kind j end_, d.clocked 7 = true → d.gdp.test = some (kind, j, end_) → end_ ≤ x → kind < 2 → j < 96 → (kind = 0 → d.fltLow j = false) →
        ∃ d', Leaves (.gdpTestEnd t part) t s d' ∧ d' = { d with regs := d'.regs, hwSet := d'.hwSet, cmp := d'.cmp, gdp := { d.gdp with test := none, ch := d'.gdp.ch }, keep := d'.keep, anv := d'.anv } ∧
          RegsKept d d' [ts, Reg.CMP_STATE (j / 32), Reg.CMP_LATCH (j / 32), Reg.LOG_LOST, Reg.LOG_STAT] ∧ d'.bit ts 31 = false ∧
          d'.fld ts 30 29 = (if part = none then 1 else 2) ∧ (∀ p, part = some p → d'.fld ts 27 24 = p % 16) ∧
          (∀ m, m ≠ j → d'.gch m = d.gch m) ∧ (kind = 1 → d'.gch j = d.gch j) ∧
          (kind = 0 → d'.rd (Reg.CMP_STATE (j / 32)) = d.rd (Reg.CMP_STATE (j / 32)) ∧ d'.rd (Reg.CMP_LATCH (j / 32)) = d.rd (Reg.CMP_LATCH (j / 32)) ∧ d'.cmp = d.cmp) ∧
          (kind = 1 → j < 48 → d'.bit (Reg.CMP_STATE (j / 32)) (j % 32) = false ∧ d'.bit (Reg.CMP_LATCH (j / 32)) (j % 32) = false ∧
            nth CmpCh.init d'.cmp j = CmpCh.init)))

/-- O17 (tier 2): Device time: rate, step, snapshot, holdover; triggers and captures. Rules: R369 to R381. -/
def Obligations.DeviceTimeAndTriggers : Prop :=
  (
    ∀ (t : Nat) (v : Word) (hold : Bool) (s : State), s.dev.runs = true →
      let d := (s.arrive t).dev
      let x := Nat.max s.now t
      let inc := natBits v.toNat 7 0 * 2 ^ 32 + d.time.fracStaged.toNat
      let refuse := d.setB Reg.TIM_STAT 0 true
      let bad := inc * 1000 < 4999 * 2 ^ 32 ∨ 5001 * 2 ^ 32 < inc * 1000 ∨ d.bit Reg.TIM_CTRL 0 = true
      let per := if d.clocked 3 then (x / uPer + 1) * uPer else never
      let waits : Int := match d.time.pend with | some p => p.ofs | none => 0
      let next : Nat := match d.time.pend with | some p => p.inc | none => d.time.inc
      let avg : Nat := ((d.avgReg : Int) + ((inc : Int) - d.avgReg) / (2 ^ d.fld Reg.TIM_HOLD 3 0 : Int)).toNat
      let ofs := d.rd64 Reg.TIM_OFS_LO Reg.TIM_OFS_HI
      let snap := d.time2 (x / uPer * uPer)
      Leaves (.timIncFracWrite t v) t s { d.wr Reg.TIM_INC_FRAC v with time := { d.time with fracStaged := v } } ∧
      (bad → Leaves (.timIncCommit t v) t s refuse) ∧
      (¬ bad →
        ∃ d', Leaves (.timIncCommit t v) t s d' ∧ d' = { d with regs := d'.regs, hwSet := d'.hwSet, time := d'.time, anv := d'.anv } ∧
          RegsKept d d' [Reg.TIM_INC_NS, Reg.TIM_INC_FRAC, Reg.TIM_AVG_NS, Reg.TIM_AVG_FRAC, Reg.TIM_STAT] ∧ BitsKept d d' Reg.TIM_STAT 2 2 ∧
          d'.bit Reg.TIM_STAT 2 = false ∧ d'.incReg = inc ∧ d'.rd Reg.TIM_AVG_FRAC = BitVec.ofNat 32 avg ∧ d'.fld Reg.TIM_AVG_NS 7 0 = avg / 2 ^ 32 % 256 ∧
          d'.time.pend = some { at_ := per, ofs := waits, inc := inc } ∧ d'.time.lastCommit = x ∧ d'.time.base = d.time.base ∧
          (d.bit Reg.TIM_STAT 2 = true → Quiet d .per x 210 → ∃ data, Requested d' .per x 210 0x9101 data) ∧
          (d.bit Reg.TIM_STAT 2 = false → d'.anv = d.anv)) ∧
      (∃ d', Leaves (.timeStep t) t s d' ∧ d' = { d with regs := d'.regs, hwSet := d'.hwSet, time := { d.time with pend := d'.time.pend }, anv := d'.anv } ∧
        RegsKept d d' [Reg.TIM_STAT] ∧ d'.bit Reg.TIM_STAT 1 = true ∧ d'.bit Reg.TIM_STAT 3 = true ∧
        d'.time.pend = some { at_ := per, ofs := waits + toSigned 64 ofs * 2 ^ 32, inc := next } ∧
        (Quiet d .per x 210 → Requested d' .per x 210 0x9102 [(4, ofs % 2 ^ 32), (4, ofs / 2 ^ 32)])) ∧
      (∃ d', Leaves (.timSnap t) t s d' ∧ d' = { d with regs := d'.regs, hwSet := d'.hwSet } ∧ RegsKept d d' [Reg.TIM_SNAP_FRAC, Reg.TIM_SNAP_LO, Reg.TIM_SNAP_HI] ∧
        d'.rd Reg.TIM_SNAP_FRAC = BitVec.ofNat 32 snap ∧ d'.rd64 Reg.TIM_SNAP_LO Reg.TIM_SNAP_HI = snap / 2 ^ 32 % 2 ^ 64) ∧
      (∃ d', Leaves (.holdWrite t hold) t s d' ∧ d' = { d with regs := d'.regs, hwSet := d'.hwSet, time := d'.time, anv := d'.anv } ∧
        RegsKept d d' [Reg.TIM_CTRL, Reg.TIM_INC_NS, Reg.TIM_INC_FRAC, Reg.TIM_STAT] ∧ BitsKept d d' Reg.TIM_CTRL 0 0 ∧ d'.bit Reg.TIM_CTRL 0 = hold ∧
        (hold = true → d.bit Reg.TIM_CTRL 0 = false → d'.bit Reg.TIM_STAT 2 = true ∧ d'.time.byHold = true ∧
          (d.bit Reg.TIM_STAT 2 = false → d'.rd Reg.TIM_INC_FRAC = d.rd Reg.TIM_AVG_FRAC ∧ d'.rd Reg.TIM_INC_NS = d.rd Reg.TIM_AVG_NS ∧
            d'.time.pend = some { at_ := per, ofs := waits, inc := d.avgReg })) ∧
        (hold = false → d.bit Reg.TIM_CTRL 0 = true → d.time.byHold = true → d'.bit Reg.TIM_STAT 2 = false) ∧
        (hold = d.bit Reg.TIM_CTRL 0 → d'.time = d.time ∧ d'.anv = d.anv ∧ d'.rd Reg.TIM_STAT = d.rd Reg.TIM_STAT)) ∧
      (let ms := d.fld Reg.TIM_HOLD 31 16
        let due := d.clocked 3 = true ∧ ms ≠ 0 ∧ d.bit Reg.TIM_STAT 2 = false ∧ d.time.lastCommit + ms * uMs ≤ x;
        (¬ due → Leaves (.holdoverTimeout t) t s d) ∧
        (due → ∃ d', Leaves (.holdoverTimeout t) t s d' ∧ d' = { d with regs := d'.regs, hwSet := d'.hwSet, time := d'.time, anv := d'.anv } ∧
          RegsKept d d' [Reg.TIM_INC_NS, Reg.TIM_INC_FRAC, Reg.TIM_STAT] ∧ d'.bit Reg.TIM_STAT 2 = true ∧
          d'.time.pend = some { at_ := per, ofs := waits, inc := d.avgReg } ∧ (Quiet d .per x 210 → ∃ data, Requested d' .per x 210 0x9100 data)))) ∧
  (
    ∀ (t : Nat) (k : Fin 4) (v : Word) (rising : Bool) (s : State), s.dev.runs = true →
      let d := (s.arrive t).dev
      let x := Nat.max s.now t
      let a := Reg.TIM_TRG_CFG k
      let per := d.trgPeriod k
      let start := d.trgStart k
      let d1 := d.rw a (setBit v 31 true)
      let nx := nth 0 d.time.trgNext k
      let now := d.ns x
      let cs := Reg.TIM_CAP_STAT k
      let l := nth [] d.time.caps k
      let more := if per = 0 then 0 else (now - nx) / per
      let miss := Nat.min ((d.rd (Reg.TIM_TRG_MISSED k)).toNat + more) (2 ^ 32 - 1);
      (d.bit a 31 = true → ∃ d', Leaves (.triggerArm t k v) t s d' ∧ d' = { d1 with time := d'.time } ∧ d'.time.trgNext = d.time.trgNext) ∧
      (d.bit a 31 = false → d1.bit a 31 = true →
        (let at_ := d.ns (x / uNs * uNs + 4 * uNs);
          (per ≠ 0 →
            ∃ d', Leaves (.triggerArm t k v) t s d' ∧ d' = { d1 with time := d'.time } ∧ at_ + 100 ≤ nth 0 d'.time.trgNext k ∧ start ≤ nth 0 d'.time.trgNext k ∧
              (∃ j, nth 0 d'.time.trgNext k = start + j * per) ∧ ∀ j, at_ + 100 ≤ start + j * per → nth 0 d'.time.trgNext k ≤ start + j * per) ∧
          (per = 0 → at_ ≤ start → ∃ d', Leaves (.triggerArm t k v) t s d' ∧ d' = { d1 with time := d'.time } ∧ nth 0 d'.time.trgNext k = start) ∧
          (per = 0 → start < at_ →
            ∃ d', Leaves (.triggerArm t k v) t s d' ∧ d' = { d1 with regs := d'.regs, hwSet := d'.hwSet, time := d'.time, anv := d'.anv } ∧ RegsKept d1 d' [a] ∧
              d'.bit a 31 = false ∧ d'.bit a 27 = true))) ∧
      (d.bit a 31 = false ∨ now < nx → Leaves (.triggerFire t k) t s d) ∧
      (d.clocked 3 = true → d.bit a 31 = true → nx ≤ now →
        ∃ d', Leaves (.triggerFire t k) t s d' ∧ d' = { d with regs := d'.regs, hwSet := d'.hwSet, time := d'.time, anv := d'.anv } ∧
          RegsKept d d' [a, Reg.TIM_TRG_MISSED k] ∧ d'.bit a 26 = true ∧ d'.rd (Reg.TIM_TRG_MISSED k) = BitVec.ofNat 32 miss ∧
          (per = 0 → d'.bit a 31 = false) ∧ (per ≠ 0 → nth 0 d'.time.trgNext k = nx + (more + 1) * per ∧ now < nth 0 d'.time.trgNext k) ∧
          (d.fld a 30 29 = 1 → (d.rd (Reg.TIM_TRG_WIDTH k)).toNat ≠ 0 → nth 0 d'.time.toutEnd k = x + (d.rd (Reg.TIM_TRG_WIDTH k)).toNat * uNs) ∧
          (d.bit a 28 = true → Quiet d .pwm x (212 + k) → Requested d' .pwm x (212 + k) (0x9120 + k) [(8, nx), (4, miss)])) ∧
      (∃ d', Leaves (.toutPulseEnd t k) t s d' ∧ d' = { d with time := { d.time with toutEnd := d'.time.toutEnd } } ∧
        (∀ y, x ≤ y → d'.pinTout y k = d.pinTout y k) ∧ (d.clocked 3 = true → nth 0 d.time.toutEnd k ≤ x → nth 0 d'.time.toutEnd k = 0) ∧ ∀ j, j ≠ k.val → nth 0 d'.time.toutEnd j = nth 0 d.time.toutEnd j) ∧
      (let sel := d.clocked 3 = true ∧ d.bit (Reg.TIM_CAP_CFG k) 31 = true ∧ d.bit (Reg.TIM_CAP_CFG k) (if rising then 29 else 30) = true;
        (¬ sel → Leaves (.captureEdge t k rising) t s d) ∧
        (sel → 4 ≤ l.length → Leaves (.captureEdge t k rising) t s ((d.setB cs 3 true).raise .pin x 211 (0x9114 + k) [(8, now)])) ∧
        (sel → l.length < 4 →
          ∃ d', Leaves (.captureEdge t k rising) t s d' ∧ d' = { d with regs := d'.regs, hwSet := d'.hwSet, time := { d.time with caps := d'.time.caps }, anv := d'.anv } ∧
            RegsKept d d' [cs, Reg.TIM_CAP_DATA_LO k, Reg.TIM_CAP_DATA_HI k, Reg.TIM_CAP_DATA_FRAC k] ∧ nth [] d'.time.caps k = l ++ [(now, rising)] ∧
            d'.fld cs 2 0 = l.length + 1 ∧
            (l = [] → d'.rd (Reg.TIM_CAP_DATA_LO k) = BitVec.ofNat 32 now ∧ d'.rd (Reg.TIM_CAP_DATA_HI k) = BitVec.ofNat 32 (now / 2 ^ 32) ∧ d'.bit cs 4 = rising ∧
              (Quiet d .pin x 211 → Requested d' .pin x 211 (0x9110 + k) [(8, now)])))) ∧
      (∃ d', Leaves (.pop t k) t s d' ∧ d' = { d with regs := d'.regs, hwSet := d'.hwSet, time := { d.time with caps := d'.time.caps } } ∧
        RegsKept d d' [cs, Reg.TIM_CAP_DATA_LO k, Reg.TIM_CAP_DATA_HI k, Reg.TIM_CAP_DATA_FRAC k] ∧ nth [] d'.time.caps k = l.drop 1 ∧
        d'.fld cs 2 0 = (l.length - 1) % 8 ∧
        ∀ e r, l.drop 1 = e :: r → d'.rd (Reg.TIM_CAP_DATA_LO k) = BitVec.ofNat 32 e.1 ∧ d'.rd (Reg.TIM_CAP_DATA_HI k) = BitVec.ofNat 32 (e.1 / 2 ^ 32) ∧
          d'.bit cs 4 = e.2))

/-- O18 (tier 2): Twin lanes move through their stages; block lock, PRBS, error counters and lane configuration writes. Rules: R346, R347, R350, R355
to R359. -/
def Obligations.LaneStagesAndCounters : Prop :=
  (
    ∀ (t headers : Nat) (lane : Fin 2) (found : Bool) (s : State), s.dev.runs = true →
      let d := (s.arrive t).dev
      let x := Nat.max s.now t
      let l := lane.val
      let st := Reg.LNK_LN_STAT l
      let hdr := Reg.LNK_LN_HDR_ERR l
      let early := ∃ a, (d.lane l).pulseAt = some a ∧ x < a + 100 * uUs
      let moved (d' : Dev) (k : Nat) : Prop :=
        d'.stage l = k ∧ d'.stage (1 - l) = d.stage (1 - l) ∧ d'.bit Reg.TWN_STAT (24 + l) = decide (k = 4) ∧ BitsKept d d' Reg.TWN_STAT (24 + l) (24 + l) ∧
        (d'.twnLane l).stageAt = x ∧ d'.twnLane (1 - l) = d.twnLane (1 - l) ∧ RegsKept d d' [Reg.TWN_LANE, Reg.TWN_STAT, st, hdr]
      let toDetect (d' : Dev) : Prop :=
        moved d' 0 ∧ d'.rd hdr = d.rd hdr ∧ d' = { d with regs := d'.regs, hwSet := d'.hwSet, twn := { d.twn with lane := d'.twn.lane }, lnk := d'.lnk } ∧ (d'.lane l).txIdle = true ∧ (d'.lane l).pulseAt = none ∧
        (d'.twnLane l).capsRx = false ∧ (d'.twnLane l).ackRx = false ∧ (d'.twnLane l).beats = []
      let caps (d' : Dev) : Prop :=
        d'.twn.txSeq = (d.twn.txSeq + 1) % 2 ^ 24 ∧ (∃ fw, d'.sent = if d.laneCarries l then d.sent ++ [(2 ^ l, d'.twn.txSeq, .caps (d'.ownCaps fw))] else d.sent) ∧ (d'.twnLane l).capsAt = x;
      (d.stage l = 0 → d.laneCarries l = true → ¬ early → found = true →
        ∃ d', Leaves (.rxDetectPulse t lane found) t s d' ∧ moved d' 1 ∧ d' = { d with regs := d'.regs, hwSet := d'.hwSet, twn := { d.twn with lane := d'.twn.lane }, lnk := d'.lnk } ∧
          d'.bit st 31 = true ∧ d'.rd hdr = d.rd hdr ∧ (d'.lane l).txIdle = false ∧ (d'.lane l).pulseAt = some x) ∧
      (d.stage l = 0 → d.laneCarries l = true → ¬ early → found = false →
        Leaves (.rxDetectPulse t lane found) t s (d.setLane l fun q => { q with pulseAt := some x })) ∧
      (d.stage l ≠ 0 ∨ d.laneCarries l = false ∨ early → Leaves (.rxDetectPulse t lane found) t s d) ∧
      (d.stage l = 1 →
        ∃ d', Leaves (.laneTrainDone t lane) t s d' ∧ moved d' 2 ∧ d' = { d with regs := d'.regs, hwSet := d'.hwSet, twn := { d.twn with lane := d'.twn.lane } } ∧
          d'.bit st 30 = true ∧ d'.rd hdr = d.rd hdr) ∧
      (d.stage l ≠ 1 → Leaves (.laneTrainDone t lane) t s d ∧ Leaves (.laneTrainTimeout t lane) t s d) ∧
      (d.stage l = 1 → (d.twnLane l).stageAt + 2 * uMs ≤ x → ∃ d', Leaves (.laneTrainTimeout t lane) t s d' ∧ toDetect d') ∧
      (d.stage l = 3 → (d.twnLane l).stageAt + 10 * uMs ≤ x → ∃ d', Leaves (.laneExchangeTimeout t lane) t s d' ∧ toDetect d') ∧
      (d.stage l ≠ 3 ∨ x < (d.twnLane l).stageAt + 10 * uMs → Leaves (.laneExchangeTimeout t lane) t s d) ∧
      (d.stage l = 2 →
        ∃ d', Leaves (.laneBlockLock t ⟨Fin.castLE (by omega) lane, headers⟩) t s d' ∧ moved d' 3 ∧ caps d' ∧
          d'.rd hdr = BitVec.ofNat 32 (Nat.min ((d.rd hdr).toNat + headers) 0xFFFFFFFF) ∧ d'.bit st 29 = true ∧ d'.bit st 30 = true ∧
          d' = { d with regs := d'.regs, hwSet := d'.hwSet, twn := { d.twn with lane := d'.twn.lane, txSeq := d'.twn.txSeq }, sent := d'.sent, free := d'.free }) ∧
      (d.stage l = 3 ∧ (d.twnLane l).capsAt + 100 * uUs ≤ x ∨ d.stage l = 5 ∧ (d.twnLane l).capsAt + 100 * uMs ≤ x →
        ∃ d', Leaves (.capsResend t lane) t s d' ∧ caps d' ∧ RegsKept d d' [] ∧
          d' = { d with twn := { d.twn with lane := d'.twn.lane, txSeq := d'.twn.txSeq }, sent := d'.sent, free := d'.free })) ∧
  (
    ∀ (t headers : Nat) (lane : Fin 4) (v : Word) (eyes : List Nat) (s : State), s.dev.runs = true → 16 ≤ headers →
      let d := (s.arrive t).dev
      let x := Nat.max s.now t
      let l := lane.val
      let st := Reg.LNK_LN_STAT l
      let hdr := Reg.LNK_LN_HDR_ERR l
      let sat (n : Nat) : Word := BitVec.ofNat 32 (Nat.min ((d.rd hdr).toNat + n) 0xFFFFFFFF)
      let prbs := d.fld (Reg.LNK_LN_CFG l) 29 28;
      (2 ≤ l ∨ d.stage l ≠ 2 → Leaves (.laneBlockLock t ⟨lane, headers⟩) t s (((d.wr hdr (sat headers)).setB st 29 true).setB st 30 true)) ∧
      (2 ≤ l ∨ d.stage l ≠ 4 ∧ d.stage l ≠ 5 →
        (∃ d', Leaves (.laneBlockLockLoss t ⟨lane, headers⟩) t s d' ∧ d' = { d with regs := d'.regs, hwSet := d'.hwSet, anv := d'.anv } ∧ RegsKept d d' [hdr, st] ∧ d'.rd hdr = sat headers ∧
          (2 ≤ l → d.ethLink (l - 2) = true → Quiet d .per x (200 + l) → Requested d' .per x (200 + l) (0x8100 + l) [(1, 0), (4, (sat headers).toNat)]) ∧
          (l < 2 → d'.anv = d.anv) ∧ d'.bit st 29 = false ∧ d'.bit st 1 = (d.bit st 1 || d.bit st 29) ∧ (∀ i, i ≠ 1 → i ≠ 29 → d'.bit st i = d.bit st i)) ∧
        (∃ d', Leaves (.rxIdleTimeout t lane) t s d' ∧ d' = { d with regs := d'.regs, hwSet := d'.hwSet, anv := d'.anv } ∧ RegsKept d d' [hdr, st] ∧ d'.rd hdr = sat 16 ∧
          d'.bit st 29 = false ∧ d'.bit st 30 = false ∧ d'.bit st 1 = (d.bit st 1 || d.bit st 29))) ∧
      (l < 2 → d.stage l = 4 ∨ d.stage l = 5 →
        ∃ d', Leaves (.laneBlockLockLoss t ⟨lane, headers⟩) t s d' ∧ d'.rd hdr = sat headers ∧ d'.stage l = 0 ∧ RegsKept d d' [hdr, st, Reg.TWN_LANE, Reg.TWN_STAT] ∧
          d' = { d with regs := d'.regs, hwSet := d'.hwSet, anv := d'.anv, twn := { d.twn with lane := d'.twn.lane }, lnk := d'.lnk } ∧
          (d.stage l = 5 → d'.anv = d.anv) ∧
          (d.stage l = 4 → Quiet d .per x (200 + l) → Requested d' .per x (200 + l) (0x8100 + l) [(1, 4), (4, (sat headers).toNat)])) ∧
      (d.bit (Reg.LNK_LN_CFG l) 30 = true → 2 ≤ l ∨ d.stage l = 1 →
        ∃ i, i < 16 ∧ (∀ j, j < 16 → nth 0 eyes j ≤ nth 0 eyes i) ∧ Leaves (.equaliserAdaptDone t lane eyes) t s ((d.setB st 30 true).setF st 23 20 i)) ∧
      (d.bit (Reg.LNK_LN_CFG l) 30 = false ∨ l < 2 ∧ d.stage l ≠ 1 → Leaves (.equaliserAdaptDone t lane eyes) t s d) ∧
      (prbs ≠ 0 → Leaves (.prbsCheckerLock t lane) t s ((d.setB st 30 true).setB st 28 true)) ∧
      (prbs = 0 → Leaves (.prbsCheckerLock t lane) t s d) ∧
      (d.bit st 28 = false → Leaves (.prbsBitError t lane) t s d) ∧
      (d.bit st 28 = true →
        let e := Reg.LNK_LN_PRBS_ERR l
        ∃ d', Leaves (.prbsBitError t lane) t s d' ∧ d' = { d with regs := d'.regs, hwSet := d'.hwSet, anv := d'.anv } ∧ RegsKept d d' [e] ∧
          d'.fld e 31 0 = Nat.min (d.fld e 31 0 + 1) (2 ^ 32 - 1) ∧
          (d.rd e = 0 → Quiet d .per x 207 → Requested d' .per x 207 (0x8130 + l) [(1, l), (4, 1)]) ∧ (d.rd e ≠ 0 → d'.anv = d.anv)) ∧
      (∀ h : l < 2,
        Leaves (.messageCrcFail t ⟨l, h⟩) t s (if d.stage l = 0 then d else d.inc Reg.TWN_RX_CRC 31 0) ∧
        Leaves (.unknownMessage t ⟨l, h⟩) t s (if d.stage l = 4 then d.inc Reg.TWN_RX_UNK 31 0 else d)) ∧
      (let a := Reg.LNK_LN_CFG l
        let old := d.rd a
        let d1 := d.rw a v
        let p := bitsOf v 29 28
        ∀ c ∈ [Instr.laneRateWrite t lane v, .laneTxEnWrite t lane v, .lanePrbsWrite t lane v],
          (p = 3 ∨ (2 ≤ l ∧ tbit v 26 = true) → Leaves c t s (d.setB st 0 true)) ∧
          (p = bitsOf old 29 28 → p ≠ 3 → tbit v 26 = tbit old 26 → 2 ≤ l → tbit v 26 = false → tbit v 30 = true → tbit v 31 = true → tbit old 31 = true →
            Leaves c t s d1) ∧
          (p = bitsOf old 29 28 → p ≠ 3 → tbit v 26 = tbit old 26 → (2 ≤ l → tbit v 26 = false) → tbit v 31 = false →
            ∃ d', Leaves c t s d' ∧ d' = { d1 with regs := d'.regs, hwSet := d'.hwSet, lnk := d'.lnk } ∧ RegsKept d1 d' [st] ∧ (d'.lane l).txIdle = true ∧
              (tbit v 30 = false → d'.fld st 23 20 = bitsOf v 19 16)) ∧
          (p ≠ bitsOf old 29 28 → p = 1 ∨ p = 2 → 2 ≤ l → tbit v 26 = false → d.bit (Reg.ETH_P_CTRL (l - 2)) 31 = false → d.bit (Reg.ETH_P_CTRL (l - 2)) 30 = false →
            ∃ d', Leaves c t s d' ∧ d'.rd (Reg.LNK_LN_PRBS_ERR l) = 0 ∧ d'.bit st 28 = false ∧ RegsKept d1 d' [st, Reg.LNK_LN_PRBS_ERR l] ∧
              d' = { d1 with regs := d'.regs, hwSet := d'.hwSet, lnk := d'.lnk }) ∧
          (p ≠ bitsOf old 29 28 → p = 1 ∨ p = 2 → 2 ≤ l → d.bit (Reg.ETH_P_CTRL (l - 2)) 31 = true ∨ d.bit (Reg.ETH_P_CTRL (l - 2)) 30 = true →
            Leaves c t s (d.setB st 0 true)) ∧
          (l < 2 → p = bitsOf old 29 28 → p ≠ 3 → tbit v 26 ≠ tbit old 26 → ∃ d', Leaves c t s d' ∧ d'.stage l = 0 ∧ d'.bit Reg.TWN_STAT (24 + l) = false)))

/-- O19 (tier 2): A received Ethernet frame goes to its ring in memory, or is dropped and counted. Rules: R360 to R368. -/
def Obligations.EthernetReception : Prop :=
  ∀ (t : Nat) (p : Fin 2) (bytes : List Byte) (fcsOk : Bool) (s : State), s.dev.runsIn 12 = true → Inv s →
    let d := (s.arrive t).dev
    let x := Nat.max s.now t
    let cmd := Instr.ethFrameReceived t p bytes fcsOk
    let st := Reg.ETH_P_STAT p
    let ri := if isPtp bytes then 0 else 1
    let r := ringRegs p false ri
    let max := d.fld (Reg.ETH_P_MAXLEN p) 13 0
    let body := bytes.take max
    let got := rxTake s.mem d r 4096 (d.rd r.head).toNat body.length
    let open_ := d.bit (Reg.ETH_P_CTRL p) 31 = true ∧ d.bit st 31 = true ∧ 64 ≤ bytes.length
    let pausing := d.bit (Reg.ETH_P_CTRL p) 28 = true ∧ (pauseQuanta bytes).isSome = true
    let drop := Reg.ETH_P_RX_DROP p
    let more (a : Nat) (d' : Dev) : Prop := d'.fld a 31 0 = Nat.min (d.fld a 31 0 + 1) (2 ^ 32 - 1);
    (¬ open_ → Leaves cmd t s d) ∧
    (open_ → fcsOk = false → ∃ d', Leaves cmd t s d' ∧ d' = { d with regs := d'.regs, hwSet := d'.hwSet } ∧ RegsKept d d' [Reg.ETH_P_RX_FCS p] ∧ more (Reg.ETH_P_RX_FCS p) d') ∧
    (open_ → fcsOk = true → pausing → ∀ q, pauseQuanta bytes = some q →
      ∃ d', Leaves cmd t s d' ∧ d' = { d with eth := d'.eth } ∧ (d'.port p).pauseEnd = x + (if d.bit st 30 then 4096 * q else q * 64 * 64 / 10) ∧
        d'.port (1 - p) = d.port (1 - p)) ∧
    (open_ → fcsOk = true → ¬ pausing → d.ethAccept p bytes = false → Leaves cmd t s d) ∧
    (open_ → fcsOk = true → ¬ pausing → d.ethAccept p bytes = true → d.bit r.ctrl 0 = false →
      ∃ d', Leaves cmd t s d' ∧ d' = { d with regs := d'.regs, hwSet := d'.hwSet } ∧ RegsKept d d' [drop] ∧ more drop d') ∧
    (open_ → fcsOk = true → ¬ pausing → d.ethAccept p bytes = true → d.bit r.ctrl 0 = true → d.bit r.ctrl 1 = true ∨ got.1 = [] →
      ∃ d', Leaves cmd t s d' ∧ d' = { d with regs := d'.regs, hwSet := d'.hwSet, anv := d'.anv } ∧ RegsKept d d' [drop, st, r.ctrl] ∧ more drop d' ∧ d'.bit st 3 = true ∧
        (Quiet d .per x 206 → ∃ data, Requested d' .per x 206 (0x8120 + p) data)) ∧
    (open_ → fcsOk = true → ¬ pausing → d.ethAccept p bytes = true → d.bit r.ctrl 0 = true → d.bit r.ctrl 1 = false → got.1 ≠ [] →
      ∃ d' mem, exec cmd s = .next { s.arrive t with dev := d', mem := mem } ∧
        d' = { d with regs := d'.regs, hwSet := d'.hwSet, eth := d'.eth, anv := d'.anv, ethOut := d'.ethOut, free := d'.free } ∧
        RegsKept d d' [r.head, Reg.ETH_P_RX_FRAMES p, st, r.ctrl] ∧ (got.2 = false → RegsKept d d' [r.head, Reg.ETH_P_RX_FRAMES p, st]) ∧
        more (Reg.ETH_P_RX_FRAMES p) d' ∧ d'.bit st 0 = true ∧ (got.2 = true → d'.bit r.ctrl 1 = true ∧ d'.bit st 4 = true) ∧
        (∀ q, got.1.getLast? = some q → d'.rd r.head = BitVec.ofNat 32 (d.ringNext r q.1)) ∧
        d'.port (1 - p) = d.port (1 - p) ∧ (d.bit (Reg.ETH_P_CTRL p) 27 = false ∨ d.bit (Reg.ETH_P_CTRL p) 30 = false → d'.ethOut = []) ∧
        (∀ a, (∀ q ∈ got.1, (a < q.2.1 ∨ q.2.1 + q.2.2 ≤ a) ∧ (a < d.descAddr r q.1 ∨ d.descAddr r q.1 + 16 ≤ a)) → mem.read a = s.mem.read a) ∧
        (∀ i buf size, got.1 = [(i, buf, size)] → body.length ≤ size →
          (∀ j, j < body.length → isRam (buf + j) = true) → (∀ j, j < 16 → isRam (d.descAddr r i + j) = true) →
          buf + body.length ≤ d.descAddr r i ∨ d.descAddr r i + 16 ≤ buf →
          let w2 := 2 ^ 30 + 2 ^ 29 + 2 ^ 28 + b2n (decide (max < bytes.length)) * 2 ^ 26 + b2n (decide (0 < (ethType bytes).1)) * 2 ^ 25 + body.length
          let ns := stampNs (d.ns (x - d.ethUnits p bytes.length)) (d.fld (Reg.ETH_P_TSOFS p) 15 0);
          (∀ j, j < body.length → mem.read (buf + j) = body.getD j 0) ∧
          ∀ j, j < 16 → mem.read (d.descAddr r i + j) = (leBytes 8 ns ++ leBytes 4 w2 ++ leBytes 4 0).getD j 0))

/-- O20 (tier 2): Ethernet transmission from a ring, its completion in the descriptors, link changes and ring register writes. Rules: R360 to R368. -/
def Obligations.EthernetTransmissionAndRings : Prop :=
  (
    ∀ (t : Nat) (p : Fin 2) (s : State), s.dev.runsIn 12 = true → Inv s →
      let d := (s.arrive t).dev
      let x := Nat.max s.now t
      let r (i : Nat) := ringRegs p true i
      let start := Instr.ethFrameTransmit t p
      let st := Reg.ETH_P_STAT p
      let idle := d.bit (Reg.ETH_P_CTRL p) 30 = true ∧ d.bit st 31 = true ∧ (d.port p).tx = none ∧ (d.port p).pauseEnd ≤ x
      let runs (i : Nat) := d.bit (r i).ctrl 0 = true ∧ d.bit (r i).ctrl 1 = false
      let frame (i : Nat) := txTake s.mem d (r i) 4096 (d.rd (r i).head).toNat
      let sends (i : Nat) (l : List Nat) : Prop :=
        ∃ d', Leaves start t s d' ∧ d' = { d with regs := d'.regs, eth := d'.eth, cpu := d'.cpu } ∧ d'.port (1 - p) = d.port (1 - p) ∧
          RegsKept d d' [Reg.MEM_ECC, Reg.MEM_UE_ADDR_LO, Reg.MEM_UE_ADDR_HI] ∧
          (txBad s.mem d (r i) l = none → d'.regs = d.regs ∧ d'.cpu = d.cpu) ∧
          (∀ w, txBad s.mem d (r i) l = some w →
            d'.rd64 Reg.MEM_UE_ADDR_LO Reg.MEM_UE_ADDR_HI = w % 2 ^ 64 ∧ d'.fld Reg.MEM_ECC 15 8 = Nat.min (d.fld Reg.MEM_ECC 15 8 + 1) 255 ∧ d'.irqPending 260 = true) ∧
          ∃ f, (d'.port p).tx = some f ∧ f.ring = i ∧ f.first = (d.rd (r i).head).toNat ∧ f.count = l.length ∧ f.bytes = txBytes s.mem d (r i) l ∧ f.start = x ∧
            f.bad = (txBad s.mem d (r i) l).isSome
      let nothing (i : Nat) : Prop := ¬ runs i ∨ frame i = .ok none;
      (¬ idle → Leaves start t s d) ∧
      (∀ l, idle → runs 0 → frame 0 = .ok (some l) → sends 0 l) ∧
      (∀ l, idle → nothing 0 → runs 1 → frame 1 = .ok (some l) → sends 1 l) ∧
      (idle → nothing 0 → nothing 1 → Leaves start t s d) ∧
      (idle → nothing 0 → runs 1 → frame 1 = .error () →
        ∃ d', Leaves start t s d' ∧ d' = { d with regs := d'.regs, hwSet := d'.hwSet, anv := d'.anv } ∧ RegsKept d d' [(r 1).ctrl, st] ∧ d'.bit (r 1).ctrl 1 = true ∧
          d'.bit st 4 = true ∧ (Quiet d .per x 206 → ∃ data, Requested d' .per x 206 (0x8120 + p) data)) ∧
      ((d.port p).tx = none → Leaves (.ethTxComplete t p) t s d) ∧
      (∀ f, (d.port p).tx = some f → f.ring < 2 → 0 < f.count →
        let q := r f.ring
        let idx := d.txIdx q f.count f.first
        let last := idx.getLast?.getD 0
        ∃ d' mem, exec (.ethTxComplete t p) s = .next { s.arrive t with dev := d', mem := mem } ∧
          d' = { d with regs := d'.regs, hwSet := d'.hwSet, eth := d'.eth, anv := d'.anv, ethOut := d'.ethOut, free := d'.free } ∧ (d'.port p).tx = none ∧
          d'.port (1 - p) = d.port (1 - p) ∧
          ((d.port p).pauseDue = false → d'.ethOut = if f.bad = false ∧ d.laneCarries (2 + p) = true then [(p.val, f.bytes)] else []) ∧
          RegsKept d d' [q.head, q.ctrl, Reg.ETH_P_TX_FRAMES p, st] ∧ d'.rd q.head = BitVec.ofNat 32 (d.ringNext q last) ∧
          d'.fld (Reg.ETH_P_TX_FRAMES p) 31 0 = (if f.bad then d.fld (Reg.ETH_P_TX_FRAMES p) 31 0 else Nat.min (d.fld (Reg.ETH_P_TX_FRAMES p) 31 0 + 1) (2 ^ 32 - 1)) ∧
          d'.bit st 1 = (d.bit st 1 || (f.int && !f.bad)) ∧
          d'.bit q.ctrl 1 = (d.bit q.ctrl 1 || (nth { stopping := false } (d.port p).ring f.ring).stopping) ∧
          (∀ a, (∀ i ∈ idx, a < d.descAddr q i ∨ d.descAddr q i + 16 ≤ a) → mem.read a = s.mem.read a) ∧
          (∀ a, isRam a = false → mem.read a = s.mem.read a) ∧
          (f.count = 1 → (∀ j, j < 16 → isRam (d.descAddr q f.first + j) = true) →
            (mem.read (d.descAddr q f.first + 11)).getLsbD 7 = false ∧ (mem.read (d.descAddr q f.first + 11)).getLsbD 4 = (f.tsReq && !f.bad) ∧
            (mem.read (d.descAddr q f.first + 11)).getLsbD 2 = f.bad ∧
            (f.tsReq = true → f.bad = false → ∀ j, j < 8 →
              mem.read (d.descAddr q f.first + j) = (leBytes 8 (stampNs (d.ns f.start) (d.fld (Reg.ETH_P_TSOFS p) 31 16))).getD j 0)))) ∧
  (
    ∀ (t : Nat) (p : Fin 2) (r : Fin 2) (tx link anDone : Bool) (v : Word) (s : State), s.dev.runs = true → Inv s →
      let d := (s.arrive t).dev
      let x := Nat.max s.now t
      let st := Reg.ETH_P_STAT p
      let q := ringRegs p tx r
      let onWire := tx = true ∧ ∃ f, (d.port p).tx = some f ∧ f.ring = r
      let change := Instr.ethLinkChange t p link anDone;
      (link = true ∨ (d.port p).tx = none →
        ∃ d', Leaves change t s d' ∧ d' = { d with regs := d'.regs, hwSet := d'.hwSet, eth := d'.eth, anv := d'.anv } ∧ RegsKept d d' [st] ∧ d'.bit st 31 = link ∧
          d'.bit st 29 = anDone ∧ (d'.port p).tx = (d.port p).tx ∧
          d'.bit st 2 = (d.bit st 2 || (d.bit st 31 != link)) ∧ (∀ i, i ≠ 2 → i ≠ 29 → i ≠ 31 → d'.bit st i = d.bit st i) ∧
          (d.bit st 31 ≠ link → d.bit (Reg.ETH_P_CTRL p) 2 = true → (d.port p).attn = false → Quiet d .per x (204 + p) →
            ∃ data, Requested d' .per x (204 + p) (0x8110 + p) data)) ∧
      (∀ f, link = false → (d.port p).tx = some f → f.ring < 2 → 0 < f.count →
        ∃ d' mem, exec change s = .next { s.arrive t with dev := d', mem := mem } ∧ d' = { d with regs := d'.regs, hwSet := d'.hwSet, eth := d'.eth, anv := d'.anv } ∧
          (d'.port p).tx = none ∧ d'.bit st 31 = false ∧ RegsKept d d' [st, (ringRegs p true f.ring).head, (ringRegs p true f.ring).ctrl] ∧
          (f.count = 1 → (∀ j, j < 16 → isRam (d.descAddr (ringRegs p true f.ring) f.first + j) = true) →
            (mem.read (d.descAddr (ringRegs p true f.ring) f.first + 11)).getLsbD 7 = false ∧
            (mem.read (d.descAddr (ringRegs p true f.ring) f.first + 11)).getLsbD 2 = true) ∧
          ∀ a, (∀ i ∈ d.txIdx (ringRegs p true f.ring) f.count f.first, a < d.descAddr (ringRegs p true f.ring) i ∨ d.descAddr (ringRegs p true f.ring) i + 16 ≤ a) →
            mem.read a = s.mem.read a) ∧
      (v.toNat < (d.rd q.len).toNat → Leaves (.ringTailWrite t p tx r v) t s (d.wr q.tail v)) ∧
      ((d.rd q.len).toNat ≤ v.toNat → Leaves (.ringTailWrite t p tx r v) t s (d.setB st 5 true)) ∧
      (∃ d', Leaves (.ringRunWrite t p tx r v) t s d' ∧ d' = { d with regs := d'.regs, hwSet := d'.hwSet, eth := d'.eth } ∧ RegsKept d d' [q.ctrl] ∧
        d'.bit q.ctrl 0 = tbit v 0 ∧ (∀ i, 2 ≤ i → d'.bit q.ctrl i = d.bit q.ctrl i) ∧ (d'.port p).tx = (d.port p).tx ∧
        (tbit v 0 = true → d'.bit q.ctrl 1 = false) ∧
        (tbit v 0 = false → d.bit q.ctrl 0 = true → ¬ onWire → d'.bit q.ctrl 1 = true) ∧
        (tbit v 0 = false → d.bit q.ctrl 0 = true → onWire →
          d'.bit q.ctrl 1 = d.bit q.ctrl 1 ∧ (nth { stopping := false } (d'.port p).ring r).stopping = true) ∧
        (tbit v 0 = false → d.bit q.ctrl 0 = false → d'.bit q.ctrl 1 = d.bit q.ctrl 1)))

/-- O21 (tier 2): Safety self-tests, supply, clock check, output pulses and readback. Rules: R383 to R397. -/
def Obligations.SafetySelfTests : Prop :=
  (
    ∀ (t : Nat) (fail : Option Nat) (bad : Bool) (count part : Nat) (s : State),
      let d := (s.arrive t).dev
      let x := Nat.max s.now t
      let here := d.saf.vioF = true
      let run := d.fld Reg.SAF_STAT 2 0 = 1
      let faulted (cmd : Instr) (part : Nat) (saf : SafSt) : Prop :=
        ∃ d', Leaves cmd t s d' ∧ d' = { d with regs := d'.regs, hwSet := d'.hwSet, saf := saf, anv := d'.anv } ∧ RegsKept d d' [Reg.SAF_FAULT, Reg.SAF_STAT] ∧
          d'.fld Reg.SAF_STAT 2 0 = 2 ∧ d'.fld Reg.SAF_STAT 31 24 = 255 ∧ (∀ i, 3 ≤ i → i < 24 → d'.bit Reg.SAF_STAT i = d.bit Reg.SAF_STAT i) ∧
          d'.bit Reg.SAF_FAULT (if part < 3 then 2 else if part < 5 then 3 else 1) = true ∧
          (d.runs = true → Quiet d .pin x 148 → Requested d' .pin x 148 0x2104 [(1, part)])
      let tested := { d.saf with selfTested := true }
      let blank (cmd : Instr) (on : Bool) : Prop :=
        ∃ d', Leaves cmd t s d' ∧ d' = { d with regs := d'.regs, hwSet := d'.hwSet, saf := d'.saf } ∧ RegsKeptOutside d d' 0x10270000 0x10280000 [] ∧
          (∀ a, 0x10270000 ≤ a → a < 0x10280000 → d'.rd a = regReset a) ∧ d'.saf = { SafSt.init with vioF := on, onAt := x, lastScan := x, bgAt := x, injAt := x, winAt := x }
      let bg := here ∧ run ∧ d.saf.bgAt + 8 * 3600 * uS ≤ x
      let inj := here ∧ run ∧ d.saf.injAt + uS ≤ x
      let win := here ∧ d.saf.winAt + 10 * uMs ≤ x;
      (¬ here → blank (.vioFPowerOn t) true) ∧ (here → Leaves (.vioFPowerOn t) t s d) ∧ blank (.vioFLoss t) false ∧
      (here → d.saf.selfTested = false → d.saf.onAt + 12 * uMs ≤ x →
        Leaves (.safetySelftestDone t none) t s { d with saf := tested } ∧ faulted (.safetySelftestDone t (some part)) part tested) ∧
      (¬ here ∨ d.saf.selfTested = true ∨ x < d.saf.onAt + 12 * uMs → Leaves (.safetySelftestDone t fail) t s d) ∧
      (bg → faulted (.backgroundSelftest t (some part)) part { d.saf with bgAt := x } ∧
        Leaves (.backgroundSelftest t none) t s { d with saf := { d.saf with bgAt := x } }) ∧
      (¬ bg → Leaves (.backgroundSelftest t fail) t s d) ∧
      (inj → faulted (.inputInjection t true) 2 { d.saf with injAt := x } ∧ Leaves (.inputInjection t false) t s { d with saf := { d.saf with injAt := x } }) ∧
      (¬ inj → Leaves (.inputInjection t bad) t s d) ∧
      (win → count < 225000 ∨ 275000 < count → faulted (.clockCheckWindow t count) 3 { d.saf with winAt := x }) ∧
      (win → 225000 ≤ count → count ≤ 275000 → Leaves (.clockCheckWindow t count) t s { d with saf := { d.saf with winAt := x } }) ∧
      (¬ win → Leaves (.clockCheckWindow t count) t s d) ∧
      (here → d.saf.lastScan + 600 * uUs ≤ x →
        ∃ d', Leaves (.scanDeadlineExpiry t) t s d' ∧ d' = { d with regs := d'.regs, hwSet := d'.hwSet, saf := { d.saf with out := d'.saf.out }, anv := d'.anv } ∧
          RegsKept d d' [Reg.SAF_FAULT, Reg.SAF_STAT] ∧ d'.fld Reg.SAF_STAT 2 0 = 2 ∧ d'.fld Reg.SAF_STAT 31 24 = 255 ∧
          (∀ i, 3 ≤ i → i < 20 → d'.bit Reg.SAF_STAT i = d.bit Reg.SAF_STAT i) ∧ d'.bit Reg.SAF_FAULT 3 = true ∧ BitsKept d d' Reg.SAF_FAULT 3 3 ∧
          (∀ k, k < 4 → (d'.safOut k).on = false ∧ ((d.safOut k).on = true → d'.bit Reg.SAF_STAT (20 + k) = false)) ∧
          (d.runs = true → Quiet d .pin x 148 → Requested d' .pin x 148 0x2104 [(1, 4)])) ∧
      (¬ here ∨ x < d.saf.lastScan + 600 * uUs → Leaves (.scanDeadlineExpiry t) t s d)) ∧
  (
    ∀ (t : Nat) (k : Fin 4) (level : Bool) (s : State),
      let d := (s.arrive t).dev
      let x := Nat.max s.now t
      let o := d.safOut k
      let start := Instr.offPulseStart t k
      let stop := Instr.offPulseEnd t k
      let check := Instr.readbackCheck t k level
      let due := d.saf.vioF = true ∧ d.fld Reg.SAF_STAT 2 0 = 1 ∧ d.outUsed k = true ∧ o.lastPulse + d.testS ≤ x
      let outOnly (d' : Dev) : Prop :=
        d' = { d with regs := d'.regs, hwSet := d'.hwSet, saf := { d.saf with out := d'.saf.out } } ∧ (∀ j, j ≠ k.val → d'.safOut j = d.safOut j);
      (¬ due → Leaves start t s d) ∧
      (due → o.on = true → ∃ d', Leaves start t s d' ∧ outOnly d' ∧ RegsKept d d' [Reg.SAF_STAT] ∧ BitsKept d d' Reg.SAF_STAT (20 + k) (20 + k) ∧
        d'.bit Reg.SAF_STAT (20 + k) = false ∧
        d'.safOut k = { on := false, switchedAt := x, pulseEnd := some (x + d.tPulse), lastPulse := o.lastPulse + d.testS }) ∧
      (due → o.on = false → ∃ d', Leaves start t s d' ∧ outOnly d' ∧ RegsKept d d' [Reg.SAF_STAT, Reg.SAF_PULSE_SKIP] ∧
        d'.fld Reg.SAF_PULSE_SKIP 31 0 = Nat.min (d.fld Reg.SAF_PULSE_SKIP 31 0 + 1) (2 ^ 32 - 1) ∧
        d'.safOut k = { o with lastPulse := o.lastPulse + d.testS }) ∧
      (o.pulseEnd = none → Leaves stop t s d) ∧
      (∀ e, o.pulseEnd = some e →
        (x < e → Leaves stop t s d) ∧
        (e ≤ x → ∃ d', Leaves stop t s d' ∧ outOnly d' ∧ RegsKept d d' [Reg.SAF_STAT] ∧ BitsKept d d' Reg.SAF_STAT (20 + k) (20 + k) ∧
          (d'.safOut k).pulseEnd = none ∧ (d'.safOut k).lastPulse = o.lastPulse ∧
          (d'.safOut k).on = (o.on || d.outAllowed k) ∧ d'.bit Reg.SAF_STAT (20 + k) = (o.on || d.outAllowed k))) ∧
      (let ripe := d.saf.vioF = true ∧ d.outUsed k = true ∧ o.switchedAt + d.tRb k ≤ x;
        (¬ ripe → Leaves check t s d) ∧
        (ripe → level = o.on ∨ d.bit Reg.SAF_FAULT (4 + k) = true → Leaves check t s (d.setB Reg.SAF_STAT (16 + k) level)) ∧
        (ripe → level ≠ o.on → d.bit Reg.SAF_FAULT (4 + k) = false →
          ∃ d', Leaves check t s d' ∧ d' = { d with regs := d'.regs, hwSet := d'.hwSet, anv := d'.anv } ∧ RegsKept d d' [Reg.SAF_STAT, Reg.SAF_FAULT] ∧
            d'.bit Reg.SAF_STAT (16 + k) = level ∧ d'.bit Reg.SAF_FAULT (4 + k) = true ∧ BitsKept d d' Reg.SAF_FAULT (4 + k) (4 + k) ∧
            d'.fld Reg.SAF_STAT 2 0 = 2 ∧ d'.fld Reg.SAF_STAT 31 24 = 255 ∧
            (d.runs = true → Quiet d .pin x 147 → Requested d' .pin x 147 0x2103 [(1, k), (1, b2n o.on)]))))

/-- O22 (tier 2): Safety inputs, discrepancy, the scan with its demands, and the supply cut. Rules: R386 to R395. -/
def Obligations.SafetyInputsAndScan : Prop :=
  (
    ∀ (t since : Nat) (i : Fin 8) (contact level : Bool) (s : State),
      let d := (s.arrive t).dev
      let x := Nat.max s.now t
      let accept := Instr.sinLevelAccept t i contact ⟨level, since⟩
      let p := d.sinPair i
      let a := if contact then p.a else level
      let b := if contact then level else p.b
      let sin := if contact then i.val else 8 + i.val
      let disc := 8 + i.val
      let demandA := a = false
      let demandB := b = d.pairAnti i;
      (d.saf.vioF = false ∨ x < since + d.tFilt → Leaves accept t s d) ∧
      (d.saf.vioF = true → since + d.tFilt ≤ x →
        ∃ d', Leaves accept t s d' ∧ d' = { d with regs := d'.regs, hwSet := d'.hwSet, saf := { d.saf with pair := d'.saf.pair } } ∧ RegsKept d d' [Reg.SAF_SIN, Reg.SAF_STAT] ∧
          BitsKept d d' Reg.SAF_SIN sin sin ∧ BitsKept d d' Reg.SAF_STAT disc disc ∧ d'.bit Reg.SAF_SIN sin = level ∧
          (d'.sinPair i).a = a ∧ (d'.sinPair i).b = b ∧ (∀ j, j ≠ i.val → d'.sinPair j = d.sinPair j) ∧
          (d.pairUsed i = true → ¬ (demandA ↔ demandB) → p.disagreeAt = none → (d'.sinPair i).disagreeAt = some x) ∧
          (d.pairUsed i = true → (demandA ↔ demandB) → (d'.sinPair i).disagreeAt = none) ∧
          (d.pairUsed i = true → d.pairReset i = false → (d'.pairDemand i = true ↔ demandA ∨ demandB)) ∧
          (d.bit Reg.SAF_STAT disc = true → d.pairUsed i = true → ¬ demandA → ¬ demandB → p.bothDemand = true → p.demandAt = none →
            d'.bit Reg.SAF_STAT disc = false) ∧
          (d.bit Reg.SAF_STAT disc = true → d.pairUsed i = true → demandA ∨ demandB → d'.bit Reg.SAF_STAT disc = true)) ∧
      (let due := d.saf.vioF = true ∧ d.pairUsed i = true ∧ ∃ at_, p.disagreeAt = some at_ ∧ at_ + d.pairDisc i < x
        let timeout := Instr.discrepancyTimeout t i;
        (¬ due → Leaves timeout t s d) ∧
        (due → ∃ d', Leaves timeout t s d' ∧ d' = { d with regs := d'.regs, hwSet := d'.hwSet, saf := { d.saf with pair := d'.saf.pair }, anv := d'.anv } ∧
          RegsKept d d' [Reg.SAF_STAT] ∧ BitsKept d d' Reg.SAF_STAT disc disc ∧ d'.bit Reg.SAF_STAT disc = true ∧ (d'.sinPair i).bothDemand = false ∧
          (d.bit Reg.SAF_STAT disc = false → d.runs = true → Quiet d .pin x 146 →
            Requested d' .pin x 146 0x2102 [(1, i), (1, b2n p.a), (1, b2n p.b)])))) ∧
  (
    ∀ (t : Nat) (srb : List Bool) (crcOk : Bool) (f : Fin 8) (s : State),
      let d := (s.arrive t).dev
      let x := Nat.max s.now t
      let scan := Instr.safetyScan t srb crcOk
      let cut := Instr.supplyCut t f
      let levels (d' : Dev) : Prop := ∀ k, k < 4 → (d'.safOut k).on = (d'.outAllowed k && (d'.safOut k).pulseEnd.isNone);
      (d.saf.vioF = false ∨ x < d.saf.lastScan + 500 * uUs → Leaves scan t s d) ∧
      (d.saf.vioF = true → d.saf.lastScan + 500 * uUs ≤ x →
        ∃ d', Leaves scan t s d' ∧ d' = { d with regs := d'.regs, hwSet := d'.hwSet, saf := d'.saf, anv := d'.anv, keep := d'.keep } ∧ levels d' ∧ d'.saf.lastScan = x ∧
          (d'.fld Reg.SAF_STAT 2 0 ≠ 1 → ∀ k, k < 4 → (d'.safOut k).on = false) ∧
          (d.fld Reg.SAF_STAT 2 0 = 1 → crcOk = false → d'.fld Reg.SAF_STAT 2 0 = 2 ∧ d'.bit Reg.SAF_FAULT 1 = true) ∧
          (d.fld Reg.SAF_STAT 2 0 = 1 → d.saf.next = none → (∃ i, i < 8 ∧ (d.sfIn f).testBit i = true ∧ d.pairDemand i = true) →
            d'.demanded f = true) ∧
          (d.saf.next = none → d.demanded f = true → (d.sinPair (d.sfRst f)).resetReq = false → d'.demanded f = true) ∧
          (d.saf.next = none → ∀ k, (d'.sinPair k).resetReq = false)) ∧
      (d.saf.vioF = false ∨ d.fld Reg.SAF_STAT 2 0 ≠ 1 ∨ (x - d.saf.lastScan) % (500 * uUs) ≠ 0 → Leaves cut t s d) ∧
      (d.saf.vioF = true → d.fld Reg.SAF_STAT 2 0 = 1 → (x - d.saf.lastScan) % (500 * uUs) = 0 →
        ∃ d', Leaves cut t s d' ∧ d' = { d with regs := d'.regs, hwSet := d'.hwSet, saf := { d.saf with fn := d'.saf.fn, out := d'.saf.out } } ∧ RegsKept d d' [Reg.SAF_STAT] ∧
          BitsKept d d' Reg.SAF_STAT 23 20 ∧ levels d' ∧ (∀ j, j ≠ f.val → d'.safFn j = d.safFn j) ∧
          ∀ a, d.demanded f = true → (d.safFn f).demandAt = some a → a + d.sfDelay f ≤ x →
            (d'.safFn f).cut = true ∧ ∀ k, k < 4 → (d.sfOut f).testBit k = true → (d'.safOut k).on = false))

/-- O23 (tier 2): Unlocking with a password, staging, committing and discarding safety parameters. Rules: R398 to R405. -/
def Obligations.SafetyFieldChanges : Prop :=
  ∀ (t : Nat) (s : State), s.dev.runs = true →
    let d := (s.arrive t).dev
    let x := Nat.max s.now t
    let len := d.fld Reg.SAF_PWLEN 5 0
    let open_ := d.bit Reg.SAF_STAT 7 = true
    let num := d.fld Reg.SAF_ITEM_NUM 15 0
    let v := d.rd Reg.SAF_ITEM_VAL
    let items := d.safStagedItems
    let tp := bitsOf (itemOf items 2) 31 16
    let refused (cmd : Instr) (cause : Nat) : Prop :=
      ∃ d', Leaves cmd t s d' ∧ d' = { d with regs := d'.regs, hwSet := d'.hwSet, keep := d'.keep, anv := d'.anv } ∧
        RegsKept d d' [Reg.SAF_RESULT, Reg.LOG_LOST, Reg.LOG_STAT] ∧ d'.fld Reg.SAF_RESULT 3 0 = cause
    let base := d.saf.next.getD d.saf.copy
    let changed := d.saf.staged.filter (fun q => itemOf (safItems base) q.num != q.val)
    let keepSaf (cmd : Instr) (clear : List Nat) (saf : SafSt) : Prop :=
      ∃ d', Leaves cmd t s d' ∧ d' = { d with regs := d'.regs, hwSet := d'.hwSet, saf := saf } ∧ RegsKept d d' [Reg.SAF_STAT] ∧ (∀ i ∈ clear, d'.bit Reg.SAF_STAT i = false) ∧
        ∀ i, i ∉ clear → d'.bit Reg.SAF_STAT i = d.bit Reg.SAF_STAT i;
    (d.saf.vioF = false → ∀ c ∈ [Instr.safUnlock t, .safStage t, .safCommit t, .safLock t, .safDiscard t], Leaves c t s d) ∧
    (d.saf.vioF = true →
    (len < 8 ∨ 32 < len → refused (.safUnlock t) 6) ∧
    (8 ≤ len → len ≤ 32 → d.bit Reg.SAF_STAT 5 = true → refused (.safUnlock t) 7) ∧
    (8 ≤ len → len ≤ 32 → d.bit Reg.SAF_STAT 5 = false → d.bit Reg.SAF_STAT 4 = true → refused (.safUnlock t) 8) ∧
    (8 ≤ len → len ≤ 32 → d.bit Reg.SAF_STAT 5 = false → d.bit Reg.SAF_STAT 4 = false →
      ∃ d', Leaves (.safUnlock t) t s d' ∧ d' = { d with regs := d'.regs, hwSet := d'.hwSet, saf := { d.saf with hashPw := d.safPassword, hashEnd := d'.saf.hashEnd } } ∧
        RegsKeptOutside d d' 0x10270020 0x10270040 [Reg.SAF_STAT] ∧ (∀ i, i < 8 → d'.rd (Reg.SAF_PW i) = 0) ∧ d'.bit Reg.SAF_STAT 4 = true ∧
        d'.saf.hashEnd = some (x + 2 * uUs * leAt d.saf.copy 4 4)) ∧
    (∀ e, d.saf.hashEnd = some e →
      let good := pbkdf2 d.saf.hashPw ((d.saf.copy.drop 0x10).take 16) (leAt d.saf.copy 4 4) = (d.saf.copy.drop 0x20).take 48
      let n := d.saf.wrongRun + 1
      let done := Instr.passwordHashDone t;
      (x < e → Leaves done t s d) ∧
      (e ≤ x → good → ∃ d', Leaves done t s d' ∧ RegsKept d d' [Reg.SAF_STAT] ∧ d'.bit Reg.SAF_STAT 7 = true ∧ d'.bit Reg.SAF_STAT 4 = false ∧
        d' = { d with regs := d'.regs, hwSet := d'.hwSet, saf := { d.saf with hashEnd := none, hashPw := [], wrongRun := 0, lastStage := x } }) ∧
      (e ≤ x → ¬ good → ∃ d', Leaves done t s d' ∧ RegsKept d d' [Reg.SAF_STAT, Reg.SAF_RESULT, Reg.LOG_LOST, Reg.LOG_STAT] ∧
        d'.bit Reg.SAF_STAT 5 = true ∧ d'.bit Reg.SAF_STAT 7 = d.bit Reg.SAF_STAT 7 ∧ d'.bit Reg.SAF_STAT 4 = false ∧ d'.fld Reg.SAF_RESULT 3 0 = 6 ∧
        d' = { d with regs := d'.regs, hwSet := d'.hwSet, anv := d'.anv, keep := d'.keep, saf := { d.saf with hashEnd := none, hashPw := [], wrongRun := n, lockoutEnd := d'.saf.lockoutEnd } } ∧
        d'.saf.lockoutEnd = some (x + (if n < 5 then 1 else 600) * uS) ∧ (Quiet d .pin x 150 → Requested d' .pin x 150 0x2106 [(4, n)]))) ∧
    (d.saf.hashEnd = none → Leaves (.passwordHashDone t) t s d) ∧
    (¬ open_ → refused (.safStage t) 1) ∧
    (open_ → safKnown num = false → refused (.safStage t) 3) ∧
    (open_ → safKnown num = true → safRange tp num v = false ∨ v &&& safReserved num ≠ 0 → refused (.safStage t) 4) ∧
    (open_ → safKnown num = true → safRange tp num v = true → v &&& safReserved num = 0 → (∃ w, (num, w) ∈ items) ∨ items.length < 512 →
      ∃ d', Leaves (.safStage t) t s d' ∧ d' = { d with regs := d'.regs, hwSet := d'.hwSet, saf := { d.saf with staged := d'.saf.staged, lastStage := x } } ∧
        RegsKept d d' [Reg.SAF_STAT] ∧ BitsKept d d' Reg.SAF_STAT 6 6 ∧ d'.bit Reg.SAF_STAT 6 = true ∧
        { num := num, val := v, author := d.rd Reg.SAF_AUTHOR } ∈ d'.saf.staged ∧ (∀ q ∈ d.saf.staged, q.num ≠ num → q ∈ d'.saf.staged)) ∧
    (open_ → safKnown num = true → safRange tp num v = true → v &&& safReserved num = 0 → (∀ w, (num, w) ∉ items) → 512 ≤ items.length →
      refused (.safStage t) 5) ∧
    (¬ open_ → refused (.safCommit t) 1) ∧
    (open_ → d.fld Reg.PWR_STAT 2 0 = 2 ∨ d.fld Reg.SAF_STAT 2 0 = 2 → refused (.safCommit t) 2) ∧
    (open_ → d.fld Reg.PWR_STAT 2 0 ≠ 2 → d.fld Reg.SAF_STAT 2 0 ≠ 2 → safItemsOk items = false ∨ safItemsClear items = false → refused (.safCommit t) 4) ∧
    (open_ → d.fld Reg.PWR_STAT 2 0 ≠ 2 → d.fld Reg.SAF_STAT 2 0 ≠ 2 → safItemsOk items = true → safItemsClear items = true →
      (changed = [] → keepSaf (.safCommit t) [6, 7] { d.saf with staged := [] }) ∧
      (changed ≠ [] → ∃ c, keepSaf (.safCommit t) [6, 7] { d.saf with staged := [], next := some c, nextIsCommit := true, chgFirst := safNewest base + 1 })) ∧
    keepSaf (.safLock t) [7] d.saf ∧ keepSaf (.safDiscard t) [6, 7] { d.saf with staged := [] } ∧
    (d.saf.lockoutEnd = none → Leaves (.lockoutEnd t) t s d) ∧
    (∀ e, d.saf.lockoutEnd = some e →
      (x < e → Leaves (.lockoutEnd t) t s d) ∧ (e ≤ x → keepSaf (.lockoutEnd t) [5] { d.saf with lockoutEnd := none })) ∧
    (open_ → d.saf.lastStage + 600 * uS ≤ x → keepSaf (.unlockTimeout t) [7] d.saf) ∧
    (¬ open_ ∨ x < d.saf.lastStage + 600 * uS → Leaves (.unlockTimeout t) t s d))

/-- O24 (tier 2): The clock monitor: reference failure and recovery, loss of lock, a stop of every domain and the restart from it. Rules: R407 to
R414, R424. -/
def Obligations.ClockMonitorAndRestart : Prop :=
  (
    ∀ (t count : Nat) (s : State), s.dev.sys.porn = true → s.dev.clk.stopped = false →
      let d := (s.arrive t).dev
      let x := Nat.max s.now t
      let refOk := d.bit Reg.CLK_STAT 30 = true
      let sroOk := d.bit Reg.CLK_STAT 31 = true
      let fallback := d.bit Reg.CLK_STAT 29 = true
      let stops (cmd : Instr) (cause : Nat) (able : Bool) : Prop :=
        ∃ d', Leaves cmd t s d' ∧ d'.clk.stopped = true ∧ d'.runs = false ∧ d'.clk.started = false ∧ d'.clk.blw = none ∧
          d'.bit Reg.FRM_STAT 3 = false ∧ d'.bit Reg.FRM_STAT 4 = false ∧
          d'.clk.canLockAt = (if able then some x else none) ∧ d'.fld Reg.CLK_STOP_REC 31 28 = cause ∧ d'.bit Reg.CLK_STAT 28 = false ∧
          (d.keep.main = true → d'.rd64 Reg.CLK_STOP_TLO Reg.CLK_STOP_THI = d.keep.kt % 2 ^ 64)
      let stat (cmd : Instr) (clk : ClkSt) (set clear : List Nat) : Prop :=
        ∃ d', Leaves cmd t s d' ∧ d' = { d with regs := d'.regs, hwSet := d'.hwSet, clk := clk, anv := d'.anv } ∧ RegsKept d d' [Reg.CLK_STAT] ∧
          (∀ i ∈ set, d'.bit Reg.CLK_STAT i = true) ∧
          (∀ i ∈ clear, d'.bit Reg.CLK_STAT i = false) ∧ (∀ i, i ∉ set → i ∉ clear → d'.bit Reg.CLK_STAT i = d.bit Reg.CLK_STAT i) ∧
          (cmd = .refclkFailure t count → set = [29] → Quiet d .pin x 224 → Requested d' .pin x 224 0xB100 [(4, count)]) ∧
          (cmd = .sroOkFall t → Quiet d .pin x 225 → Requested d' .pin x 225 0xB101 [(1, 0)])
      let fell := { d.clk with refFell := some x };
      (d.keep.main = false → Leaves (.refclkFailure t count) t s { d with clk := fell }) ∧
      (d.keep.main = true → ¬ sroOk → stops (.refclkFailure t count) 1 false) ∧
      (d.keep.main = true → refOk → sroOk → d.clk.started = true → ¬ fallback → stat (.refclkFailure t count) fell [29] [30]) ∧
      (d.keep.main = true → sroOk → ¬ refOk ∨ d.clk.started = false ∨ fallback → stat (.refclkFailure t count) fell [] [30]) ∧
      (goodFor d.clk.refFell x = false → Leaves (.refclkRecovered t) t s d) ∧
      (goodFor d.clk.refFell x = true → d.sys.refWait = none → stat (.refclkRecovered t) d.clk [30] []) ∧
      (∀ w, goodFor d.clk.refFell x = true → d.sys.refWait = some w → d.keep.main = true →
        ∃ d', Leaves (.refclkRecovered t) t s d' ∧
          d' = { d with regs := d'.regs, hwSet := d'.hwSet, sys := { d.sys with refWait := none }, clk := { d.clk with started := true, startAt := x } } ∧
          d'.bit Reg.CLK_STAT 30 = true ∧ d'.fld Reg.SYS_BOOT 3 0 = 5 ∧ RegsKept d d' [Reg.CLK_STAT, Reg.SYS_BOOT]) ∧
      (goodFor d.clk.sroFell x = false → Leaves (.sroOkRise t) t s d) ∧
      (goodFor d.clk.sroFell x = true → stat (.sroOkRise t) d.clk [31] []) ∧ (¬ sroOk → Leaves (.sroOkFall t) t s d) ∧
      (sroOk → ¬ fallback → stat (.sroOkFall t) { d.clk with sroFell := some x } [] [31]) ∧
      (sroOk → fallback → stops (.sroOkFall t) 3 (d.bit Reg.CLK_STAT 30)) ∧
      (d.bit Reg.CLK_STAT 28 = false → Leaves (.pllLockLoss t) t s d) ∧
      (d.bit Reg.CLK_STAT 28 = true → stops (.pllLockLoss t) 2 (d.bit Reg.CLK_STAT 30 || d.bit Reg.CLK_STAT 31))) ∧
  (
    ∀ (t : Nat) (s : State), Inv s →
      let d := (s.arrive t).dev
      let x := Nat.max s.now t
      let cmd := Instr.clockStopRestart t
      let due := d.clk.stopped = true ∧ d.sys.porn = true ∧ ∃ c, d.clk.canLockAt = some c ∧ c + uMs ≤ x;
      (¬ due → Leaves cmd t s d) ∧
      (d.clk.stopped = true → goodFor d.clk.refFell x = true →
        Leaves (.refclkRecovered t) t s { d.setB Reg.CLK_STAT 30 true with clk := { d.clk with canLockAt := some (d.clk.canLockAt.getD x) } }) ∧
      (d.clk.stopped = true → goodFor d.clk.sroFell x = true →
        Leaves (.sroOkRise t) t s { d.setB Reg.CLK_STAT 31 true with clk := { d.clk with canLockAt := some (d.clk.canLockAt.getD x) } }) ∧
      (due → d.keep.main = true →
        ∃ d' mem, exec cmd s = .next { s.arrive t with dev := d', mem := mem } ∧ d'.clk.stopped = false ∧ d'.runs = true ∧
          (∀ a ∈ [Reg.ANV_SEQ, Reg.CLK_STOP_REC, Reg.CLK_STOP_TLO, Reg.CLK_STOP_THI, Reg.SYS_STRAP], d'.rd a = d.rd a) ∧
          d'.fld Reg.SYS_RST_CAUSE 1 0 = 2 ∧ d'.keep.ring = d.keep.ring ∧ d'.saf = d.saf ∧
          Requested d' .per x 227 0xB103 [(1, d.fld Reg.CLK_STOP_REC 31 28), (8, d.rd64 Reg.CLK_STOP_TLO Reg.CLK_STOP_THI)] ∧
          (∀ a, 0x800000000 ≤ a → a < 0xA00000000 → mem.read a = Memory.blank a) ∧
          (∀ a, a < 0x800000000 ∨ 0xA00000000 ≤ a → mem.read a = s.mem.read a)))

/-- O25 (tier 2): PLL lock, the Bellows, domain configuration, gates, and what a stopped clock leaves undone. Rules: R38, R408, R411, R415 to R423. -/
def Obligations.PllBellowsAndDomains : Prop :=
  (
    ∀ (t : Nat) (v : Word) (s : State), s.dev.runs = true →
      let d := (s.arrive t).dev
      let x := Nat.max s.now t
      let st := Reg.CLK_BLW_STAT
      let locks := d.clk.started = true ∧ d.bit Reg.CLK_STAT 28 = false ∧ d.clk.startAt + 200 * uUs ≤ x
      let ended (cmd : Instr) (bit : Nat) : Prop :=
        ∃ d', Leaves cmd t s d' ∧ d'.clk.blw = none ∧ d'.bit st 31 = false ∧ d'.bit st bit = true ∧ RegsKept d d' [st, Reg.CLK_PLL_STAT] ∧
          d' = { d with regs := d'.regs, hwSet := d'.hwSet, clk := { d.clk with blw := none, cpuKhz := d'.clk.cpuKhz, blwAt := d'.clk.blwAt }, anv := d'.anv, free := d'.free } ∧
          d'.clk.blwAt = (if bit = 30 then some x else d.clk.blwAt) ∧
          (∀ r, d.clk.blw = some r → bit = 29 → Quiet d .per x 229 → ∃ why, Requested d' .per x 229 0xB105 [(1, r.target), (1, r.seg), (1, why)]);
      (¬ locks → Leaves (.pllLockAcquired t) t s d) ∧
      (locks → ∃ d', Leaves (.pllLockAcquired t) t s d' ∧ d'.bit Reg.CLK_STAT 28 = true ∧ d'.rd Reg.CLK_PLL_STAT = 3600000#32 ∧
        (List.range 5).map (fun k => d'.rd (Reg.CLK_DOM_CFG k)) = [8#32, 4#32, 5#32, 20#32, 160#32] ∧ d'.bit st 31 = true ∧
        d'.clk = { d.clk with blw := some { target := 0, owner := 0, segs := s.otp.startProf, seg := 0, held := 0 }, cpuKhz := 720000 } ∧
        d' = { d with regs := d'.regs, hwSet := d'.hwSet, clk := d'.clk } ∧
        RegsKept d d' (Reg.CLK_STAT :: Reg.CLK_PLL_STAT :: st :: (List.range 5).map Reg.CLK_DOM_CFG)) ∧
      (d.clk.blw = none → Leaves (.bellowsAbort t) t s d ∧ Leaves (.bellowsUpdate t) t s d) ∧
      (d.clk.blw ≠ none → ended (.bellowsAbort t) 29) ∧
      (∀ a, d.clk.blwAt = some a → x < a + uUs → Leaves (.bellowsUpdate t) t s d) ∧
      (∀ r, d.clk.blw = some r → r.segs = [] → r.owner = 1 ∨ r.owner = 2 → (∀ a, d.clk.blwAt = some a → a + uUs ≤ x) → ended (.bellowsUpdate t) 30) ∧
      (∀ r e w rest, d.clk.blw = some r → r.segs = (e, w) :: rest → r.target = 0 ∧ e < 2 ^ 23 ∨ r.target = 1 → (∀ a, d.clk.blwAt = some a → a + uUs ≤ x) →
        let f := d.blwKhz r.target
        let step := bitsOf w 15 0
        let hold := bitsOf w 31 16
        let f' := if f < e then Nat.min e (f + step) else Nat.max e (f - step)
        let exceed := (f = e ∧ hold ≤ r.held + 1) ∨ (f ≠ e ∧ f' = e ∧ hold = 0);
        (f' ≠ e ∨ f ≠ e ∧ 0 < hold →
          ∃ d', Leaves (.bellowsUpdate t) t s d' ∧ d'.blwKhz r.target = f' ∧ RegsKept d d' [Reg.CLK_PLL_STAT] ∧
            d' = { d with regs := d'.regs, clk := { d.clk with cpuKhz := d'.clk.cpuKhz, blwAt := some x } }) ∧
        (f = e → r.held + 1 < hold →
          ∃ d', Leaves (.bellowsUpdate t) t s d' ∧ d'.blwKhz r.target = f ∧ RegsKept d d' [Reg.CLK_PLL_STAT] ∧
            d' = { d with regs := d'.regs, clk := { d.clk with cpuKhz := d'.clk.cpuKhz, blwAt := some x, blw := some { r with held := r.held + 1 } } }) ∧
        (exceed → rest ≠ [] →
          ∃ d', Leaves (.bellowsUpdate t) t s d' ∧ d'.blwKhz r.target = e ∧ RegsKept d d' [Reg.CLK_PLL_STAT, st] ∧ d'.fld st 3 0 = (r.seg + 1) % 16 ∧
            d' = { d with regs := d'.regs, clk := { d.clk with cpuKhz := d'.clk.cpuKhz, blwAt := some x,
                                                               blw := some { r with segs := rest, seg := r.seg + 1, held := 0 } } }) ∧
        (exceed → rest = [] → r.owner = 1 ∨ r.owner = 2 → ended (.bellowsUpdate t) 30) ∧
        (exceed → rest = [] → r.owner = 0 → ∃ d', Leaves (.bellowsUpdate t) t s d' ∧ d'.clk.blw = none ∧ d'.fld Reg.SYS_BOOT 3 0 = 6)) ∧
      (let d1 := d.rw Reg.CLK_BLW_CTRL (setBit (setBit v 31 true) 30 false)
        let count := d1.fld Reg.CLK_BLW_CTRL 4 0
        let segs := (List.range count).map (fun i => (d1.fld (Reg.CLK_BLW_SEG_END i) 22 0, d1.rd (Reg.CLK_BLW_SEG_RATE i)));
        (d1.fld Reg.CLK_BLW_CTRL 29 29 = 1 → d.clk.blw = none → 1 ≤ count → count ≤ 16 → (∀ q ∈ segs, 50000 ≤ q.1 ∧ q.1 ≤ 800000) → d.fld Reg.TMP_STAT 2 0 = 0 →
          ∃ d', Leaves (.bellowsStart t v) t s d' ∧ d' = { d1 with regs := d'.regs, hwSet := d'.hwSet, clk := { d1.clk with blw := d'.clk.blw } } ∧ RegsKept d1 d' [st] ∧ d'.bit st 31 = true ∧
            d'.fld st 3 0 = 0 ∧ d'.clk.blw = some { target := 1, owner := 1, segs := segs, seg := 0, held := 0 }) ∧
        (d.clk.blw ≠ none ∨ count < 1 ∨ 16 < count ∨ (d1.fld Reg.CLK_BLW_CTRL 29 29 = 0 ∧ (d.bit Reg.FRM_STAT 3 = true ∨ d.anyPwm = true)) →
          ∃ d', Leaves (.bellowsStart t v) t s d' ∧ d' = { d1 with regs := d'.regs, hwSet := d'.hwSet, anv := d'.anv, free := d'.free } ∧ RegsKept d1 d' [Reg.CLK_STAT] ∧
            d'.bit Reg.CLK_STAT 3 = true ∧ (Quiet d .per x 229 → ∃ data, Requested d' .per x 229 0xB105 data)))) ∧
  (
    ∀ (t : Nat) (k : Fin 5) (v : Word) (s : State), s.dev.runs = true →
      let d := (s.arrive t).dev
      let x := Nat.max s.now t
      let st := Reg.CLK_STAT
      let lock := d.bit st 27 = true
      let dom := Reg.CLK_DOM_CFG k
      let d1 := d.rw dom v
      let src := bitsOf v 31 30
      let busy := (k = 0 ∨ k = 1 ∨ k = 3) ∧ (d.bit Reg.FRM_STAT 3 = true ∨ ∃ n, n < 96 ∧ d.bit (Reg.PWM_CH_CFG n) 31 = true)
      let cmp := k = 4 ∧ ∃ n, n < 48 ∧ d.bit (Reg.CMP_CH_CFG n) 31 = true
      let bad := busy ∨ cmp ∨ (src = 0 ∧ d.bit st 28 = false) ∨ (src = 2 ∧ d.bit st 30 = false) ∨ bitsOf v 7 0 = 0 ∨ src = 3;
      (¬ lock → Leaves (.lanePllLockLoss t) t s d) ∧
      (lock → ∃ d', Leaves (.lanePllLockLoss t) t s d' ∧ d' = { d with regs := d'.regs, hwSet := d'.hwSet, lnk := d'.lnk, anv := d'.anv } ∧ RegsKept d d' [st] ∧
        BitsKept d d' st 27 27 ∧ d'.bit st 27 = false ∧ (∀ l, l < 4 → (d'.lane l).txIdle = true) ∧ (Quiet d .per x 230 → Requested d' .per x 230 0xB106 [])) ∧
      (d.bit st 30 = false → Leaves (.lanePllLockAcquired t) t s d) ∧
      (d.bit st 30 = true → ∃ d', Leaves (.lanePllLockAcquired t) t s d' ∧ d' = { d with regs := d'.regs, hwSet := d'.hwSet, lnk := d'.lnk } ∧ RegsKept d d' [st] ∧
        BitsKept d d' st 27 27 ∧ d'.bit st 27 = true ∧
        ∀ l, l < 4 → (d'.lane l).txIdle = (!d.bit (Reg.LNK_LN_CFG l) 31 || d.power == 0 || d.power == 4 || (decide (l < 2) && d.stage l == 0))) ∧
      (d.bit st 29 = false → Leaves (.refReturn t) t s d) ∧
      (d.bit st 29 = true → d.bit st 30 = false → Leaves (.refReturn t) t s (d.setB st 0 true)) ∧
      (d.bit st 29 = true → d.bit st 30 = true → Leaves (.refReturn t) t s ((d.setB st 29 false).raise .per x 226 0xB102 [])) ∧
      (bad → Leaves (.domainSwitch t k v) t s (d.setB st 2 true)) ∧
      (¬ bad → d1.rd dom = d.rd dom → Leaves (.domainSwitch t k v) t s d1) ∧
      (¬ bad → d1.rd dom ≠ d.rd dom →
        ∃ d', Leaves (.domainSwitch t k v) t s d' ∧
          d' = { d1 with clk := { d1.clk with switching := d'.clk.switching, cpuKhz := d'.clk.cpuKhz }, time := d'.time } ∧
          nth none d'.clk.switching k = (if d.bit Reg.CLK_GATE k then some (x + ceilDiv (32 * 8000000) (d.srcKhz src)) else nth none d.clk.switching k) ∧
          (∀ j, j < 5 → j ≠ k.val → nth none d'.clk.switching j = nth none d.clk.switching j) ∧
          (k ≠ 2 → d'.clk.cpuKhz = d.clk.cpuKhz) ∧ (k = 2 → d'.clk.cpuKhz = divN (d.srcKhz src) (bitsOf v 7 0)) ∧
          (k ≠ 3 ∨ d.clocked 3 = false → d'.time = d.time) ∧ (k = 3 → d.clocked 3 = true → d'.time.inc = 0 ∧ d'.time.at_ = x ∧ d'.time.base = d.time2 x)) ∧
      (nth none d.clk.switching k = none ∨ (∃ r, nth none d.clk.switching k = some r ∧ x < r) → Leaves (.domainRestart t k) t s d) ∧
      (∀ r, nth none d.clk.switching k = some r → r ≤ x →
        ∃ d', Leaves (.domainRestart t k) t s d' ∧ d' = { d with clk := { d.clk with switching := d'.clk.switching }, time := { d.time with pend := d'.time.pend } } ∧
          nth none d'.clk.switching k = none ∧ (∀ j, j < 5 → j ≠ k.val → nth none d'.clk.switching j = nth none d.clk.switching j) ∧
          (k ≠ 3 → d'.time.pend = d.time.pend) ∧
          ∀ p, k = 3 → d.bit Reg.CLK_GATE 3 = true → d.time.pend = some p → p.at_ = never → d'.time.pend = some { p with at_ := (x / uPer + 1) * uPer }) ∧
      (∀ g, g < 15 → (∀ j, j < 15 → j ≠ g → tbit v j = d.bit Reg.CLK_GATE j) → tbit v g ≠ d.bit Reg.CLK_GATE g →
        let child := ∃ c ∈ gateChildren g, d.bit Reg.CLK_GATE c = true
        let parent := ∃ p, gateParent g = some p ∧ d.bit Reg.CLK_GATE p = false
        let refused (cause : Nat) : Prop :=
          ∃ d', Leaves (.gateWrite t v) t s d' ∧ d' = { d with regs := d'.regs, hwSet := d'.hwSet, anv := d'.anv } ∧ RegsKept d d' [Reg.CLK_GATE_ERR] ∧
            d'.bit Reg.CLK_GATE_ERR 31 = true ∧ d'.fld Reg.CLK_GATE_ERR 9 8 = cause ∧ d'.fld Reg.CLK_GATE_ERR 3 0 = g ∧
            (Quiet d .per x 228 → Requested d' .per x 228 0xB104 [(1, g), (1, cause)])
        (tbit v g = false → child → refused 1) ∧ (tbit v g = true → parent → refused 2) ∧ (tbit v g = false → ¬ child → d.gateUsed g = true → refused 3) ∧
        (tbit v g = true → ¬ parent →
          ∃ d', Leaves (.gateWrite t v) t s d' ∧ d' = { d.setB Reg.CLK_GATE g true with time := d'.time } ∧ (g ≠ 3 → d'.time = d.time) ∧
            ∀ p, g = 3 → d.time.pend = some p → p.at_ = never → nth none d.clk.switching 3 = none →
              d'.time = { d.time with pend := some { p with at_ := (x / uPer + 1) * uPer } }) ∧
        (tbit v g = false → ¬ child → d.gateUsed g = false →
          ∃ d', Leaves (.gateWrite t v) t s d' ∧ d' = { d.setB Reg.CLK_GATE g false with time := d'.time } ∧ (g ≠ 3 ∨ d.clocked 3 = false → d'.time = d.time) ∧
            (g = 3 → d.clocked 3 = true → d'.time.inc = 0 ∧ d'.time.at_ = x ∧ d'.time.base = d.time2 x))) ∧
      ((∀ j, j < 15 → tbit v j = d.bit Reg.CLK_GATE j) → Leaves (.gateWrite t v) t s d)) ∧
  (
    ∀ (t sl code fails stretch : Nat) (raw zero ref : Int) (n : Fin 96) (q : Fin 48) (c : Fin 8) (b : Fin 5) (b4 : Fin 4) (b6 : Fin 6) (k : Fin 2) (m : Fin 4)
      (pin : Fin 32) (e : Fin 64) (up : Bool) (bits zs : List Bool) (bytes : List Byte) (chk : Option DarningCheck) (part : Option Nat) (src : InputSample)
      (ecc : List EccError) (bad : List Nat) (s : State),
      let d := (s.arrive t).dev
      let still (g : Nat) (cs : List Instr) : Prop := s.dev.runsIn g = false → ∀ cmd ∈ cs, Leaves cmd t s d
      let stillAt (g at_ : Nat) (cmd : Instr) : Prop := s.dev.runsIn g = false → Leaves cmd at_ s (s.arrive at_).dev;
      (∀ g, s.dev.runs = false ∨ s.dev.bit Reg.CLK_GATE g = false ∨ s.dev.bit Reg.CLK_GATE (gateRoot g) = false ∨
        (nth none s.dev.clk.switching (gateRoot g)).isSome = true → s.dev.runsIn g = false) ∧
      still 0 [.eventArrival t, .eventDelivery t] ∧
      still 3 [.holdoverTimeout t, .triggerFire t m, .toutPulseEnd t m, .captureEdge t m up] ∧
      still 5 [.inputDelivery t src, .taskStart t e stretch ecc, .latestStartReached t e stretch ecc, .taskFinish t e, .collectorCycle t, .rotationTimerExpiry t,
        .selfTestStart t e, .selfTestEnd t fails] ∧
      stillAt 5 (s.dev.fcAt (s.dev.P - 88)) (.collectEnd bad) ∧ stillAt 6 (s.dev.t0Due.getD 0) (.frameT0 ecc bad) ∧ stillAt 6 (s.dev.fcAt 900) .acquireEnd ∧
      stillAt 7 (s.dev.pch n).next (.periodBoundary n) ∧ stillAt 7 ((s.dev.pch n).bound + 4 * s.dev.actPer n) (.peakReload n) ∧
      still 7 [.referenceEdge t n, .commandTurnOn t n up, .setPresent t n, .edgeListPresent t n, .fltDetection t n, .fltFilterRelease t n, .blankingWindowEnd t n,
        .protectionLevelChange t n ⟨bits, up⟩, .quenchPresent t b6, .diagSettleEnd t, .diagMeansTaken t, .diagDwellEnd t, .gdpTestEnd t part] ∧
      still 8 [.sdiStreamOutput t n ⟨bits, up⟩, .settleMaskEnd t n, .stuckBitstream t n, .sdcClockLoss t c, .sdcClockReturn t c, .spareFilterMove t] ∧
      still 9 [.adcConversionStart t b, .adcConversionDone t b sl raw up chk, .syncGroupStart t b, .darningCalibrationDone t b4 zero ref, .darningRotationDue t b4,
        .urgentConversionStart t b] ∧
      still 10 [.serialTransferStart t k up, .serialTransferDone t k bits, .observerUpdate t k, .probeEdge t k ⟨m, up⟩] ∧
      (s.dev.runsIn 10 = false →
        Leaves (.encCountStep t k bits zs) t s (d.setEnc k fun r => { r with pinA := bits.headD r.pinA, pinB := zs.headD r.pinB }) ∧
        Leaves (.encIndex t ⟨k, zs⟩) t s (d.setEnc k fun r => { r with pinZ := zs.headD r.pinZ })) ∧
      still 11 [.meteringSample t m] ∧ still 12 [.ethFrameReceived t k bytes up, .ethFrameTransmit t k, .ethTxComplete t k] ∧ still 13 [.gpioEdge t pin up] ∧
      still 14 [.comparatorDecision t q code])

/-- O26 (tier 2): Temper: a measurement moves the state machine; RESUME leaves TRIPPED. Rules: R426 to R433. -/
def Obligations.Temper : Prop :=
  ∀ (t : Nat) (readings : List Int) (defects : List SensorDefect) (s : State), s.dev.runs = true →
    let d := (s.arrive t).dev
    let x := Nat.max s.now t
    let cmd := Instr.temperMeasurement t readings defects
    let st := Reg.TMP_STAT
    let atTrip (e : Dev) := ∃ i, i < 24 ∧ e.tmpUsed i = true ∧ e.tmpTrip i ≤ e.tmpT i ∧ e.tmpBroken i = false
    let due := 6 ≤ d.fld Reg.SYS_BOOT 3 0 ∧ ∀ l, d.tmp.last = some l → l + (if d.bit st 3 then 100 * uUs else uMs) ≤ x
    let cool := ∀ i, i < 24 → d.tmpUsed i = true → d.tmpT i < d.tmpWarn i - d.tmpHyst ∧ d.tmpBroken i = false;
    (¬ due → Leaves cmd t s d) ∧
    (due → ∃ d', Leaves cmd t s d' ∧ d'.tmp.last = some x ∧
      d' = { d with regs := d'.regs, hwSet := d'.hwSet, tmp := d'.tmp, plc := { d.plc with hotSince := d'.plc.hotSince, hot := d'.plc.hot, excess := d'.plc.excess },
                    clk := { d.clk with blw := d'.clk.blw }, anv := d'.anv, free := d'.free } ∧
      RegsKeptOutside d d' 0x10050000 0x10060000 [Reg.CLK_BLW_STAT] ∧
      d'.fld st 20 16 = d'.hottest % 32 ∧ d'.tmp.inNow.head? = some (BitVec.ofNat 32 (d'.fld st 2 0)) ∧
      (d.fld st 2 0 < 2 → atTrip d' → d'.fld st 2 0 = 3) ∧
      (d.fld st 2 0 = 2 → x < d.tmp.since + d.stopMs * uMs → atTrip d' → d'.fld st 2 0 = 3) ∧
      (d.fld st 2 0 = 2 → d.tmp.since + d.stopMs * uMs ≤ x → d'.fld st 2 0 = 3) ∧ (d.fld st 2 0 = 3 → d'.fld st 2 0 = 3) ∧
      (∀ i, i < 24 → d.tmpUsed i = true → d.tmpBroken i = true → d'.tmpBroken i = true) ∧
      ∀ i, i < 16 → d.tmpBroken i = false → (∀ q ∈ defects, q.sensor ≠ i) →
        let v := nth 250 readings i;
        (v < -550 ∨ 1500 < v → d'.tmpBroken i = true ∧ d'.fld (Reg.TMP_S_DATA i) 6 4 = 3 ∧ d'.bit st 7 = true) ∧
        (-550 ≤ v → v ≤ 1500 → (d.sens i).hist = [] → d'.tmpBroken i = false ∧ d'.tmpT i = v)) ∧
    (d.fld st 2 0 = 3 → cool →
      ∃ d', Leaves (.resume t) t s d' ∧ d'.fld st 2 0 = 0 ∧ (Quiet d .per x 222 → ∃ data, Requested d' .per x 222 0xA106 data) ∧
        d' = { d with regs := d'.regs, hwSet := d'.hwSet, tmp := d'.tmp, clk := { d.clk with blw := d'.clk.blw }, anv := d'.anv, free := d'.free, keep := d'.keep, sys := d'.sys }) ∧
    (d.fld st 2 0 ≠ 3 ∨ ¬ cool → Leaves (.resume t) t s (d.setB st 8 true))

/-- O27 (tier 2): Loss and return of the main supplies, the Keep store and the wake time. Rules: R434 to R441, R472. -/
def Obligations.KeepSupplies : Prop :=
  ∀ (t : Nat) (s : State), Inv s →
    let d := (s.arrive t).dev
    let x := Nat.max s.now t
    let volatile (a : Nat) := (0x08000000 ≤ a ∧ a < 0x08800000) ∨ (0x800000000 ≤ a ∧ a < 0xA00000000)
    let forgets (mem : Memory) := ∀ a, mem.read a = if volatile a then Memory.blank a else s.mem.read a
    let loss := Instr.mainSupplyLoss t
    let back := Instr.mainSupplyReturn t
    let sector := (if d.bit Reg.LOG_CFG 31 then 0x29000000 else 0x21000000) + 4096 * d.fld Reg.LOG_JNEXT 10 0
    let wake := d.rd64 Reg.PWR_WAKE_LO Reg.PWR_WAKE_HI
    let now := if d.keep.main then d.keep.kt else d.keep.kt + (x - d.keep.ktAt) / uNs;
    (d.keep.main = false → ∃ mem, exec loss s = .next { s.arrive t with mem := mem } ∧ forgets mem) ∧
    (d.keep.main = true →
      ∃ d' mem, exec loss s = .next { s.arrive t with dev := d', mem := mem } ∧ forgets mem ∧ d'.keep.main = false ∧ d'.runs = false ∧
        d'.fld Reg.PWR_STAT 2 0 = 4 ∧ d'.bit Reg.LOG_STAT 31 = false ∧ d'.keep.ring = d.keep.ring ∧ d'.keep.unfl = d.keep.unfl ∧ d'.keep.lossKt = d.keep.kt ∧
        (d.keep.alive = true → d.keep.queue.length < 512 → ∃ e, d'.keep.queue = d.keep.queue ++ [e] ∧ e.src = 0x800E ∧ e.code = 0xE130 ∧ e.seq = 0xFFFFFFFF) ∧
        (d.bit Reg.LOG_CTRL 0 = true → d.keep.unfl ≠ [] → d'.keep.flushReq = true)) ∧
    (d.keep.main = true → Leaves back t s d) ∧
    (d.keep.main = false → ∃ d', Leaves back t s d' ∧ d'.keep.main = true ∧ d'.sec.psuEn = true ∧ d'.bit Reg.LOG_STAT 31 = true ∧ d'.keep.mainSince = x ∧
      (d.keep.alive = true → d'.keep.ring = d.keep.ring ∧ d'.keep.kt = now ∧ d'.keep.harvSince = none ∧ d'.bit Reg.LOG_STAT 30 = (d.bit Reg.LOG_STAT 30 && d.keep.harvSince.isNone)) ∧
      (d.keep.alive = true → d.keep.harvSince = none → d.keep.queue.length < 512 →
        ∃ e, d'.keep.queue = d.keep.queue ++ [e] ∧ e.src = 0x800E ∧ e.code = 0xE131 ∧ e.time = now ∧ e.seq = (d.rd Reg.ANV_SEQ).toNat) ∧
      (d.keep.alive = false → d'.keep.ring = [] ∧ d'.rd Reg.LOG_WIDX = 0)) ∧
    (d.keep.main = true ∨ d.keep.alive = true → Leaves (.cqThresholdReached t) t s d) ∧
    (d.keep.main = false → d.keep.alive = false → 
      ∃ d', Leaves (.cqThresholdReached t) t s d' ∧ d' = { d with regs := d'.regs, hwSet := d'.hwSet, keep := { KeepSt.init with main := false, ktAt := x, mainSince := x } } ∧
        RegsKeptOutside d d' 0x10030000 0x10040000 [Reg.PWR_STAT] ∧ (∀ a, 0x10030000 ≤ a → a < 0x10040000 → d'.rd a = regReset a) ∧
        d'.fld Reg.PWR_STAT 2 0 = 4 ∧ BitsKept d d' Reg.PWR_STAT 2 0) ∧
    (d.keep.main = true ∨ d.keep.alive = false → Leaves (.cqCollapse t) t s d) ∧
    (d.keep.main = false → d.keep.alive = true →
      ∃ d' mem, exec (.cqCollapse t) s = .next { s.arrive t with dev := d', mem := mem } ∧
        d' = { d with regs := d'.regs, hwSet := d'.hwSet, free := d'.free, sec := { d.sec with psuEn := true }
                      keep := { KeepSt.init with main := false, alive := false, ktAt := x, mainSince := x } } ∧
        RegsKeptOutside d d' 0x10030000 0x10040000 [Reg.PWR_STAT, Reg.PWR_WAKE_LO, Reg.PWR_WAKE_HI] ∧ d'.rd Reg.PWR_WAKE_LO = 0 ∧ d'.rd Reg.PWR_WAKE_HI = 0 ∧
        (∀ a, 0x10030000 ≤ a → a < 0x10040000 → d'.rd a = regReset a) ∧ d'.fld Reg.PWR_STAT 2 0 = 0 ∧ BitsKept d d' Reg.PWR_STAT 2 0 ∧
        (∀ a, d.keep.burst = none ∨ a < sector ∨ sector + 4064 ≤ a → mem.read a = s.mem.read a)) ∧
    (d.sec.psuEn = true ∨ wake = 0 ∨ now < wake → Leaves (.wakeTimeReached t) t s d) ∧
    (d.sec.psuEn = false → wake ≠ 0 → wake ≤ now → Leaves (.wakeTimeReached t) t s { d with sec := { d.sec with psuEn := true } })

/-- O28 (tier 2): Firmware log entries, writing of log entries into the ring, reading slots, the harvester and the time count. Rules: R437 to R444,
R439. -/
def Obligations.TroubleLog : Prop :=
  ∀ (t : Nat) (s : State), s.dev.keep.alive = true →
    let d := (s.arrive t).dev
    let x := Nat.max s.now t
    let i := d.fld Reg.LOG_WIDX 12 0
    let held := d.keep.unfl.any (fun u => u.1 == i)
    let code := d.fld Reg.LOG_FW_CODE 15 0
    let put (d' : Dev) (src code : Nat) : Prop := ∃ e, d'.keep.queue = d.keep.queue ++ [e] ∧ e.src = src ∧ e.code = code
    let harvests := d.keep.main = false ∧ d.bit Reg.LOG_STAT 30 = false
    let room := d.keep.queue.length < 512;
    (d.keep.queue = [] → Leaves (.logEntryWrite t) t s d) ∧
    (d.keep.wroteAt.map (· / uFc) = some (x / uFc) → Leaves (.logEntryWrite t) t s d) ∧
    (∀ e rest, d.keep.queue = e :: rest → d.keep.wroteAt.map (· / uFc) ≠ some (x / uFc) →
      ∃ d', Leaves (.logEntryWrite t) t s d' ∧ d' = { d with regs := d'.regs, hwSet := d'.hwSet, keep := d'.keep, anv := d'.anv } ∧
        RegsKept d d' [Reg.LOG_WIDX, Reg.LOG_COUNT, Reg.LOG_LOST, Reg.LOG_STAT] ∧ d'.keep.queue = rest ∧ assocGet i d'.keep.ring = some e ∧
        (∀ j, j ≠ i → assocGet j d'.keep.ring = assocGet j d.keep.ring) ∧ (∀ u, u ∈ d'.keep.unfl ↔ u = (i, x) ∨ (u ∈ d.keep.unfl ∧ u.1 ≠ i)) ∧
        d'.keep.wroteAt = some x ∧ (∀ run, d'.keep.burst = some run → i ∉ run.slots) ∧ d'.fld Reg.LOG_WIDX 12 0 = (i + 1) % 8192 ∧
        (held = false → d'.rd Reg.LOG_LOST = d.rd Reg.LOG_LOST ∧ d'.rd Reg.LOG_STAT = d.rd Reg.LOG_STAT ∧ d'.anv = d.anv) ∧
        (held = true → d'.bit Reg.LOG_STAT 1 = true ∧ d'.fld Reg.LOG_LOST 31 0 = Nat.min (d.fld Reg.LOG_LOST 31 0 + 1) (2 ^ 32 - 1) ∧
          (d.bit Reg.LOG_STAT 1 = false → Quiet d .per x 248 → ∃ n, Requested d' .per x 248 0xE100 [(4, n)]))) ∧
    (s.dev.runs = true → code < 0xE800 ∨ 0xEBFF < code → Leaves (.logFwWrite t) t s (d.setB Reg.LOG_STAT 0 true)) ∧
    (s.dev.runs = true → 0xE800 ≤ code → code ≤ 0xEBFF → room →
      ∃ d', Leaves (.logFwWrite t) t s d' ∧ d' = { d with keep := { d.keep with queue := d'.keep.queue } } ∧
        d'.keep.queue = d.keep.queue ++ [{ time := d.ns x, seq := (d.rd Reg.ANV_SEQ).toNat, src := 0xC000, code := code,
                                           data := (List.range 4).flatMap (fun w => leBytes 4 (d.rd (Reg.LOG_FW_DATA w)).toNat) }]) ∧
    (s.dev.runs = true → ∀ e, assocGet (d.fld Reg.LOG_RIDX 12 0) d.keep.ring = some e →
      ∃ d', Leaves (.logReadLatch t) t s d' ∧ d' = { d with regs := d'.regs, hwSet := d'.hwSet, answer := d'.answer } ∧
        RegsKept d d' ((List.range 8).map Reg.LOG_RDATA) ∧ d'.answer = d'.rd (Reg.LOG_RDATA 0) ∧ (d'.rd (Reg.LOG_RDATA 0)).toNat = e.time % 2 ^ 32 ∧
        (d'.rd (Reg.LOG_RDATA 1)).toNat = e.time / 2 ^ 32 % 2 ^ 32 ∧ (d'.rd (Reg.LOG_RDATA 2)).toNat = e.seq % 2 ^ 32 ∧
        (d'.rd (Reg.LOG_RDATA 3)).toNat = e.src % 2 ^ 16 + 2 ^ 16 * (e.code % 2 ^ 16)) ∧
    (s.dev.runs = true → assocGet (d.fld Reg.LOG_RIDX 12 0) d.keep.ring = none →
      ∃ d', Leaves (.logReadLatch t) t s d' ∧ RegsKept d d' ((List.range 8).map Reg.LOG_RDATA) ∧ d'.answer = d'.rd (Reg.LOG_RDATA 0)) ∧
    (harvests → room → ∃ d', Leaves (.harvesterStart t) t s d' ∧ RegsKept d d' [Reg.LOG_STAT] ∧ BitsKept d d' Reg.LOG_STAT 30 30 ∧ d'.bit Reg.LOG_STAT 30 = true ∧
      d'.keep.harvSince = some x ∧ put d' 0x800E 0xE132) ∧
    (¬ harvests → Leaves (.harvesterStart t) t s d) ∧
    (d.keep.harvSince = none → Leaves (.harvesterStop t) t s d) ∧
    (∀ since, d.keep.harvSince = some since → room →
      ∃ d', Leaves (.harvesterStop t) t s d' ∧ RegsKept d d' [Reg.LOG_STAT] ∧ BitsKept d d' Reg.LOG_STAT 30 30 ∧ d'.bit Reg.LOG_STAT 30 = false ∧
        d'.keep.harvSince = none ∧ d'.keep.harvTime = d.keep.harvTime + (x - since) ∧ put d' 0x800E 0xE133) ∧
    (s.dev.runs = true → d.time.inc ≠ 0 → d.keep.ktAt + uMs ≤ x →
      ∃ d', Leaves (.ktUpdate t) t s d' ∧ d' = { d with regs := d'.regs, hwSet := d'.hwSet, keep := { d.keep with kt := d.ns x, ktAt := x } } ∧
        RegsKept d d' [Reg.LOG_KT_LO, Reg.LOG_KT_HI, Reg.LOG_STAT] ∧ d'.rd64 Reg.LOG_KT_LO Reg.LOG_KT_HI = d.ns x % 2 ^ 64 ∧
        d'.bit Reg.LOG_STAT 28 = (d.bit Reg.LOG_STAT 28 || d.bit Reg.TIM_STAT 3)) ∧
    (d.time.inc = 0 ∨ x < d.keep.ktAt + uMs → Leaves (.ktUpdate t) t s d)

/-- O29 (tier 2): Journal bursts: when one is due, the energy check, verification, retry and abort. Rules: R445 to R450. -/
def Obligations.JournalBursts : Prop :=
  ∀ (t cq cs : Nat) (s : State), s.dev.keep.alive = true → Inv s →
    let d := (s.arrive t).dev
    let x := Nat.max s.now t
    let jen := d.bit Reg.LOG_CTRL 0 = true
    let k := d.keep
    let sector := d.fld Reg.LOG_JNEXT 10 0
    let base := (if d.bit Reg.LOG_CFG 31 then 0x29000000 else 0x21000000) + 4096 * sector
    let old := ∃ u, k.unfl.head? = some u ∧ u.2 + d.fld Reg.LOG_CFG 15 0 * uS ≤ x
    let due := jen ∧ k.unfl ≠ [] ∧ (k.flushReq = true ∨ 126 ≤ k.unfl.length ∨ old)
    let v : Int := (d.fld Reg.LOG_STORE 15 0 : Nat)
    let energy := ((25 * d.fld Reg.LOG_ECFG 23 20 * d.fld Reg.LOG_ECFG 15 0 : Nat) : Int) ≤ (d.fld Reg.LOG_ECFG 31 24 : Int) * (v * v - 810000)
    let starts (cmd : Instr) : Prop :=
      ∃ d' mem, exec cmd s = .next { s.arrive t with dev := d', mem := mem } ∧ d' = { d with regs := d'.regs, hwSet := d'.hwSet, keep := d'.keep } ∧ RegsKept d d' [Reg.LOG_STAT] ∧
        BitsKept d d' Reg.LOG_STAT 29 29 ∧ d'.bit Reg.LOG_STAT 29 = true ∧ d'.keep.burst.map (fun run => run.slots) = some ((k.unfl.take 126).map (fun u => u.1)) ∧
        d'.keep.burst.map (fun run => run.bytes.take 4) = some [0x41#8, 0x5A#8, 0x4A#8, 0x42#8] ∧
        d'.keep = { k with burst := d'.keep.burst, flushReq := true, retryAt := none } ∧
        ∀ a, mem.read a = if base ≤ a ∧ a < base + 4096 then 0xFF#8 else s.mem.read a
    let refused (cmd : Instr) : Prop :=
      ∃ d', Leaves cmd t s d' ∧ d' = { d with regs := d'.regs, hwSet := d'.hwSet, keep := { k with flushReq := true, retryAt := some (x + uS) } } ∧
        RegsKept d d' [Reg.LOG_REFUSED_CNT, Reg.LOG_STAT] ∧ BitsKept d d' Reg.LOG_STAT 2 2 ∧ d'.bit Reg.LOG_STAT 2 = true ∧
        d'.fld Reg.LOG_REFUSED_CNT 31 0 = Nat.min (d.fld Reg.LOG_REFUSED_CNT 31 0 + 1) (2 ^ 32 - 1)
    let waits := k.main = false ∧ ∃ r, k.retryAt = some r ∧ x < r
    let start := Instr.journalBurstStart t
    let retry := Instr.journalBurstRetry t
    let sets (cmd : Instr) : Prop := Leaves cmd t s { d with keep := { k with flushReq := true } }
    let cut := k.burst.isSome = true ∧ k.main = false ∧ cq < d.fld Reg.LOG_VCFG 31 16;
    (waits ∨ k.burst.isSome = true ∨ ¬ due → Leaves start t s d) ∧
    (¬ waits → k.burst = none → due → k.main = true ∨ energy → starts start) ∧
    (¬ waits → k.burst = none → due → k.main = false → ¬ energy → refused start) ∧
    (k.retryAt = none → Leaves retry t s d) ∧
    (∀ r, k.retryAt = some r → (x < r → k.main = false → Leaves retry t s d) ∧
      (r ≤ x ∨ k.main = true → k.burst = none → due → (k.main = true ∨ energy → starts retry) ∧ (k.main = false → ¬ energy → refused retry))) ∧
    (k.burst = none → ∀ ok, Leaves (.journalBurstVerify t ok) t s d) ∧
    (∀ run, k.burst = some run →
      (∃ d' mem, exec (.journalBurstVerify t true) s = .next { s.arrive t with dev := d', mem := mem } ∧ d' = { d with regs := d'.regs, hwSet := d'.hwSet, keep := d'.keep } ∧
        RegsKept d d' [Reg.LOG_STAT, Reg.LOG_COUNT, Reg.LOG_JNEXT, Reg.LOG_BURST_LO, Reg.LOG_BURST_HI] ∧ d'.bit Reg.LOG_STAT 29 = false ∧
        d'.fld Reg.LOG_JNEXT 10 0 = (sector + 1) % 2048 ∧ d'.rd64 Reg.LOG_BURST_LO Reg.LOG_BURST_HI = (d.rd64 Reg.LOG_BURST_LO Reg.LOG_BURST_HI + 1) % 2 ^ 64 ∧
        d'.keep.burst = none ∧ d'.keep.ring = k.ring ∧ (∀ u, u ∈ d'.keep.unfl ↔ u ∈ k.unfl ∧ u.1 ∉ run.slots) ∧
        (∀ a, a < base ∨ base + run.bytes.length + 32 ≤ a → mem.read a = s.mem.read a) ∧ (∀ i, i < run.bytes.length → mem.read (base + i) = run.bytes.getD i 0)) ∧
      (∃ d' mem, exec (.journalBurstVerify t false) s = .next { s.arrive t with dev := d', mem := mem } ∧
        d' = { d with regs := d'.regs, hwSet := d'.hwSet, keep := d'.keep, anv := d'.anv, free := d'.free } ∧ d'.bit Reg.LOG_STAT 4 = true ∧ d'.keep.burst = none ∧ d'.keep.unfl = k.unfl ∧
        d'.fld Reg.LOG_JNEXT 10 0 = (sector + 1) % 2048 ∧ (2 ≤ k.verifyRun → d'.bit Reg.LOG_STAT 5 = true ∧ d'.bit Reg.LOG_CTRL 0 = false) ∧
        (∀ a, a < base ∨ base + 4096 ≤ a → mem.read a = s.mem.read a))) ∧
    (s.dev.runs = true → jen → k.unfl ≠ [] ∨ k.queue ≠ [] → sets (.flush t)) ∧
    (s.dev.runs = true → ¬ jen ∨ (k.unfl = [] ∧ k.queue = []) → Leaves (.flush t) t s d) ∧
    (due → sets (.flushAgeExpiry t)) ∧ (¬ due → Leaves (.flushAgeExpiry t) t s d) ∧
    (d.storeDue x = false → Leaves (.storeMeasurement t cq cs) t s d) ∧
    (k.storeAt = none → d.storeDue x = true) ∧
    (∀ l, k.storeAt = some l → (l + 100 * uMs ≤ x → d.storeDue x = true) ∧ (l + uMs ≤ x → k.main = false → k.burst.isSome = true → d.storeDue x = true) ∧
      (due → k.main = false → k.burst = none → d.storeDue x = true) ∧ (x < l + uMs → k.main = true ∨ k.burst.isSome = true → d.storeDue x = false) ∧
      (x < l + 100 * uMs → k.main = true → d.storeDue x = false)) ∧
    (d.storeDue x = true → cut → ∃ d' mem, exec (.storeMeasurement t cq cs) s = .next { s.arrive t with dev := d', mem := mem } ∧
      d'.keep = { k with burst := none, storeAt := some x } ∧
      d' = { d with regs := d'.regs, hwSet := d'.hwSet, keep := d'.keep, free := d'.free } ∧ RegsKept d d' [Reg.LOG_STORE, Reg.LOG_ABORT_CNT, Reg.LOG_STAT] ∧
      d'.bit Reg.LOG_STAT 3 = true ∧ d'.bit Reg.LOG_STAT 29 = false ∧
      d'.fld Reg.LOG_ABORT_CNT 31 0 = Nat.min (d.fld Reg.LOG_ABORT_CNT 31 0 + 1) (2 ^ 32 - 1) ∧
      ∀ a, a < base ∨ base + 4096 ≤ a → mem.read a = s.mem.read a) ∧
    (d.storeDue x = true → ¬ cut →
     ∃ d', Leaves (.storeMeasurement t cq cs) t s d' ∧
      d' = { d with regs := d'.regs, hwSet := d'.hwSet, keep := { k with storeLow := d'.keep.storeLow, storeAt := some x }, anv := d'.anv } ∧
      RegsKept d d' [Reg.LOG_STORE, Reg.LOG_STAT] ∧ d'.fld Reg.LOG_STORE 31 16 = cq % 2 ^ 16 ∧ d'.fld Reg.LOG_STORE 15 0 = cs % 2 ^ 16 ∧
      (d'.keep.storeLow = true ↔ k.main = true ∧ k.mainSince + 600 * uS ≤ x ∧ cs + 300 < d.fld Reg.LOG_VCFG 15 0) ∧
      (d'.keep.storeLow = true → k.storeLow = false → d'.bit Reg.LOG_STAT 6 = true ∧
        (Quiet d .per x 251 → Requested d' .per x 251 0xE121 [(2, cq), (2, cs)])))

/-- O30 (tier 2): The recorder: records written to DDR or dropped, enable, REARM and SWTRIG. Rules: R454 to R456. -/
def Obligations.Recorder : Prop :=
  ∀ (t : Nat) (v : Word) (s : State), s.dev.runs = true → Inv s →
    let d := (s.arrive t).dev
    let x := Nat.max s.now t
    let st := Reg.REC_STAT
    let state (e : Dev) := e.fld st 31 30
    let write := Instr.recorderRecordWrite t
    let late := d.rec_.waiting.filter (fun q => decide (2 ≤ frmSince d.frame q.1))
    let inTime := d.rec_.waiting.filter (fun q => decide (frmSince d.frame q.1 < 2))
    let ctrl := d.rd Reg.REC_CTRL
    let en := tbit ctrl 31 = true
    let fits := (d.rd Reg.REC_PRE).toNat + (d.rd Reg.REC_POST).toNat + 1 ≤ d.recCap
    let ringGood := d.recBase % 2 ^ 20 = 0 ∧ 1 ≤ d.fld Reg.REC_SIZE 12 0 ∧ d.fld Reg.REC_SIZE 12 0 ≤ 7168 ∧ d.bit Reg.DDR_STAT 31 = true ∧
      0x800000000 ≤ d.recBase ∧ d.recBase + d.fld Reg.REC_SIZE 12 0 * 2 ^ 20 ≤ 0x800000000 + d.fld Reg.DDR_STAT 3 0 * 2 ^ 30
    let kept (cmd : Instr) (d' : Dev) : Prop := Leaves cmd t s d' ∧ d' = { d with regs := d'.regs, hwSet := d'.hwSet, rec_ := d'.rec_ } ∧ RegsKept d d' [st, Reg.REC_CTRL]
    let enable := Instr.recEnableWrite t v;
    (d.rec_.waiting = [] → Leaves write t s d) ∧
    (late ≠ [] → inTime = [] →
      ∃ d', Leaves write t s d' ∧ d' = { d with regs := d'.regs, hwSet := d'.hwSet, rec_ := { d.rec_ with waiting := [], dropped := true } } ∧ RegsKept d d' [Reg.REC_DROP_CNT, st] ∧
        d'.bit st 2 = true ∧ d'.fld Reg.REC_DROP_CNT 31 0 = Nat.min (d.fld Reg.REC_DROP_CNT 31 0 + late.length) (2 ^ 32 - 1)) ∧
    (∀ k ns flags vals rest, late = [] → d.rec_.waiting = (k, ns, flags, vals) :: rest → state d = 1 ∨ state d = 2 → d.recCap ≠ 0 →
      let at_ := d.recBase + d.rec_.idx * recLen vals.length
      let trig := (d.rd Reg.REC_CAP_FRM).toNat
      let left := if frmSince k trig = 0 then d.rec_.postLeft else d.rec_.postLeft - 1
      let ends := state d = 2 ∧ frmSince k trig < 2 ^ 31 ∧ left = 0
      ∃ d' mem, exec write s = .next { s.arrive t with dev := d', mem := mem } ∧ d' = { d with regs := d'.regs, hwSet := d'.hwSet, rec_ := d'.rec_, anv := d'.anv } ∧ RegsKept d d' [st] ∧
        d'.rec_.idx = (d.rec_.idx + 1) % d.recCap ∧ d'.rec_.count = d.rec_.count + 1 ∧
        (∀ a, a < at_ ∨ at_ + recLen vals.length ≤ a → mem.read a = s.mem.read a) ∧
        (∀ i, i < 4 → isRam (at_ + i) = true → mem.read (at_ + i) = BitVec.ofNat 8 (k / 256 ^ i)) ∧
        (¬ ends → d'.rec_.waiting = rest ∧ d'.rd st = d.rd st ∧ d'.anv = d.anv) ∧
        (ends → state d' = 3 ∧ d'.rec_.waiting = [] ∧ (Quiet d .per x 250 → Requested d' .per x 250 0xE110 [(4, trig), (1, d.fld Reg.REC_CAP_INFO 7 0)]))) ∧
    (¬ en → tbit v 31 = true → tbit v 29 = false → tbit v 30 = false → fits → ringGood →
      ∃ d', kept enable d' ∧ state d' = 1 ∧ d'.bit Reg.REC_CTRL 31 = true ∧ d'.rec_.count = 0 ∧ d'.rec_.idx = 0 ∧ d'.rec_.waiting = []) ∧
    (¬ en → tbit v 31 = true → tbit v 29 = false → tbit v 30 = false → ¬ fits ∨ ¬ ringGood →
      ∃ d', kept enable d' ∧ d'.bit st 0 = true ∧ state d' = state d ∧ d'.bit Reg.REC_CTRL 31 = false ∧ d'.rec_ = d.rec_) ∧
    (en → tbit v 31 = false → tbit v 29 = false → ∃ d', kept enable d' ∧ state d' = 0 ∧ d'.bit Reg.REC_CTRL 31 = false ∧ d'.rec_.waiting = []) ∧
    (en → state d = 3 →
      ∃ d', kept (.rearm t) d' ∧ state d' = 1 ∧ d'.rec_.count = 0 ∧ d'.bit st 29 = false ∧ d'.rec_.idx = (if d.bit st 29 then 0 else d.rec_.idx % d.recCap)) ∧
    (state d ≠ 3 → ∃ d', kept (.rearm t) d' ∧ d'.rec_ = d.rec_ ∧ state d' = state d) ∧
    (∃ d', kept (.swtrig t) d' ∧ state d' = state d ∧ d'.rec_ = { d.rec_ with trig := d.rec_.trig ||| 256 })

/-- O31 (tier 2): Life-cycle changes, key programming and revocation, counter advances, fuse shadows. Rules: R460 to R468. -/
def Obligations.LifeCycleAndKeys : Prop :=
  ∀ (t : Nat) (v : Word) (slot : Fin 4) (s : State), s.dev.runs = true →
    let d := (s.arrive t).dev
    let x := Nat.max s.now t
    let lc := d.fld Reg.SEC_LC 1 0
    let usable (i : Nat) := d.bit Reg.SEC_KEY_STAT i = true ∧ d.bit Reg.SEC_KEY_STAT (4 + i) = false
    let shut := d.fld Reg.PWR_STAT 2 0 = 2 ∨ d.fld Reg.PWR_STAT 2 0 = 4 ∨ d.bit Reg.SEC_CNT 15 = true
    let n := bitsOf v 1 0
    let change := bitsOf v 31 24 = 0xA5 ∧ ¬ shut ∧ ((n = 1 ∧ lc = 0 ∧ ∃ i, i < 4 ∧ usable i) ∨ (n = 2 ∧ lc = 1))
    let refuse := d.setB Reg.SEC_STAT 0 true
    let d1 := d.setF Reg.SEC_KEY_CTRL 1 0 slot
    let key := d.stagedKey
    let prog := lc ≤ 1 ∧ d.bit Reg.SEC_KEY_STAT slot = false ∧ P384.onCurve key.1 key.2 = true ∧ ¬ shut
    let last := usable slot ∧ ∀ i, i < 4 → usable i → i = slot.val
    let revoke := lc ≠ 0 ∧ lc ≠ 3 ∧ ¬ last ∧ ¬ shut
    let blows (cmd : Instr) (f : Fuse) (d' : Dev) : Prop := exec cmd s = .next { s.arrive t with dev := d', otp := s.otp.blow f }
    let due := ∀ l, d.sec.otpAt = some l → l + 3600 * uS ≤ x
    let advance (cmd : Instr) (fw target have_ : Nat) : Prop :=
      (target ≤ have_ ∨ shut → Leaves cmd t s refuse) ∧
      (have_ < target → ¬ shut → Leaves cmd t s { d.setB Reg.SEC_CNT 15 true with sec := { d.sec with blow := some (fw, target, x) } });
    (¬ change → Leaves (.lcChangeRequest t v) t s refuse) ∧
    (change → ∃ d', blows (.lcChangeRequest t v) (.lifeCycle n) d' ∧ d'.fld Reg.SEC_LC 1 0 = n ∧ d'.fld Reg.DBG_STAT 31 30 = 0 ∧
      d' = { d with regs := d'.regs, hwSet := d'.hwSet, anv := d'.anv, sys := d'.sys, keep := d'.keep } ∧ (Quiet d .per x 246 → Requested d' .per x 246 0xD204 [(1, n)])) ∧
    (¬ prog → Leaves (.keyProg t slot) t s (d1.setB Reg.SEC_STAT 0 true)) ∧
    (prog → ∃ d', blows (.keyProg t slot) (.key slot key.1 key.2) d' ∧ d' = { d1 with regs := d'.regs, hwSet := d'.hwSet, anv := d'.anv, free := d'.free } ∧
      RegsKept d1 d' [Reg.SEC_KEY_STAT] ∧ BitsKept d1 d' Reg.SEC_KEY_STAT slot slot ∧ d'.bit Reg.SEC_KEY_STAT slot = true ∧
      (Quiet d .per x 246 → ∃ b, Requested d' .per x 246 0xD206 [(1, slot), (1, b)])) ∧
    (¬ revoke → Leaves (.keyRevoke t slot) t s (d1.setB Reg.SEC_STAT 0 true)) ∧
    (revoke → ∃ d', blows (.keyRevoke t slot) (.revoke slot) d' ∧ d' = { d1 with regs := d'.regs, hwSet := d'.hwSet, anv := d'.anv, free := d'.free } ∧
      RegsKept d1 d' [Reg.SEC_KEY_STAT] ∧ BitsKept d1 d' Reg.SEC_KEY_STAT (4 + slot) (4 + slot) ∧ d'.bit Reg.SEC_KEY_STAT (4 + slot) = true) ∧
    advance (.advImg t) 0 (d.fld Reg.IMG_SECVER 6 0) (d.fld Reg.SEC_CNT 6 0) ∧ advance (.advFw t) 1 (d.fld Reg.SEC_FWVER 6 0) (d.fld Reg.SEC_CNT 22 16) ∧
    (d.sec.blow = none → Leaves (.fuseBlowDone t) t s d) ∧
    (∀ fw m at_, d.sec.blow = some (fw, m, at_) →
      ∃ d', blows (.fuseBlowDone t) (if fw = 1 then .fwCnt m else .imgCnt m) d' ∧ d' = { d with regs := d'.regs, hwSet := d'.hwSet, sec := { d.sec with blow := none }, anv := d'.anv, free := d'.free } ∧
        RegsKept d d' [Reg.SEC_CNT] ∧ d'.bit Reg.SEC_CNT 15 = false ∧ d'.fld Reg.SEC_CNT (if fw = 1 then 22 else 6) (if fw = 1 then 16 else 0) = m % 128 ∧
        (Quiet d .per x 246 → ∃ b, Requested d' .per x 246 0xD205 [(1, b), (1, m)])) ∧
    (∀ u, u.reg < 3 →
      let a := if u.reg = 0 then Reg.SEC_LC else if u.reg = 1 then Reg.SEC_KEY_STAT else Reg.SEC_CNT
      let fuse := s.otp.shadow u.reg;
      (due → u.value = fuse → Leaves (.otpShadowCheck t [u]) t s { d with sec := { d.sec with otpAt := some x } }) ∧
      (due → u.value ≠ fuse →
       ∃ d', Leaves (.otpShadowCheck t [u]) t s d' ∧
        d' = { d with regs := d'.regs, hwSet := d'.hwSet, anv := d'.anv, free := d'.free, sec := { d.sec with otpAt := some x } } ∧
        RegsKept d d' [Reg.SEC_STAT, a] ∧ d'.bit Reg.SEC_STAT 2 = true ∧ (u.reg < 2 → d'.rd a = fuse) ∧
        (Quiet d .per x 247 → ∃ b, Requested d' .per x 247 0xD207 [(1, b), (4, u.value.toNat)]))) ∧
    (due → Leaves (.otpShadowCheck t []) t s { d with sec := { d.sec with otpAt := some x } }) ∧ (¬ due → ∀ us, Leaves (.otpShadowCheck t us) t s d)

/-- O32 (tier 2): ARM, DISARM and KEEP: refusals with their cause, and the change of the power state. Rules: R469 to R472. -/
def Obligations.PowerStateCommands : Prop :=
  ∀ (t : Nat) (s : State), s.dev.runs = true →
    let d := (s.arrive t).dev
    let x := Nat.max s.now t
    let power (e : Dev) := e.fld Reg.PWR_STAT 2 0
    let refused (cmd : Instr) (cause : Nat) : Prop :=
      ∃ d', Leaves cmd t s d' ∧ d' = { d with regs := d'.regs, hwSet := d'.hwSet, anv := d'.anv } ∧ RegsKept d d' [Reg.PWR_STAT, Reg.SEC_STAT] ∧ d'.fld Reg.PWR_STAT 15 12 = cause ∧
        BitsKept d d' Reg.PWR_STAT 15 12 ∧ d'.bit Reg.SEC_STAT 1 = true ∧ (Quiet d .per x 241 → Requested d' .per x 241 0xD201 [(1, cause)]);
    (∀ c, d.armCause = c → c ≠ 0 → c < 16 → refused (.arm t) c) ∧
    (d.pair ≠ 1 → d.pair ≠ 2 → refused (.arm t) 1) ∧
    (d.armCause = 0 → power d = 1 → ∃ d', Leaves (.arm t) t s d' ∧ power d' = 2 ∧ d'.bit Reg.SAF_STAT 7 = false ∧
      (Quiet d .per x 240 → Requested d' .per x 240 0xD200 [(1, 1), (1, 2)])) ∧
    (d.armCause = 0 → power d ≠ 1 → Leaves (.arm t) t s d) ∧
    (power d ≠ 2 → Leaves (.disarm t) t s d) ∧
    (power d = 2 → ∃ d', Leaves (.disarm t) t s d' ∧ power d' = 1 ∧ (∀ b, b < 6 → (presentAt x, 5) ∈ (d'.gbr b).reqs) ∧
      (Quiet d .per x 240 → Requested d' .per x 240 0xD200 [(1, 2), (1, 1)])) ∧
    (power d = 2 → refused (.keepCmd t) 6) ∧ (power d = 4 → Leaves (.keepCmd t) t s d) ∧
    (power d = 0 ∨ power d = 1 → d.owner = false → d.clk.started = true →
      ∃ d', Leaves (.keepCmd t) t s d' ∧ power d' = 4 ∧ d'.fld Reg.DBG_STAT 31 30 = 0 ∧
        d'.clk.blw = some { target := 0, owner := 3, segs := s.otp.stopProf, seg := 0, held := 0 } ∧ d'.bit Reg.FRM_STAT 3 = false ∧ d'.bit Reg.FRM_STAT 4 = false) ∧
    (power d = 0 ∨ power d = 1 → d.owner = false → d.clk.started = false →
      ∃ d', Leaves (.keepCmd t) t s d' ∧ power d' = 4 ∧ d'.runs = false ∧ d'.sec.psuEn = false ∧ d'.keep.main = false)

/-- O33 (tier 2): Debug access: challenge, verification, failures with their lockout, expiry and end. Rules: R473 to R476. -/
def Obligations.DebugAccess : Prop :=
  ∀ (t : Nat) (v : Word) (nonce : List Byte) (s : State), s.dev.runs = true →
    let d := (s.arrive t).dev
    let x := Nat.max s.now t
    let st := Reg.DBG_STAT
    let level := bitsOf v 1 0
    let key := bitsOf v 5 4
    let d1 := d.rw Reg.DBG_REQ v
    let start := Instr.dbgStart t v nonce
    let how := d.dbgDecide level
    let done := Instr.dbgVerifyDone t
    let locked := ∃ e, d.sec.lockout = some e ∧ x < e
    let lock := Reg.DBG_STAT
    let fails (cmd : Instr) (key result : Nat) (sec : SecSt) : Prop :=
      let n := d.sec.fails + 1
      ∃ d', Leaves cmd t s d' ∧ RegsKept d d' [st] ∧ d'.fld st 15 12 = result ∧ d'.fld st 23 16 = Nat.min n 255 ∧ d'.bit lock 27 = true ∧ d'.fld st 31 30 = d.fld st 31 30 ∧
        d' = { d with regs := d'.regs, hwSet := d'.hwSet, anv := d'.anv, sec := { sec with fails := n, lockout := some (x + (if n < 5 then 1 else 600) * uS) } } ∧
        (Quiet d .per x 243 → Requested d' .per x 243 0xD203 [(1, key), (1, Nat.min n 255), (1, result)])
    let spent := { d.sec with verifyAt := none }
    let level0 (cmd : Instr) : Prop :=
      ∃ d', Leaves cmd t s d' ∧ d'.fld st 31 30 = 0 ∧ d' = { d with regs := d'.regs, hwSet := d'.hwSet, anv := d'.anv, sys := d'.sys, keep := d'.keep } ∧
        (d.fld st 31 30 ≠ 0 → Quiet d .per x 242 → Requested d' .per x 242 0xD202 [(1, d.fld st 31 30), (1, 0), (1, d.fld Reg.DBG_REQ 5 4)])
    let clears (cmd : Instr) (bit : Nat) (sec : SecSt) : Prop :=
      ∃ d', Leaves cmd t s d' ∧ d' = { d with regs := d'.regs, hwSet := d'.hwSet, sec := sec } ∧ RegsKept d d' [st] ∧ BitsKept d d' st bit bit ∧ d'.bit st bit = false;
    (locked → Leaves start t s (d1.setF st 15 12 4)) ∧
    (¬ locked → how = 0 → Leaves start t s (d1.setF st 15 12 3)) ∧
    (¬ locked → how ≠ 0 → d.fld Reg.SEC_LC 1 0 = 2 → nonce.length = 32 →
      ∃ d', Leaves start t s d' ∧ d' = { d1 with regs := d'.regs, hwSet := d'.hwSet, sec := { d1.sec with chalExp := some (x + 60 * uS), chalUsed := false, reqLevel := level, reqKey := key } } ∧
        RegsKept d1 d' (st :: (List.range 16).map Reg.DBG_CHAL) ∧ d'.bit st 29 = true ∧ d'.fld st 31 30 = d.fld st 31 30 ∧
        (List.range 8).flatMap (fun i => leBytes 4 (d'.rd (Reg.DBG_CHAL i)).toNat) = nonce ∧
        (∀ i, i < 4 → d'.rd (Reg.DBG_CHAL (8 + i)) = d.rd (Reg.SEC_UID i)) ∧ (d'.rd (Reg.DBG_CHAL 12)).toNat = level + 256 * key) ∧
    (¬ locked → how = 1 → d.fld Reg.SEC_LC 1 0 ≠ 2 → level = 1 ∨ level = 2 →
      ∃ d', Leaves start t s d' ∧ d'.fld st 31 30 = level ∧ d'.fld st 15 12 = 1 ∧ d'.sec.fails = 0) ∧
    (d.bit st 28 = true → Leaves (.dbgVerify t) t s d) ∧
    (∀ e, d.bit st 28 = false → d.sec.chalUsed = false → d.sec.chalExp = some e → x < e →
      ∃ d', Leaves (.dbgVerify t) t s d' ∧ d' = { d with regs := d'.regs, hwSet := d'.hwSet, sec := { d.sec with chalUsed := true, chalExp := none, verifyAt := some x } } ∧
        RegsKept d d' [st] ∧ d'.bit st 28 = true ∧ d'.bit st 29 = false) ∧
    (d.bit st 28 = false → d.sec.chalUsed = true ∨ d.sec.chalExp = none ∨ (∃ e, d.sec.chalExp = some e ∧ e ≤ x) →
      fails (.dbgVerify t) (d.fld Reg.DBG_REQ 5 4) 5 { d.sec with chalUsed := true, chalExp := none }) ∧
    (d.sec.verifyAt = none → Leaves done t s d) ∧
    (∀ w, d.sec.verifyAt = some w →
      let k := d.sec.reqKey
      let usable := d.bit Reg.SEC_KEY_STAT k = true ∧ d.bit Reg.SEC_KEY_STAT (4 + k) = false;
      ((∀ p, s.otp.keys[k]? ≠ some (some p)) ∨ ¬ usable → fails done k 6 spent) ∧
      (∀ p, s.otp.keys[k]? = some (some p) → usable →
        (d.dbgSigOk p = false → fails done k 2 spent) ∧
        (d.dbgSigOk p = true → d.dbgDecide d.sec.reqLevel = 0 →
          ∃ d', Leaves done t s d' ∧ d'.fld st 15 12 = 3 ∧ d'.fld st 31 30 = d.fld st 31 30 ∧ d' = { d with regs := d'.regs, hwSet := d'.hwSet, sec := spent } ∧ RegsKept d d' [st]) ∧
        (d.dbgSigOk p = true → d.dbgDecide d.sec.reqLevel = 1 → d.sec.reqLevel = 1 ∨ d.sec.reqLevel = 2 →
          ∃ d', Leaves done t s d' ∧ d'.fld st 15 12 = 1 ∧ d'.fld st 31 30 = d.sec.reqLevel ∧ d'.sec = { spent with fails := 0 }))) ∧
    level0 (.dbgEnd t) ∧ (d.sec.chalExp = none → Leaves (.challengeExpiry t) t s d) ∧ (d.sec.lockout = none → Leaves (.debugLockoutEnd t) t s d) ∧
    (∀ e, d.sec.chalExp = some e → (x < e → Leaves (.challengeExpiry t) t s d) ∧
      (e ≤ x → clears (.challengeExpiry t) 29 { d.sec with chalExp := none, chalUsed := true })) ∧
    (∀ e, d.sec.lockout = some e → (x < e → Leaves (.debugLockoutEnd t) t s d) ∧
      (e ≤ x → clears (.debugLockoutEnd t) 27 { d.sec with lockout := none }))

/-- O34 (tier 2): Lockstep mismatches, watchdogs, kicks, RUN1, RUN0 and warm restarts. Rules: R484 to R487, R489. -/
def Obligations.ProcessorPairs : Prop :=
  (
    ∀ (t pc : Nat) (p : Fin 2) (s : State), s.dev.runs = true → s.dev.keep.alive = true →
      let d := (s.arrive t).dev
      let x := Nat.max s.now t
      let st := Reg.SYS_CPU_STAT
      let run (q : Nat) := if q = 0 then 0 else 8
      let q := d.cpuPair p
      let wdt := Reg.SYS_WDT p
      let runs := d.bit st (run p) = true
      let time := d.fld wdt 15 0 * uMs
      let expired := d.bit wdt 31 = true ∧ q.wdtFrom + time ≤ x
      let half := d.bit wdt 31 = true ∧ runs ∧ q.wdtHalf = false ∧ 2 * q.wdtFrom + time ≤ 2 * x
      let faults (cmd : Instr) (cause : Nat) : Prop :=
        ∃ d', Leaves cmd t s d' ∧ d' = { d with regs := d'.regs, hwSet := d'.hwSet, cpu := d'.cpu, keep := d'.keep, anv := d'.anv } ∧
          RegsKept d d' [st, Reg.LOG_LOST, Reg.LOG_STAT] ∧ d'.bit st (run p) = false ∧ d'.bit st (1 + p) = true ∧
          d'.fld st (4 + 2 * p) (3 + 2 * p) = cause ∧ (d'.cpuPair p).running = false ∧ d'.cpuPair (1 - p) = d.cpuPair (1 - p) ∧ 257 + p.val ∈ d'.cpu.ipend ∧
          (∀ i ∈ d.cpu.ipend, i ∈ d'.cpu.ipend) ∧ d'.cpu.warmAt = (if d.bit st (run (1 - p)) then d.cpu.warmAt else some (x + uMs)) ∧
          (d.keep.queue.length < 512 → ∃ e, d'.keep.queue = d.keep.queue ++ [e] ∧ e.src = 0x800E ∧ e.code = 0xE200 + p.val)
      let starts (cmd : Instr) (vec : Nat) : Prop :=
        ∃ d', Leaves cmd t s d' ∧ d' = { d with regs := d'.regs, hwSet := d'.hwSet, cpu := { d.cpu with pair := d'.cpu.pair } } ∧ RegsKept d d' [st] ∧ BitsKept d d' st 8 8 ∧
          d'.bit st 8 = true ∧ d'.cpuPair 1 = { running := true, wdtFrom := x, wdtHalf := false, wdtSet := (d.cpuPair 1).wdtSet, vec := vec } ∧ d'.cpuPair 0 = d.cpuPair 0;
      (runs → faults (.lockstepMismatch t p pc) 1) ∧ (¬ runs → Leaves (.lockstepMismatch t p pc) t s d) ∧
      (runs → expired → faults (.watchdogExpiry t p pc) 2) ∧ (¬ runs ∨ ¬ expired → Leaves (.watchdogExpiry t p pc) t s d) ∧
      (half → ∃ d', Leaves (.watchdogHalf t p) t s d' ∧ d' = { d with cpu := { d.cpu with pair := d'.cpu.pair, ipend := d'.cpu.ipend } } ∧ 270 ∈ d'.cpu.ipend ∧
        d'.cpuPair p = { q with wdtHalf := true } ∧ d'.cpuPair (1 - p) = d.cpuPair (1 - p)) ∧
      (¬ half → Leaves (.watchdogHalf t p) t s d) ∧
      (∃ d', Leaves (.kick t p) t s d' ∧ d' = { d with cpu := { d.cpu with pair := d'.cpu.pair } } ∧ d'.cpuPair p = { q with wdtFrom := x, wdtHalf := false } ∧
        d'.cpuPair (1 - p) = d.cpuPair (1 - p)) ∧
      (d.bit st 0 = true → starts (.run1 t) (d.rd64 Reg.SYS_CPU_VEC1_LO Reg.SYS_CPU_VEC1_HI)) ∧
      (d.bit st 0 = false → Leaves (.run1 t) t s d) ∧ (d.bit st 0 = true → Leaves (.run0 t) t s d) ∧
      (d.cpu.warmAt = none ∨ d.bit st 0 = true → Leaves (.warmRestart t) t s d) ∧ (∀ w, d.cpu.warmAt = some w → x < w → Leaves (.warmRestart t) t s d)) ∧
  (
    ∀ (t : Nat) (s : State), s.dev.runs = true → Inv s →
      let d := (s.arrive t).dev
      let x := Nat.max s.now t
      let st := Reg.SYS_CPU_STAT
      let lc := d.fld Reg.SEC_LC 1 0
      let first := if d.fld Reg.SYS_STRAP 4 3 % 2 = 1 then 1 else 0
      let code (slot : Nat) := d.fwCode s.otp s.mem slot
      let copy := s.mem.container first 2
      let due (cmd : Instr) : Prop := cmd = .run0 t ∨ (cmd = .warmRestart t ∧ ∃ w, d.cpu.warmAt = some w ∧ w ≤ x);
      ∀ cmd, due cmd → d.bit st 0 = false →
        (lc = 0 ∨ lc = 3 → ∃ d', Leaves cmd t s d' ∧ d'.bit Reg.SYS_BOOT 28 = true ∧ d'.bit st 0 = true ∧ d'.bit st 7 = true ∧ d'.cpu.warmAt = none ∧
          d' = { d with regs := d'.regs, hwSet := d'.hwSet, cpu := d'.cpu } ∧ RegsKept d d' [st, Reg.SYS_BOOT]) ∧
        (lc ≠ 0 → lc ≠ 3 → code first = 0 →
          ∃ d' mem, exec cmd s = .next { s.arrive t with dev := d', mem := mem } ∧ d'.bit st 0 = true ∧ d'.bit st 7 = true ∧ d'.cpu.warmAt = none ∧
            (d'.cpuPair 0).vec = fwEntryOf copy ∧ d'.cpuPair 1 = d.cpuPair 1 ∧ d'.fld Reg.SEC_FWVER 6 0 = leAt copy 0x14 4 % 128 ∧
            d' = { d with regs := d'.regs, hwSet := d'.hwSet, cpu := d'.cpu } ∧ RegsKept d d' [st, Reg.SEC_FWVER] ∧
            (∀ a, a < 0x08000000 ∨ 0x08000000 + copy.length ≤ a → mem.read a = s.mem.read a)) ∧
        (lc ≠ 0 → lc ≠ 3 → code 0 ≠ 0 → code 1 ≠ 0 →
          ∃ d' mem, exec cmd s = .next { s.arrive t with dev := d', mem := mem } ∧ d'.bit Reg.SYS_BOOT 28 = true ∧ d'.fld Reg.SYS_BOOT 11 8 = 8 ∧
            (Quiet d .per x 244 → ∃ slot c, Requested d' .per x 244 c [(1, slot), (2, c)])))

/-- O35 (tier 2): Interrupt claim and completion, machine timers, the mtime latch and GPIO edges. Rules: R483, R488, R495. -/
def Obligations.InterruptsAndTimers : Prop :=
  ∀ (t id : Nat) (ctx : Fin 4) (h : Fin 2) (pin : Fin 32) (rising : Bool) (s : State), s.dev.runs = true →
    let d := (s.arrive t).dev
    let x := Nat.max s.now t
    let prio (i : Nat) := (assocGet i d.cpu.prio).getD 0
    let on (i : Nat) : Bool := ((assocGet (32 * ctx + i / 32) d.cpu.enab).getD 0).testBit (i % 32)
    let able (i : Nat) := 0 < i ∧ i ∈ d.cpu.ipend ∧ i ∉ d.cpu.iclaim ∧ on i = true ∧ nth 0 d.cpu.thr ctx < prio i
    let claim := Instr.plicClaim t ctx
    let complete := Instr.plicComplete t ctx id
    let due := d.rd64 (Reg.TMR_MTIMECMP_LO h) (Reg.TMR_MTIMECMP_HI h) ≤ d.ns x % 2 ^ 64;
    ((∀ i, ¬ able i) → Leaves claim t s { d with answer := 0 }) ∧
    (∀ i, able i → (∀ j, able j → prio j < prio i ∨ (prio j = prio i ∧ i ≤ j)) →
      ∃ d', Leaves claim t s d' ∧ d' = { d with cpu := { d.cpu with ipend := d'.cpu.ipend, iclaim := d'.cpu.iclaim }, answer := BitVec.ofNat 32 i } ∧
        (∀ j, j ∈ d'.cpu.ipend ↔ j ∈ d.cpu.ipend ∧ j ≠ i) ∧ ∀ j, j ∈ d'.cpu.iclaim ↔ j ∈ d.cpu.iclaim ∨ j = i) ∧
    (on id = true → ∃ d', Leaves complete t s d' ∧ d' = { d with cpu := { d.cpu with iclaim := d'.cpu.iclaim } } ∧
      ∀ j, j ∈ d'.cpu.iclaim ↔ j ∈ d.cpu.iclaim ∧ j ≠ id) ∧
    (on id = false → Leaves complete t s d) ∧
    (∃ d', Leaves (.mtimerMatch t h) t s d' ∧ d' = { d with cpu := { d.cpu with mtip := d'.cpu.mtip } } ∧ (nth false d'.cpu.mtip h = true ↔ due) ∧
      nth false d'.cpu.mtip (1 - h) = nth false d.cpu.mtip (1 - h)) ∧
    Leaves (.mtimeLoRead t) t s { d with cpu := { d.cpu with mtimeHi := BitVec.ofNat 32 (d.ns x / 2 ^ 32) }, answer := BitVec.ofNat 32 (d.ns x) } ∧
    (d.clocked 13 = true → ∃ d', Leaves (.gpioEdge t pin rising) t s d' ∧ d' = { d with cpu := { d.cpu with ipend := d'.cpu.ipend, gpioLevel := d'.cpu.gpioLevel } } ∧ 269 ∈ d'.cpu.ipend ∧
      nth false d'.cpu.gpioLevel pin = rising ∧ (∀ j, j < 32 → j ≠ pin.val → nth false d'.cpu.gpioLevel j = nth false d.cpu.gpioLevel j) ∧
      ∀ j, j ∈ d'.cpu.ipend ↔ j ∈ d.cpu.ipend ∨ j = 269)

/-- O36 (tier 2): The patrol scrubber, xSPI commands and the DDR temperature. Rules: R489 to R494. -/
def Obligations.MemoryErrorsAndXspi : Prop :=
  ∀ (t : Nat) (e : MemError) (v : Word) (ok : Bool) (data : List Word) (p : Patch) (s : State), s.dev.runs = true → Inv s →
    let d := (s.arrive t).dev
    let x := Nat.max s.now t
    let cmd := Reg.XSP_CMD
    let irqs (d' : Dev) (i : Nat) : Prop := ∀ j, j ∈ d'.cpu.ipend ↔ j ∈ d.cpu.ipend ∨ j = i
    let cpuOnly (d' : Dev) : Prop := d' = { d with regs := d'.regs, hwSet := d'.hwSet, cpu := { d.cpu with ipend := d'.cpu.ipend, xsp := d'.cpu.xsp } }
    let start := Instr.xspiCommand t v
    let d1 := d.rw cmd v
    let dev := d.bit cmd 29
    let lo := if dev then 0x28000000 else 0x20000000
    let journal (a : Nat) := d.bit Reg.LOG_CTRL 0 = true ∧ d.bit Reg.LOG_CFG 31 = dev ∧ lo + 0x1000000 ≤ a ∧ a < lo + 0x1800000
    let w := e.addr / 8 * 8
    let mine (a : Nat) := lo ≤ a ∧ a < lo + 0x8000000 ∧ ¬ journal a
    let ends (d' : Dev) (ok : Bool) : Prop :=
      cpuOnly d' ∧ d'.bit cmd 31 = false ∧ d'.bit cmd 30 = (d.bit cmd 30 || !ok) ∧ d'.cpu.xsp = none ∧ irqs d' (if ok then 261 else 262);
    (e.correctable = true → ∃ d', Leaves (.patrolScrub t [e]) t s d' ∧ cpuOnly d' ∧ RegsKept d d' [Reg.MEM_ECC] ∧ irqs d' 259 ∧
      d'.fld Reg.MEM_ECC 31 16 = Nat.min (d.fld Reg.MEM_ECC 31 16 + 1) (2 ^ 16 - 1)) ∧
    (e.correctable = false → ∃ d', Leaves (.patrolScrub t [e]) t s d' ∧
      d' = { d with regs := d'.regs, hwSet := d'.hwSet, cpu := { d.cpu with ipend := d'.cpu.ipend, bad := (w, s.mem.bytes w 8) :: d.cpu.bad.filter (fun q => q.1 != w) } } ∧
      RegsKept d d' [Reg.MEM_ECC, Reg.MEM_UE_ADDR_LO, Reg.MEM_UE_ADDR_HI] ∧ irqs d' 260 ∧
      d'.fld Reg.MEM_ECC 15 8 = Nat.min (d.fld Reg.MEM_ECC 15 8 + 1) (2 ^ 8 - 1) ∧ d'.rd64 Reg.MEM_UE_ADDR_LO Reg.MEM_UE_ADDR_HI = e.addr % 2 ^ 64) ∧
    Leaves (.patrolScrub t []) t s d ∧
    (d.bit cmd 31 = true → tbit v 30 = false → Leaves start t s d) ∧
    (d.bit cmd 31 = true → tbit v 30 = true → Leaves start t s (d.setB cmd 30 false)) ∧
    (d.bit cmd 31 = false → ∃ d', Leaves start t s d' ∧ d' = { d1 with regs := d'.regs, hwSet := d'.hwSet, cpu := { d.cpu with xsp := some x } } ∧ RegsKept d1 d' [cmd] ∧ d'.bit cmd 31 = true) ∧
    (d.cpu.xsp = none → Leaves (.xspiCommandDone t ok data [p]) t s d ∧ Leaves (.xspiTimeout t) t s d) ∧
    (∀ b, d.cpu.xsp = some b →
      (b + 5 * uS ≤ x → Leaves (.xspiCommandDone t ok data [p]) t s d) ∧
      (x < b + 5 * uS → ∃ d' mem, exec (.xspiCommandDone t ok data [p]) s = .next { s.arrive t with dev := d', mem := mem } ∧ ends d' ok ∧
        RegsKeptOutside d d' (Reg.XSP_DATA 0) (Reg.XSP_DATA 64) [cmd] ∧
        (∀ i, i < data.length → i < 64 → d'.rd (Reg.XSP_DATA i) = nth 0 data i) ∧
        (∀ i, i < p.bytes.length → mine (p.addr + i) → mem.read (p.addr + i) = p.bytes.getD i 0) ∧
        ∀ a, a < p.addr ∨ p.addr + p.bytes.length ≤ a ∨ ¬ mine a → mem.read a = s.mem.read a) ∧
      (b + 5 * uS ≤ x → ∃ d', Leaves (.xspiTimeout t) t s d' ∧ ends d' false ∧ RegsKept d d' [cmd]) ∧
      (x < b + 5 * uS → Leaves (.xspiTimeout t) t s d)) ∧
    (d.bit Reg.DDR_STAT 31 = true → ∃ d', Leaves (.ddrTemperatureHigh t) t s d' ∧ cpuOnly d' ∧ RegsKept d d' [Reg.DDR_STAT] ∧ BitsKept d d' Reg.DDR_STAT 30 30 ∧
      d'.bit Reg.DDR_STAT 30 = true ∧ irqs d' 271) ∧
    (d.bit Reg.DDR_STAT 31 = false → Leaves (.ddrTemperatureHigh t) t s d)

/-- O37 (tier 2): PORn: what its fall stops and its rise latches; the boot steps of the reference wait and DDR training. Rules: R497 to R502. -/
def Obligations.PornAndBootRom : Prop :=
  ∀ (t straps gib : Nat) (ok : Bool) (s : State), Inv s →
    let d := (s.arrive t).dev
    let x := Nat.max s.now t
    let boot := Reg.SYS_BOOT
    let low := Instr.pornAssert t
    let rise := Instr.pornRise t straps
    let wait := Instr.refOkWaitTimeout t
    let train := Instr.ddrTrainingDone t ok gib
    let ddr (a : Nat) := 0x800000000 ≤ a ∧ a < 0xA00000000;
    (d.sys.porn = false → Leaves low t s d) ∧
    (d.sys.porn = true →
      ∃ d', Leaves low t s d' ∧ d'.sys.porn = false ∧ d'.runs = false ∧ d'.fld Reg.SYS_RST_CAUSE 1 0 = 1 ∧ d'.bit Reg.CLK_STAT 31 = d.bit Reg.CLK_STAT 31 ∧
        d'.keep = d.keep ∧ (∀ a, a < 0x10030000 ∨ (0x10040000 ≤ a ∧ a < 0x10270000) ∨ 0x10280000 ≤ a → a ≠ Reg.SYS_RST_CAUSE → a ≠ Reg.CLK_STAT → d'.rd a = regReset a) ∧
        (∀ a, 0x10030000 ≤ a → a < 0x10040000 → d'.rd a = d.rd a) ∧ (d.safState ≠ 2 → d'.saf = d.saf) ∧ (d.safState = 2 → d'.safState = 0) ∧
        d'.anv.reqs = [] ∧ d'.clk = { ClkSt.init with sroFell := d.clk.sroFell, refFell := d.clk.refFell } ∧ d'.twn = TwnSt.init) ∧
    (d.keep.main = false ∨ (d.sys.porn = true ∧ d.fld boot 3 0 ≠ 0) ∨ (d.sys.porn = false ∧ x < d.keep.mainSince + 2 * uMs) → Leaves rise t s d) ∧
    (d.keep.main = true → (d.sys.porn = false ∧ d.keep.mainSince + 2 * uMs ≤ x) ∨ (d.sys.porn = true ∧ d.fld boot 3 0 = 0) → s.otp.retPend = false →
      ∃ d' mem, exec rise s = .next { s.arrive t with dev := d', mem := mem } ∧ d'.sys.porn = true ∧ d'.sys.pornAt = x ∧ d'.fld Reg.PWR_STAT 2 0 = 1 ∧
        d'.fld Reg.SYS_STRAP 8 0 = straps % 512 ∧ d'.bit Reg.TWN_STAT 27 = decide (straps % 2 = 1) ∧ d'.fld Reg.SEC_LC 1 0 = (if s.otp.err then 0 else s.otp.lc % 4) ∧
        (d.bit Reg.CLK_STAT 30 = true → straps / 256 % 2 = 0 → d'.fld boot 3 0 = 5 ∧ d'.clk.started = true ∧ d'.sys.refWait = none) ∧
        (d.bit Reg.CLK_STAT 30 = false → straps / 256 % 2 = 0 → d'.fld boot 3 0 = 4 ∧ d'.sys.refWait = some (x + 20 * uMs)) ∧
        (straps / 256 % 2 = 1 → d'.fld boot 3 0 = 4 ∧ d'.fld boot 11 8 = 4 ∧ d'.sys.bootOver = true) ∧
        ∀ a, mem.read a = if ddr a then Memory.blank a else s.mem.read a) ∧
    (s.dev.runs = true → d.sys.refWait = none ∨ d.bit Reg.CLK_STAT 30 = true ∨ d.bit Reg.CLK_STAT 31 = false → Leaves wait t s d) ∧
    (∀ w, s.dev.runs = true → d.sys.refWait = some w → x < w → Leaves wait t s d) ∧
    (∀ w, s.dev.runs = true → d.sys.refWait = some w → w ≤ x → d.bit Reg.CLK_STAT 30 = false → d.bit Reg.CLK_STAT 31 = true →
      ∃ d', Leaves wait t s d' ∧ d'.bit Reg.CLK_STAT 29 = true ∧ d'.bit boot 26 = true ∧ d'.fld boot 3 0 = 5 ∧ d'.clk = { d.clk with started := true, startAt := x } ∧
        d'.sys = { d.sys with refWait := none } ∧ RegsKept d d' [Reg.CLK_STAT, boot, Reg.LOG_LOST, Reg.LOG_STAT]) ∧
    (s.dev.runs = true → d.fld boot 3 0 ≠ 6 → Leaves train t s d) ∧
    (s.dev.runs = true → d.fld boot 3 0 = 6 → d.fld Reg.SEC_LC 1 0 = 0 ∨ d.fld Reg.SEC_LC 1 0 = 3 ∨ 2 ≤ d.fld Reg.SYS_STRAP 4 3 →
      ∃ d', Leaves train t s d' ∧ d'.fld boot 3 0 = 7 ∧ d'.bit Reg.DDR_STAT 31 = (d.bit Reg.DDR_STAT 31 || ok) ∧ (ok = true → d'.fld Reg.DDR_STAT 3 0 = gib % 16) ∧
        d'.bit boot 25 = (d.bit boot 25 || !ok) ∧ d'.sys.bootOver = true ∧
        d'.sys.recovery = (if d.fld Reg.SEC_LC 1 0 ≠ 0 ∧ d.fld Reg.SEC_LC 1 0 ≠ 3 ∧ d.fld Reg.SYS_STRAP 4 3 = 2 then true else d.sys.recovery))

/-- O38 (tier 2): Secure boot from the slots and recovery over the UART. Rules: R464 to R466, R502, R503. -/
def Obligations.SecureBootAndRecovery : Prop :=
  ∀ (t gib : Nat) (ok : Bool) (bytes : List Byte) (s : State), s.dev.runs = true → Inv s →
    let d := (s.arrive t).dev
    let x := Nat.max s.now t
    let boot := Reg.SYS_BOOT
    let beacon := Instr.uartRecoveryBeacon t
    let send := Instr.uartRecoveryContainer t bytes
    let gap := Instr.uartRecoveryGapTimeout t
    let n := bytes.length
    let due := d.sys.recovery = true ∧ ∀ l, d.sys.uartLast = some l → l + uS ≤ x
    let takes := d.sys.recovery = true ∧ 256 ≤ n ∧ n ≤ 0x3FF000
    let code := trustCode { kind := 2, commit := none, sent := n, keys := d.trustKeys s.otp, cnt := d.fld Reg.SEC_CNT 22 16 } bytes
    let first := if d.fld Reg.SYS_STRAP 4 3 % 2 = 1 then 1 else 0
    let fw := s.mem.container first 2;
    (due → ∃ d', Leaves beacon t s d' ∧ d' = { d with sys := { d.sys with uartLast := some x }, uartOut := d'.uartOut } ∧
      d'.uartOut = [0x59#8, 0x4C#8, 0x52#8, 0x56#8] ++ leBytes 4 (d.rd Reg.SYS_ID).toNat) ∧
    (¬ due → Leaves beacon t s d) ∧ (¬ takes → Leaves send t s d) ∧
    (takes → ∃ d' mem, exec send s = .next { s.arrive t with dev := d', mem := mem } ∧ d'.uartOut = leBytes 2 code ∧
      (∀ a, a < 0x08000000 ∨ 0x08000000 + n ≤ a → mem.read a = s.mem.read a) ∧ (∀ i, i < n → mem.read (0x08000000 + i) = bytes.getD i 0) ∧
      (code ≠ 0 → d' = { d with uartOut := d'.uartOut, sys := { d.sys with uartLast := none } }) ∧
      (code = 0 → d'.bit boot 29 = true ∧ d'.fld boot 3 0 = 8 ∧ d'.bit Reg.SYS_CPU_STAT 0 = true ∧ (d'.cpuPair 0).vec = fwEntryOf bytes ∧
        d'.fld Reg.SEC_FWVER 6 0 = leAt bytes 0x14 4 % 128 ∧ d'.sys = { d.sys with uartLast := none, recovery := false })) ∧
    (d.sys.recovery = true → Leaves gap t s { d with sys := { d.sys with uartLast := none } }) ∧ (d.sys.recovery = false → Leaves gap t s d) ∧
    (d.fld boot 3 0 = 6 → d.fld Reg.SEC_LC 1 0 = 1 ∨ d.fld Reg.SEC_LC 1 0 = 2 → d.fld Reg.SYS_STRAP 4 3 < 2 →
      ∃ d' mem, exec (.ddrTrainingDone t ok gib) s = .next { s.arrive t with dev := d', mem := mem } ∧
        (∀ a, a < 0x08000000 ∨ 0x083FF000 ≤ a → mem.read a = s.mem.read a) ∧
        ∃ e, RegsKept d e [Reg.XSP_CFG, Reg.DDR_STAT, boot, Reg.LOG_LOST, Reg.LOG_STAT] ∧ e.fld boot 3 0 = 7 ∧ e.bit Reg.DDR_STAT 31 = (d.bit Reg.DDR_STAT 31 || ok) ∧
        (e.fwCode s.otp s.mem first = 0 → e.bootImageCode x s.otp s.mem first = 0 →
          d'.fld boot 3 0 = 8 ∧ d'.fld boot 27 27 = first ∧ d'.bit Reg.SYS_CPU_STAT 0 = true ∧ (d'.cpuPair 0).vec = fwEntryOf fw ∧
          d'.sys.bootSlot = first ∧ d'.sys.bootImage = some (imageOf (s.mem.container first 1))) ∧
        (e.fwCode s.otp s.mem 0 ≠ 0 → e.fwCode s.otp s.mem 1 ≠ 0 → d'.bit boot 28 = true ∧ d'.fld boot 11 8 = 8 ∧ d'.fld boot 3 0 = 7 ∧ d'.sys.bootOver = true ∧
          d'.bit Reg.SYS_CPU_STAT 0 = d.bit Reg.SYS_CPU_STAT 0))

/-- O39 (tier 2): Twin messages are taken once; CAPS, CAPS_ACK and HEARTBEAT. Rules: R347 to R352. -/
def Obligations.TwinMessagesAreTakenOnce : Prop :=
  ∀ (t seq : Nat) (lane : Fin 2) (hb : HeartbeatBody) (bl : BlocksBody) (st : StateBody) (pa : ParamBody) (sw : SwapBody) (re : ResultBody) (yi : YieldBody)
    (ya : YieldAckBody) (wi : WithdrawBody) (cb : CapsBody) (ca : CapsAckBody) (s : State), s.dev.runs = true →
    let d := (s.arrive t).dev
    let x := Nat.max s.now t
    let l := lane.val
    let fresh := seq % 2 ^ 24 ∉ d.twn.seqs
    let taken := (seq % 2 ^ 24 :: d.twn.seqs).take 1024
    let raw := d.fld (Reg.LNK_LN_CFG l) 29 28 ≠ 0
    let stat := Reg.TWN_STAT
    let cause := if cb.major ≠ 1 then 1 else if cb.role = b2n (d.bit stat 27) then 2 else if cb.framePeriodFc ≠ d.P then 3 else 0
    let caps := Instr.caps t lane seq cb
    let ack := Instr.capsAck t lane seq ca
    let beat := Instr.heartbeat t lane seq hb;
    (∀ cmd ∈ [Instr.blocks t lane seq bl, .stateMsg t lane seq st, .paramMsg t lane seq pa, .swapMsg t lane seq sw, .resultMsg t lane seq re, .yieldMsg t lane seq yi,
        .yieldAckMsg t lane seq ya, .withdraw t lane seq wi], d.stage l ≠ 4 ∨ raw ∨ ¬ fresh → Leaves cmd t s d) ∧
    (d.stage l < 3 ∨ raw → Leaves caps t s d) ∧ (d.stage l ≠ 3 ∨ raw → Leaves ack t s d) ∧ (d.stage l ≠ 4 ∨ raw → Leaves beat t s d) ∧
    (3 ≤ d.stage l → ¬ raw →
      ∃ d', Leaves caps t s d' ∧ d' = { d with regs := d'.regs, hwSet := d'.hwSet, twn := d'.twn, anv := d'.anv, sent := d'.sent } ∧
        (d.stage l ≠ 5 → d.laneDark l = false →
          d'.sent = [(2 ^ l, (d.twn.txSeq + 1) % 2 ^ 24, .capsAck { opMajor := 1, opMinor := 0, pairable := b2n (cause == 0), reason := cause })]) ∧
        (d.stage l = 5 ∨ d.laneDark l = true → d'.sent = []) ∧
        d'.rd Reg.TWN_PEER_FW = BitVec.ofNat 32 cb.fwVersion ∧ d'.rd Reg.TWN_PEER_FEAT = BitVec.ofNat 32 cb.features ∧ d'.fld Reg.TWN_PEER 31 24 = cb.major % 256 ∧
        d'.fld stat 23 21 = cause ∧ d'.twn.pairable = (cause == 0) ∧ d'.twn.caps = some cb ∧
        (cause = 1 → d'.stage l = 5) ∧ (cause ≠ 1 → d.stage l = 3 → d'.stage l = if (d.twnLane l).ackRx then 4 else 3) ∧ (cause ≠ 1 → d.stage l ≠ 3 → d'.stage l = d.stage l) ∧
        (cause ≠ 0 → cause ≠ d.fld stat 23 21 → Quiet d .per x 197 → Requested d' .per x 197 0x7105 [(1, cause)])) ∧
    (d.stage l = 3 → ¬ raw →
      ∃ d', Leaves ack t s d' ∧ d' = { d with regs := d'.regs, hwSet := d'.hwSet, twn := d'.twn } ∧ d'.stage l = (if (d.twnLane l).capsRx then 4 else 3) ∧
        ((d.twnLane l).capsRx = false → (d'.twnLane l).ackRx = true) ∧
        ((d.twnLane l).capsRx = true → d.stage (1 - l) ≠ 4 → d'.twn.seqs = [] ∧ d'.twn.blocksDue = true) ∧ d'.stage (1 - l) = d.stage (1 - l)) ∧
    (d.stage l = 4 → ¬ raw → fresh → d.twn.pairHold = false →
      ∃ d', Leaves beat t s d' ∧ d'.twn.peer = some hb ∧ d'.twn.seqs = taken ∧ d'.twn.beats = (hb :: d.twn.beats).take 4 ∧
        d'.twn.ownerRep = (if hb.pair = 1 ∨ hb.pair = 2 then some (hb.power, hb.released) else d.twn.ownerRep) ∧
        (d'.twn.paired = true → ∃ l0, (d'.twnLane l).beats = l0 ++ [d'.ownFrm hb.frmCount]) ∧
        (d.pair = 1 → hb.pair = 3 → d.twn.takeoverHold = false → d'.pair = 2 ∧ (Quiet d .per x 192 → ∃ c, Requested d' .per x 192 0x7100 [(1, 1), (1, 2), (1, c)])) ∧
        (d.pair = 2 → hb.pair ≠ 3 → hb.pair ≠ 4 → d'.pair = 1) ∧
        (d.pair ≠ 1 ∨ hb.pair ≠ 3 ∨ d.twn.takeoverHold = true → d.pair ≠ 2 ∨ hb.pair = 3 ∨ hb.pair = 4 → d'.pair = d.pair)) ∧
    (d.stage l = 4 → ¬ raw → ¬ fresh →
      ∃ d', Leaves beat t s d' ∧ d' = { d with twn := { d.twn with lane := d'.twn.lane } } ∧
        (d'.twnLane l).beats = (d.twnLane l).beats ++ (if d.twn.paired then [d.ownFrm hb.frmCount] else []))

/-- O40 (tier 2): Mirroring: BLOCKS, STATE, PARAM, SWAP and RESULT. Rules: R335 to R339. -/
def Obligations.TwinMirroring : Prop :=
  ∀ (t seq : Nat) (lane : Fin 2) (bl : BlocksBody) (st : StateBody) (pe : ParamEntry) (frm : Nat) (sw : SwapBody) (re : ResultBody) (s : State), s.dev.runs = true →
    let d := (s.arrive t).dev
    let blocks := Instr.blocks t lane seq bl
    let state := Instr.stateMsg t lane seq st
    let param := Instr.paramMsg t lane seq { applyFrm := frm, entries := [pe] }
    let swap := Instr.swapMsg t lane seq sw
    let result := Instr.resultMsg t lane seq re
    let g := d.hrt.graph.blks
    let d1 := { d with twn := { d.twn with seqs := (seq % 2 ^ 24 :: d.twn.seqs).take 1024 } }
    let follows := d.pair ≠ 1 ∧ d.pair ≠ 2
    let apply (f : Nat) := if frmLe (d.ownFrm f) d.frame then (d.frame + 1) % 2 ^ 32 else d.ownFrm f
    let k := d.ownFrm re.frmCount;
    d.stage lane = 4 → d.fld (Reg.LNK_LN_CFG lane) 29 28 = 0 → seq % 2 ^ 24 ∉ d.twn.seqs →
    (∃ d', Leaves blocks t s d' ∧ d' = { d1 with regs := d'.regs, hwSet := d'.hwSet, twn := { d1.twn with blocks := d'.twn.blocks, blocksTotal := bl.total, mirrored := d'.twn.mirrored } } ∧
      RegsKept d d' [Reg.TWN_MIRROR] ∧ d'.twn.blocks = (if bl.first = 0 then [] else d.twn.blocks) ++ bl.entries ∧
      (∀ j, j ∈ d'.twn.mirrored ↔ ∃ b, g[j]? = some b ∧ (b.id, b.signature) ∈ d'.twn.blocks) ∧
      (g.length < 8192 → d'.fld Reg.TWN_MIRROR 12 0 = d'.twn.mirrored.length ∧ d'.fld Reg.TWN_MIRROR 28 16 = g.length - d'.twn.mirrored.length)) ∧
    (¬ follows ∨ frmLe ((d.ownFrm st.frmCount + 3) % 2 ^ 32) d.frame = true → Leaves state t s d1) ∧
    (follows → frmLe ((d.ownFrm st.frmCount + 3) % 2 ^ 32) d.frame = false →
      ∃ d' new, Leaves state t s d' ∧ d' = { d1 with twn := { d1.twn with corr := d.twn.corr ++ new } } ∧
        ∀ c ∈ new, c.1 = (d.ownFrm st.frmCount + 3) % 2 ^ 32 ∧ c.2.1 ∈ d.twn.mirrored ∧
          ∃ r ∈ st.runs, r.id = (d.blkAt c.2.1).id ∧ r.first ≤ c.2.2.1 ∧
            let w := nth 0 r.words (c.2.2.1 - r.first)
            c.2.2.2.1 = if (d.blkAt c.2.1).typ = 0x2009 ∧ c.2.2.1 = 2 then BitVec.ofNat 32 (d.ownFrm w.toNat) else w) ∧
    (¬ follows → Leaves param t s d1 ∧ Leaves swap t s d1) ∧
    (follows → (∀ j ∈ d.twn.mirrored, (d.blkAt j).id ≠ pe.id) → Leaves param t s { d1 with lp := { d.lp with staged := d.lp.staged ++ [] } }) ∧
    (∀ j, follows → j ∈ d.twn.mirrored → (d.blkAt j).id = pe.id → (∀ i ∈ d.twn.mirrored, (d.blkAt i).id = pe.id → i = j) → pe.word < (d.blkAt j).nPar →
      Leaves param t s { d1 with lp := { d.lp with staged := d.lp.staged ++
        [{ set := pe.set % 2, idx := (d.blkAt j).pIdx + pe.word, val := pe.value, frame := apply frm }] } }) ∧
    (follows → ∃ d', Leaves swap t s d' ∧ d' = { d1 with regs := d'.regs, hwSet := d'.hwSet, lp := { d.lp with swaps := d'.lp.swaps } } ∧ RegsKept d d' [Reg.LP_SWAP_STAT] ∧
      (∀ i, i < 16 → d'.bit Reg.LP_SWAP_STAT i = (d.bit Reg.LP_SWAP_STAT i || sw.groups.testBit i)) ∧ BitsKept d d' Reg.LP_SWAP_STAT 15 0 ∧
      (∀ i, i < 16 → sw.groups.testBit i = true → d.bit Reg.LP_SWAP_STAT i = false → { group := i, frame := apply sw.boundaryFrm, hot := false } ∈ d'.lp.swaps)) ∧
    (d.twn.paired = false → Leaves result t s d1) ∧
    (d.twn.paired = true → frmLe (d.frame + 1) k = true ∨ (k = d.frame ∧ d.frm.colDone = false) →
      Leaves result t s { d1 with twn := { d1.twn with rxResult := some (k, re.entries) } }) ∧
    (d.twn.paired = true → frmLe (d.frame + 1) k = false → k ≠ d.frame ∨ d.frm.colDone = true → ∀ n, n < 96 →
      let own := (d.twn.results.find? (fun q => q.1 == k && q.2.1 == n)).map (fun q => (q.2.2.1, q.2.2.2))
      let peer := (re.entries.find? (fun q => q.1 == n)).map (fun q => q.2)
      let limit := d.fld Reg.TWN_CFG 15 8
      let c := Nat.min (nth 0 d.twn.xCount n + 1) 255
      let far (a b : Word) := (d.rd Reg.TWN_XTOL).toNat < ((a.toNat : Int) - (b.toNat : Int)).natAbs
      ∃ d', Leaves result t s d' ∧ d' = { d1 with regs := d'.regs, hwSet := d'.hwSet, twn := { d1.twn with xCount := d'.twn.xCount, xMark := d'.twn.xMark }, anv := d'.anv } ∧
        (own = peer → nth 0 d'.twn.xCount n = 0 ∧ nth false d'.twn.xMark n = false) ∧
        (own.isSome ≠ peer.isSome ∨ (∃ a b, own = some a ∧ peer = some b ∧ (far a.1 b.1 ∨ far a.2 b.2)) →
          nth 0 d'.twn.xCount n = c ∧ (limit ≤ c → nth false d.twn.xMark n = false →
            d'.bit (Reg.TWN_XMIS (n / 32)) (n % 32) = true ∧ d'.bit Reg.TWN_STAT 7 = true)))

/-- O41 (tier 2): Planned handover and withdrawal. Rules: R340 to R345. -/
def Obligations.TwinHandover : Prop :=
  ∀ (t seq : Nat) (lane : Fin 2) (yi : YieldBody) (ya : YieldAckBody) (wi : WithdrawBody) (s : State), s.dev.runs = true →
    let d := (s.arrive t).dev
    let x := Nat.max s.now t
    let stat := Reg.TWN_STAT
    let tw := { d.twn with seqs := (seq % 2 ^ 24 :: d.twn.seqs).take 1024 }
    let fresh := d.stage lane = 4 ∧ d.fld (Reg.LNK_LN_CFG lane) 29 28 = 0 ∧ seq % 2 ^ 24 ∉ d.twn.seqs
    let out := d.carryMask d.activeLanes
    let yield := Instr.yieldMsg t lane seq yi
    let ack := Instr.yieldAckMsg t lane seq ya
    let bye := Instr.withdraw t lane seq wi
    let f := d.ownFrm yi.txFrm
    let reason := if d.pair ≠ 3 then 1 else if d.twn.sweepDone = false then 2 else if d.crossFull then 3 else if d.allLocked = false then 4 else 0
    let hand := Instr.twnCtrlHandover t
    let leave := Instr.twnCtrlWithdraw t
    let txFrm := (d.frame + 2) % 2 ^ 32
    let refused (cmd : Instr) (tw : TwnSt) : Prop :=
      ∃ d', Leaves cmd t s d' ∧ d' = { d with regs := d'.regs, hwSet := d'.hwSet, twn := { tw with handover := none }, anv := d'.anv } ∧ RegsKept d d' [stat] ∧ d'.bit stat 9 = true ∧
        (Quiet d .per x 199 → Requested d' .per x 199 0x7107 [(1, 1)]);
    (fresh → reason ≠ 0 → ∃ d', Leaves yield t s d' ∧ d' = { d with twn := { tw with txSeq := d'.twn.txSeq }, sent := d'.sent } ∧
      (out ≠ 0 → d'.sent.map (fun q => q.2.2) = [.yieldAck { txFrm := f, accept := false, reason := reason }])) ∧
    (fresh → reason = 0 → ∃ d', Leaves yield t s d' ∧ d'.pair = 4 ∧ d'.twn.handover = some { txFrm := f, cause := yi.cause, accepted := true, taker := true } ∧
      (out ≠ 0 → d'.sent.map (fun q => q.2.2) = [.yieldAck { txFrm := f, accept := true, reason := 0 }])) ∧
    (fresh → d.twn.handover = none → Leaves ack t s { d with twn := tw }) ∧
    (∀ h, fresh → d.img.fullWaits = false → d.twn.handover = some h →
      (h.taker = true ∨ h.txFrm ≠ d.ownFrm ya.txFrm → Leaves ack t s { d with twn := tw }) ∧
      (h.taker = false → h.txFrm = d.ownFrm ya.txFrm → ya.accept = false → refused ack tw) ∧
      (h.taker = false → h.txFrm = d.ownFrm ya.txFrm → ya.accept = true →
        Leaves ack t s { d with twn := { tw with handover := some (if d.frame = frmSince h.txFrm 2 then { h with accepted := true } else h) } })) ∧
    (fresh → d.pair = 2 → ∃ d', Leaves bye t s d' ∧ d'.pair = 1 ∧ d'.twn.peer = none ∧ d'.twn.paired = false ∧ d'.twn.ea = 0 ∧ d'.fld Reg.TWN_ALIGN 15 0 = 0) ∧
    (fresh → d.pair ≠ 2 →
      Leaves bye t s { (d.setF Reg.TWN_ALIGN 15 0 0) with
        twn := { tw with peer := none, paired := false, ea := 0, alignRun := 0, badAlign := 0, beats := [] } }) ∧
    (d.img.hot = false → d.img.fullWaits = false → d.pair ≠ 2 ∨ d.peerPair ≠ 3 → refused hand d.twn) ∧
    (d.img.hot = false → d.pair = 2 → d.peerPair = 3 → d.twn.handover ≠ none → Leaves hand t s d) ∧
    (d.img.hot = false → d.pair = 2 → d.peerPair = 3 → d.twn.handover = none → d.activeLanes ≠ 0 →
      Leaves hand t s { d with twn := { d.twn with txSeq := (d.twn.txSeq + 1) % 2 ^ 24, handover := some { txFrm := txFrm, cause := 0, accepted := false, taker := false } },
                               sent := if out = 0 then [] else [(out, (d.twn.txSeq + 1) % 2 ^ 24, .yield { txFrm := txFrm, cause := 0 })] }) ∧
    (d.pair = 0 → Leaves leave t s d) ∧
    (d.pair ≠ 0 → ∃ d', Leaves leave t s d' ∧ d'.pair = 0 ∧ (d.owner = true → d'.owner = false ∧ d'.twn.own = false ∧ d'.twn.pairHold = true ∧ d'.sdm.driven = false) ∧
      (out ≠ 0 → d'.sent.map (fun q => q.2.2) = [.withdraw { cause := 0 }]))

/-- O42 (tier 2): Ownership: the OWN readback, absence of T0, the partner's OWN edges and the end of a takeover. Rules: R327 to R334, R341. -/
def Obligations.TwinOwnership : Prop :=
  ∀ (t : Nat) (level : Bool) (s : State), s.dev.runs = true →
    let d := (s.arrive t).dev
    let x := Nat.max s.now t
    let stat := Reg.TWN_STAT
    let drops (cmd : Instr) (cause : Nat) (edges : List Nat) : Prop :=
      ∃ d', Leaves cmd t s d' ∧ d'.owner = false ∧ d'.pair = 0 ∧ d'.bit stat 5 = true ∧ d'.bit stat 26 = true ∧ d'.twn.own = false ∧ d'.twn.pairHold = true ∧
        d'.twn.peerEdges = edges ∧ d'.sdm.driven = false ∧ (Quiet d .per x 198 → Requested d' .per x 198 0x7106 [(1, cause)])
    let readback := Instr.ownReadback t level
    let wrong := d.bit Reg.FRM_STAT 3 = true ∧ d.fcOf x = 50 ∧ level ≠ d.twn.own
    let absence := Instr.t0AbsenceTimeout t
    let absent := d.frm.lastT0 + d.P * uFc + uUs ≤ x
    let edge := Instr.peerOwnEdge t
    let edges := d.twn.peerEdges ++ [x]
    let excused := d.pair = 4 ∨ (∃ a, d.twn.tx = some a ∧ x ≤ a + 5 * uUs) ∨
      ∃ h, d.twn.handover = some h ∧ h.taker = false ∧ h.accepted = true ∧ d.pair = 2 ∧ h.txFrm = (d.frame + 1) % 2 ^ 32 ∧ d.frm.nextT0 ≤ x + 4 * uUs
    let drive := Instr.takeoverSdcDrive t
    let drives := d.pair = 4 ∧ d.twn.takeoverHold = true ∧ ∃ a, d.twn.tx = some a ∧ a + 2 * uUs ≤ x
    let lift := Instr.takeoverHoldLift t
    let lifts := d.pair = 1 ∧ d.twn.takeoverHold = true ∧ ∃ a, d.twn.tx = some a ∧ a + 2 * d.P * uFc ≤ x;
    (wrong → d.owner = true → drops readback 1 d.twn.peerEdges) ∧ (¬ wrong ∨ d.owner = false → Leaves readback t s d) ∧
    (absent → d.owner = true → drops absence 2 d.twn.peerEdges) ∧ (¬ absent ∨ d.owner = false → Leaves absence t s d) ∧
    (¬ excused → d.owner = true → drops edge 0 edges) ∧ (excused ∨ d.owner = false → Leaves edge t s { d with twn := { d.twn with peerEdges := edges } }) ∧
    (¬ drives → Leaves drive t s d) ∧
    (drives → ∃ d', Leaves drive t s d' ∧ d'.pair = 1 ∧ d'.sdm.driven = true ∧ d'.twn.takeoverHold = true ∧
      (Quiet d .per x 192 → ∃ c, Requested d' .per x 192 0x7100 [(1, 4), (1, 1), (1, c)])) ∧
    (¬ lifts → Leaves lift t s d) ∧
    (lifts → ∃ d', Leaves lift t s d' ∧ d'.twn.takeoverHold = false ∧ d'.twn.pairHold = false ∧ d'.bit stat 26 = false ∧ d'.bit stat 2 = true ∧ d'.pair = 1 ∧
      d'.fld Reg.TWN_HO_CNT 31 0 = Nat.min (d.fld Reg.TWN_HO_CNT 31 0 + 1) (2 ^ 32 - 1) ∧ (∀ r, d.twn.ownerRep = some r → d'.fld Reg.PWR_STAT 2 0 = r.1 % 8) ∧
      (d.twn.ownerRep = none → d'.fld Reg.PWR_STAT 2 0 = d.fld Reg.PWR_STAT 2 0) ∧
      d'.twn.txQuench = [] ∧
      (Quiet d .per x 193 → ∃ m, Requested d' .per x 193 0x7101 [(1, d.twn.txCause), (4, (d.rd Reg.TWN_HO_FRM).toNat), (1, m)]))

/-- O43 (tier 2): A T0: the alignment error, its correction of Guard, and the instant of the next T0. Rules: R24, R25, R26, R29. -/
def Obligations.FrameBegins : Prop :=
  ∀ (ecc : List EccError) (bad : List Nat) (s : State), s.dev.runsIn 6 = true →
    (s.dev.t0Due = none → Leaves (.frameT0 ecc bad) 0 s (s.arrive 0).dev) ∧
    ∀ x, s.dev.t0Due = some x → 0 < s.dev.P →
      let d := (s.arrive x).dev
      let tref := d.frm.trefNew.getD d.frm.tref
      ∃ (d' : Dev) (e : Int), Leaves (.frameT0 ecc bad) x s d' ∧
        -(d.P : Int) * 2 ^ 32 ≤ e ∧ e < (d.P : Int) * 2 ^ 32 ∧ ((d.time2 x : Int) - (tref : Int) * 2 ^ 32 - e) % (2 * d.P * 2 ^ 32) = 0 ∧
        ∃ run, d'.frm = { d.frm with
          t0 := x, lastT0 := x, firstT0 := none, tref := tref, trefNew := none, lastFc := 0, acqDone := false, colDone := false, delivered := []
          nextT0 := x + (if d.alignEn then ((d.P : Int) - max (-2) (min 2 (roundDiv e (2 ^ 33)))).toNat else d.P) * uFc
          alignRun := run } ∧ (run = if d.alignEn && decide (e.natAbs ≤ 2 * 2 ^ 32) then d.frm.alignRun + 1 else 0)

/-- O44 (tier 2): A T0 advances FRM_COUNT by one, or begins at 0 after a load, and latches the device time of T0. Rules: R20, R25, R28. -/
def Obligations.FrameIsCounted : Prop :=
  ∀ (ecc : List EccError) (bad : List Nat) (s : State) (x : Nat), s.dev.runsIn 6 = true → s.dev.t0Due = some x →
    let d := (s.arrive x).dev
    ∃ d', Leaves (.frameT0 ecc bad) x s d' ∧ d'.running = true ∧
      d'.frame = (if d.running then (d.frame + 1) % 2 ^ 32 else 0) ∧
      d'.rd64 Reg.FRM_T0_LO Reg.FRM_T0_HI = d.ns x % 2 ^ 64 ∧
      (d.running = false → d'.sys.safe = false)

/-- O45 (tier 2): During Acquire inputs deliver into signal memory, and a late input sets STALE_IN. Rules: R16, R234. -/
def Obligations.InputsAreDelivered : Prop :=
  (
    ∀ s : State, s.dev.runsIn 6 = true →
      let t := s.dev.fcAt 900
      let d := (s.arrive t).dev
      (d.running = false ∨ d.frm.acqDone = true → Leaves .acquireEnd t s d) ∧
      (d.running = true → d.frm.acqDone = false →
        ∃ d', Leaves .acquireEnd t s d' ∧ d' = { d with regs := d'.regs, hwSet := d'.hwSet, frm := { d.frm with acqDone := true }, twn := d'.twn, sent := d'.sent } ∧
          RegsKept d d' [Reg.FRM_STAT] ∧ BitsKept d d' Reg.FRM_STAT 7 7 ∧
          (d'.bit Reg.FRM_STAT 7 = true ↔ d.bit Reg.FRM_STAT 7 = true ∨
            ∃ j, j < d.hrt.graph.blks.length ∧ isInput (d.blkAt j).typ = true ∧ d.blkRuns j = true ∧ j ∉ d.frm.delivered) ∧
          (d.activeLanes = 0 → d'.twn = d.twn ∧ d'.sent = []))) ∧
  (
    ∀ (t n : Nat) (s : State) (src : InputSample), s.dev.runsIn 5 = true →
      let d := (s.arrive t).dev
      let js := d.inputBlks 0x4003 (some n)
      let w : Word := BitVec.ofNat 32 (b2n (d.cmpF n) + 2 * b2n (d.bit (Reg.CMP_LATCH (n / 32)) (n % 32)))
      (d.running = false ∨ d.frm.acqDone = true → Leaves (.inputDelivery t src) t s d) ∧
      (d.running = true → d.frm.acqDone = false →
        ∃ d', Leaves (.inputDelivery t (.cmp n)) t s d' ∧
          d' = { d with hrt := { d.hrt with sig := d'.hrt.sig, copy := d'.hrt.copy, tap := d'.hrt.tap }, frm := { d.frm with delivered := d.frm.delivered ++ js } } ∧
          (∀ j ∈ js, ∀ g, (d.blkAt j).outs[0]? = some g →
            (g < d.hrt.sig.length → nth 0 d'.hrt.sig g = w) ∧ (g < d.hrt.copy.length → nth 0 d'.hrt.copy g = w)) ∧
          ∀ g, (∀ j ∈ js, (d.blkAt j).outs[0]? ≠ some g) →
            d'.hrt.sig[g]? = d.hrt.sig[g]? ∧ d'.hrt.copy[g]? = d.hrt.copy[g]? ∧ d'.hrt.tap[g]? = d.hrt.tap[g]?))

/-- O46 (tier 2): The end of Collect: no packet is carried on, and the frame generator notes the end once. Rules: R18, R19, R102. -/
def Obligations.CollectEnds : Prop :=
  ∀ (bad : List Nat) (s : State), s.dev.runsIn 5 = true →
    let t := s.dev.fcAt (s.dev.P - 88)
    let d := (s.arrive t).dev
    (d.running = false ∨ d.frm.colDone = true → Leaves (.collectEnd bad) t s d) ∧
    (d.running = true → d.frm.colDone = false →
      ∃ d', Leaves (.collectEnd bad) t s d' ∧ d'.frm = { d.frm with colDone := true } ∧ d'.hrt.posts = [] ∧ d'.hrt.graph = d.hrt.graph)

/-- O47 (tier 2): An engine starts its next task when its inputs are there, or at its latest start without them. Rules: R80, R81. -/
def Obligations.TasksStart : Prop :=
  ∀ (t stretch : Nat) (s : State) (e : Fin 64) (ecc : List EccError), s.dev.runsIn 5 = true →
    (∀ q ∈ s.dev.hrt.eng, q.run = none) → (∀ q ∈ ecc, q.engine ≠ e.val) →
    let d := (s.arrive t).dev
    let x := Nat.max s.now t
    let start := Instr.taskStart t e stretch ecc
    let latest := Instr.latestStartReached t e stretch ecc
    let may := d.running = true ∧ d.frm.colDone = false ∧ 900 ≤ d.fcOf x ∧ d.fcOf x + 88 < d.P ∧ (d.engState e = 1 ∨ d.engState e = 2)
    ((¬may ∨ (d.engAt e).todo = []) → Leaves start t s d ∧ Leaves latest t s d) ∧
    ∀ i l, may → (d.engAt e).todo = i :: l →
      let now := d.fcAt (d.fcOf x)
      let begun (j : Nat) (rest : List Nat) (own : List BlkRes) := d.setEng e fun q => { q with
        todo := l
        run := some { task := i, todo := rest, cur := some (d.runBlk d.gf now i own j), endAt := now + (16 + stretch + d.blkFc d.gf i j) * uFc,
                      fin := [], shadow := d.isTarget e } }
      (d.fcOf x + 600 + d.taskCost d.gf i < d.P → Leaves latest t s d) ∧
      (∀ m, d.missing d.gf x i = some m → Leaves start t s d) ∧
      (∀ j rest, d.missing d.gf x i = none → d.taskBlks i = j :: rest →
        let d1 := begun j rest (if d.isTarget e then (d.engAt e).done.flatMap (·.2) else [])
        Leaves start t s d1 ∧ (d.P ≤ d.fcOf x + 600 + d.taskCost d.gf i → Leaves latest t s d1)) ∧
      (∀ j rest m, d.missing d.gf x i = some m → d.taskBlks i = j :: rest → d.isTarget e = false → d.P ≤ d.fcOf x + 600 + d.taskCost d.gf i →
        ∃ d' r, Leaves latest t s d' ∧ (d'.engAt e).run = some r ∧ r.task = i ∧ r.todo = rest ∧ (d'.engAt e).todo = l ∧
          RegsKept d d' [Reg.HRT_STAT, Reg.HRT_STALE_CNT] ∧ BitsKept d d' Reg.HRT_STAT 3 3 ∧ d'.bit Reg.HRT_STAT 3 = true ∧
          d'.fld Reg.HRT_STALE_CNT 31 0 = Nat.min (d.fld Reg.HRT_STALE_CNT 31 0 + 1) (2 ^ 32 - 1) ∧ d'.hrt.sig = d.hrt.sig ∧
          (Quiet d .fabric x 165 → Requested d' .fabric x 165 0x4105 [(4, (d.blkAt m.1).id), (2, m.2)]))

/-- O48 (tier 2): A task finishes with its last block: its results are local or posted, and its state is checkpointed. Rules: R80, R114, R116. -/
def Obligations.TasksFinish : Prop :=
  ∀ (t : Nat) (s : State) (e : Fin 64), s.dev.runsIn 5 = true →
    let d := (s.arrive t).dev
    let x := Nat.max s.now t
    ((d.engAt e).run = none → Leaves (.taskFinish t e) t s d) ∧
    ∀ r b, (d.engAt e).run = some r → r.cur = some b → (∀ k, k ≠ e.val → (d.engAt k).run = none) →
      (x < r.endAt → Leaves (.taskFinish t e) t s d) ∧
      (r.endAt ≤ x → r.todo = [] →
        ∃ d', Leaves (.taskFinish t e) t s d' ∧ d' = { d with hrt := d'.hrt } ∧
          d'.engAt e = { d.engAt e with run := none, done := (d.engAt e).done ++ [(r.task, r.fin ++ [b])], finish := r.endAt } ∧
          (∀ k, k ≠ e.val → d'.engAt k = d.engAt k) ∧
          (b.words ≠ [] → d'.hrt.comm = d.hrt.comm ∧
            d'.hrt.posts = d.hrt.posts ++ [{ eng := e, blk := b.blk, task := r.task, shadow := r.shadow, elig := r.endAt, words := b.words, granted := 0 }]) ∧
          (b.words = [] → d'.hrt.posts = d.hrt.posts ∧ (r.shadow = false → d'.hrt.comm = d.hrt.comm ++ [(b.blk, r.endAt)])) ∧
          (r.shadow = false → ∀ j ∈ (d.taskAt r.task).blks, j < d.hrt.rt.length → ∃ w, (d'.rtAt j).bank d.frame = some (d.frame, w)) ∧
          (r.shadow = true → d'.hrt.sig = d.hrt.sig ∧ d'.hrt.rt = d.hrt.rt))

/-- O49 (tier 2): The collector grants an eligible word and commits its packet; blocks are switched by command. Rules: R97 to R99, R105. -/
def Obligations.CollectorAndBlockSwitches : Prop :=
  (
    ∀ (t : Nat) (s : State), s.dev.runsIn 5 = true → (∀ q ∈ s.dev.hrt.eng, q.run = none) →
      let d := (s.arrive t).dev
      let k := d.fcOf (Nat.max s.now t)
      (d.running = false ∨ d.frm.colDone = true ∨ d.P < k + 89 ∨ d.fcAt k < d.hrt.colAt → Leaves (.collectorCycle t) t s d) ∧
      (d.running = true → d.frm.colDone = false → k + 89 ≤ d.P → d.hrt.colAt ≤ d.fcAt k →
        let idle := { d with hrt := { d.hrt with colAt := d.fcAt (k + 1) } }
        ((∀ p ∈ d.hrt.posts, d.fcAt k < p.elig) → Leaves (.collectorCycle t) t s idle) ∧
        ∀ p g v, d.hrt.posts = [p] → p.words = [{ dst := .sig g, val := v }] → p.granted = 0 → p.shadow = false → p.eng < 64 → p.elig ≤ d.fcAt k →
          Leaves (.collectorCycle t) t s
            { d.setF Reg.COL_RR 5 0 p.eng with
              hrt := { d.hrt with
                colAt := d.fcAt (k + 1), posts := [], colWords := d.hrt.colWords + 1, copy := upd d.hrt.copy g (fun _ => v)
                comm := d.hrt.comm ++ [(p.blk, d.fcAt (k + 1))] }
              frm := { d.frm with lastFc := k } })) ∧
  (
    ∀ (t : Nat) (s : State), s.dev.runs = true →
      let d := (s.arrive t).dev
      let id := (d.rd Reg.HRT_BLKID).toNat
      Leaves (.clrMax t) t s (d.setF Reg.COL_WORDS 29 16 0) ∧
      ((∀ j, j < d.hrt.graph.blks.length → (d.blkAt j).id ≠ id) → Leaves (.blockOff t) t s d ∧ Leaves (.blockOn t) t s d) ∧
      ∀ j, j < d.hrt.graph.blks.length → (d.blkAt j).id = id → (∀ i, i < j → (d.blkAt i).id ≠ id) →
        let to_ (off on_ : Nat) : Dev := d.setRt j fun r => { r with mode := if r.mode = off then on_ else r.mode }
        ((d.rtAt j).mode = 1 → Leaves (.blockOff t) t s (to_ 1 2) ∧ Leaves (.blockOn t) t s (to_ 1 1)) ∧
        ((d.rtAt j).mode = 4 → Leaves (.blockOff t) t s (to_ 4 3) ∧ Leaves (.blockOn t) t s (to_ 4 4)) ∧
        ((d.rtAt j).mode = 3 → Leaves (.blockOn t) t s (to_ 3 4) ∧ Leaves (.blockOff t) t s (to_ 3 3)) ∧
        ((d.rtAt j).mode = 2 → Leaves (.blockOn t) t s (to_ 2 1) ∧ Leaves (.blockOff t) t s (to_ 2 2)))

/-- O50 (tier 2): Self-test requests and the rotation timer. Rules: R126, R127. -/
def Obligations.SelfTestRequestsAndRotation : Prop :=
  (
    ∀ (t : Nat) (s : State) (e : Fin 64), s.dev.runs = true →
      let d := (s.arrive t).dev
      let x := Nat.max s.now t
      let cmd := Instr.selfTestRequest t e
      let waits := ∃ q ∈ d.plc.queue ++ d.plc.testDue, q.eng = e.val
      let known := d.engState e = 2 ∨ waits
      let req : TestReq := { eng := e.val, reserved := false, fw := true }
      let merge (l : List TestReq) := l.map (fun q => if q.eng = e.val then { q with fw := true } else q)
      let barred := d.engState e = 1 ∧ d.migBarred (d.frame + 1) e = true
      let free := (d.engsIn [0]).length
      let able := d.plc.test = none ∧ (∀ m ∈ d.plc.migs, m.reason ≠ 2) ∧ d.bit Reg.PLC_CTRL 0 = false ∧ 2 ≤ free ∧ (d.engState e = 0 ∨ d.engState e = 1 → 3 ≤ free)
      let alone := d.plc.testDue = [] ∧ ∀ q ∈ d.plc.queue, q.reserved = true
      (d.engState e = 5 → Leaves cmd t s d) ∧
      (d.engState e = 2 → Leaves cmd t s { d with plc := { d.plc with testLater := d.plc.testLater.filter (fun q => q.eng != e.val) ++ [req] } }) ∧
      (d.engState e ≠ 5 → d.engState e ≠ 2 → waits → Leaves cmd t s { d with plc := { d.plc with queue := merge d.plc.queue, testDue := merge d.plc.testDue } }) ∧
      (d.engState e ≠ 5 → ¬known → able → alone → ¬barred → Leaves cmd t s { d with plc := { d.plc with testDue := [req] } }) ∧
      (d.engState e ≠ 5 → ¬known → (¬able ∨ ¬alone ∨ barred) → d.plc.queue.length < 8 →
        ∃ d', Leaves cmd t s d' ∧ d'.plc = { d.plc with queue := d.plc.queue ++ [req] } ∧
          d'.fld Reg.PLC_ST_STAT 3 0 = d.plc.queue.length + 1 ∧ RegsKept d d' [Reg.PLC_ST_STAT, Reg.PLC_STAT, Reg.HRT_STAT] ∧
          (Quiet d .fabric x 174 → Requested d' .fabric x 174 0x410E [(1, e), (1, d.plc.queue.length + 1)])) ∧
      (d.engState e ≠ 5 → ¬known → (¬able ∨ ¬alone ∨ barred) → 8 ≤ d.plc.queue.length →
        ∃ d', Leaves cmd t s d' ∧ d'.plc = d.plc ∧ d'.bit Reg.PLC_STAT 5 = true ∧ RegsKept d d' [Reg.PLC_STAT] ∧ BitsKept d d' Reg.PLC_STAT 5 5)) ∧
  (
    ∀ (t : Nat) (s : State) (v : Word), s.dev.runs = true →
      let d := (s.arrive t).dev
      let x := Nat.max s.now t
      let c := d.rw Reg.PLC_CTRL v
      let i := d.rw Reg.PLC_ST_INTERVAL v
      let len (d : Dev) : Nat := d.fld Reg.PLC_ST_INTERVAL 16 0 * uS
      (tbit v 1 = false → Leaves (.plcCtrlWrite t v) t s { c with plc := { d.plc with rotEnd := none, rotPend := false } }) ∧
      (tbit v 1 = true → d.bit Reg.PLC_CTRL 1 = false → Leaves (.plcCtrlWrite t v) t s { c with plc := { d.plc with rotPend := true } }) ∧
      (tbit v 1 = true → d.bit Reg.PLC_CTRL 1 = true → d.plc.rotEnd.isSome = true →
        Leaves (.plcCtrlWrite t v) t s { c with plc := { d.plc with rotEnd := some (x + len d) } }) ∧
      (d.plc.rotEnd = none → Leaves (.plcStIntervalWrite t v) t s i ∧ Leaves (.rotationTimerExpiry t) t s d) ∧
      (d.clocked 5 = false → Leaves (.rotationTimerExpiry t) t s d) ∧
      ∀ r, d.plc.rotEnd = some r →
        Leaves (.plcStIntervalWrite t v) t s { i with plc := { d.plc with rotEnd := some (x + len i) } } ∧
        (x < r → Leaves (.rotationTimerExpiry t) t s d) ∧
        (r ≤ x → d.clocked 5 = true →
          ∃ d', Leaves (.rotationTimerExpiry t) t s d' ∧ d'.plc.rotEnd = some (r + len d) ∧ d'.plc.test = d.plc.test ∧
            ((∀ e, e < 64 → d.engState e = 4 ∨ d.engState e = 5) → d'.plc.rotLast = d.plc.rotLast) ∧
            ∀ k, k < 64 → (∀ j, j < k → let e := (d.plc.rotLast + 1 + j) % 64; d.engState e = 4 ∨ d.engState e = 5) →
              let e := (d.plc.rotLast + 1 + k) % 64
              d.engState e ≠ 4 → d.engState e ≠ 5 →
                d'.plc.rotLast = e ∧
                ((∃ q ∈ d'.plc.queue ++ d'.plc.testDue ++ d'.plc.testLater, q.eng = e) ∨ 8 ≤ d.plc.queue.length ∧ d'.bit Reg.PLC_STAT 5 = true)))

/-- O51 (tier 2): A self-test lasts 120 ms; a pass makes the engine spare, a fail makes it faulted. Rules: R125, R127. -/
def Obligations.SelfTestsRun : Prop :=
  ∀ (t fails : Nat) (s : State) (e : Fin 64), s.dev.runsIn 5 = true →
    let d := (s.arrive t).dev
    let x := Nat.max s.now t
    let free := (d.engsIn [0]).length
    let turn := d.plc.testDue.head?.map (fun q => q.eng) = some e.val ∨ d.plc.testDue = [] ∧ ∃ h, (d.plc.queue.filter (fun q => !q.reserved)).head? = some h ∧ h.eng = e.val
    (turn → d.plc.test = none → (∀ m ∈ d.plc.migs, m.reason ≠ 2) → d.bit Reg.PLC_CTRL 0 = false → 2 ≤ free → (d.engState e = 0 → 3 ≤ free) → (d.engState e = 0 ∨ d.engState e = 4 ∨ d.engState e = 6) →
      ∃ d', Leaves (.selfTestStart t e) t s d' ∧ d'.plc.test = some (e.val, x + 120 * uMs) ∧ d'.engState e = 3 ∧ d'.bit Reg.PLC_ST_STAT 15 = true ∧
        d'.fld Reg.PLC_ST_STAT 13 8 = e ∧ (∀ k, k < 64 → k ≠ e.val → d'.engState k = d.engState k) ∧ (∀ q ∈ d'.plc.queue ++ d'.plc.testDue, q.eng ≠ e.val)) ∧
    (¬turn → Leaves (.selfTestStart t e) t s d) ∧
    (d.plc.test = none → Leaves (.selfTestEnd t fails) t s d) ∧
    ∀ end_, d.plc.test = some (e.val, end_) →
      (x < end_ → Leaves (.selfTestEnd t fails) t s d) ∧
      (end_ ≤ x →
        ∃ d', Leaves (.selfTestEnd t fails) t s d' ∧ d'.plc = { d.plc with test := none } ∧ d'.bit Reg.PLC_ST_STAT 15 = false ∧
          (∀ k, k < 64 → k ≠ e.val → d'.engState k = d.engState k) ∧
          (fails % 16 = 0 → d'.engState e = 0 ∧ d'.fld Reg.PLC_ST_STAT 7 6 = 1 ∧ d'.stAge x e = 0) ∧
          (fails % 16 ≠ 0 → d'.engState e = 5 ∧ d'.fld Reg.PLC_ST_STAT 7 6 = 2 ∧ d'.hrt = d.hrt ∧
            ((∀ q ∈ d.anv.reqs, q.src ≠ 173) → ∃ first, first < 4 ∧ fails.testBit first = true ∧ (∀ b, b < first → fails.testBit b = false) ∧
              Requested d' .fabric x 173 0x410D [(1, e), (1, first), (1, fails % 16)])))

/-- O52 (tier 2): LP_PDATA stages a word for the next T0 or is refused with a cause; LP_SWAP_CMD makes groups pending. Rules: R146 to R150. -/
def Obligations.ParametersAndSwaps : Prop :=
  ∀ (t : Nat) (v : Word) (groups : Nat) (s : State), s.dev.runs = true →
    let d := (s.arrive t).dev
    let x := Nat.max s.now t
    let i := d.fld Reg.LP_PSEL 23 0
    let set := d.fld Reg.LP_PSEL 31 31
    let cause := d.parCause set [(i, v)] i
    let staged : Dev := { d with lp := { d.lp with staged := d.lp.staged ++ [({ set := set, idx := i, val := v, frame := (d.frameOf x + 1) % 2 ^ 32 } : ParStage)] } }
    let n := if d.running = true ∧ d.frm.nextT0 ≤ x then (d.frame + 1) % 2 ^ 32 else d.frame
    (cause = 0 → d.mirroring = false → Leaves (.lpPdataWrite t v) t s (staged.setF Reg.LP_PSEL 23 0 (i + 1))) ∧
    (cause ≠ 0 → Leaves (.lpPdataWrite t v) t s (((d.setB Reg.LP_STAT 0 true).setF Reg.LP_STAT 7 4 cause).setF Reg.LP_PSEL 23 0 (i + 1))) ∧
    (cause = 0 ∨ cause = 5 ∨ cause = 7 → i < d.hrt.setA.length ∧ d.hotBusy = false ∧
      ∃ j g, d.wordBlk i = some j ∧ d.groupOf (d.blkAt j) = some g ∧ set ≠ b2n (d.actB g) ∧ i - (d.blkAt j).pIdx ∉ sharedWords (d.blkAt j).typ ∧
        d.swapPend g = false ∧ (cause = 0 → d.follows = false)) ∧
    (d.follows = true → Leaves (.lpSwapCmd t groups) t s (d.inc Reg.LP_SWAP_HELD 31 0)) ∧
    (d.follows = false → d.mirroring = false →
      ∃ d', Leaves (.lpSwapCmd t groups) t s d' ∧ d' = { d with regs := d'.regs, hwSet := d'.hwSet, lp := { d.lp with swaps := d'.lp.swaps } } ∧
        RegsKept d d' [Reg.LP_SWAP_STAT] ∧ BitsKept d d' Reg.LP_SWAP_STAT 15 0 ∧
        (∀ g, g < 16 → (d'.swapPend g = true ↔ d.swapPend g = true ∨ groups.testBit g = true)) ∧ d.lp.swaps <+: d'.lp.swaps ∧
        ∀ p, p ∈ d'.lp.swaps → p ∉ d.lp.swaps →
          p.group < 16 ∧ groups.testBit p.group = true ∧ d.swapPend p.group = false ∧ p.frame = (n + 2) % 2 ^ 32)

/-- O53 (tier 2): FULL_LOAD, HOT_LOAD and ABORT: busy, refused, begun, or after a handover. Rules: R67, R70, R72. -/
def Obligations.LoadsAreRequested : Prop :=
  ∀ (t : Nat) (s : State), s.dev.runs = true →
    let d := (s.arrive t).dev
    let x := Nat.max s.now t
    let slot := d.fld Reg.IMG_CTRL 2 2
    let busy := d.imgState ≠ 0 ∨ d.img.fullWaits = true ∨ d.sys.bootOver = false
    let relay := d.pair = 2 ∧ d.peerPair = 3
    (busy → Leaves (.fullLoad t) t s (d.setB Reg.IMG_STAT 8 true) ∧ Leaves (.hotLoad t) t s (d.setB Reg.IMG_STAT 8 true)) ∧
    (¬busy → Leaves (.hotLoad t) t s { d.setF Reg.IMG_STAT 3 0 1 with img := { d.img with slot := slot, hot := true, fullWaits := false, trial := d.usable } }) ∧
    (¬busy → ¬relay → d.power = 2 → Leaves (.fullLoad t) t s (d.setB Reg.IMG_STAT 7 true)) ∧
    (¬busy → ¬relay → d.power ≠ 2 → d.pair ≠ 3 →
      Leaves (.fullLoad t) t s { d.setF Reg.IMG_STAT 3 0 1 with img := { d.img with slot := slot, hot := false, fullWaits := false, trial := d.usable } }) ∧
    (¬busy → d.power ≠ 2 → d.pair = 3 →
      ∃ d', Leaves (.fullLoad t) t s d' ∧ d'.pair = 0 ∧ d'.imgState = 1 ∧ d'.img = { d.img with slot := slot, hot := false, fullWaits := false, trial := d.usable }) ∧
    (¬busy → relay →
      ∃ d', Leaves (.fullLoad t) t s d' ∧ d'.imgState = 0 ∧ d'.img = { d.img with slot := slot, fullWaits := true } ∧ d'.twn.handover.isSome = true) ∧
    (d.img.hot = false ∨ d.imgState ≠ 1 ∧ d.imgState ≠ 2 → Leaves (.imgAbort t) t s d) ∧
    (d.img.hot = true → d.imgState = 1 ∨ d.imgState = 2 →
      ∃ d', Leaves (.imgAbort t) t s d' ∧ d'.imgState = 0 ∧ d'.fld Reg.IMG_RESULT 15 0 = 0xD111 ∧ RegsKept d d' [Reg.IMG_STAT, Reg.IMG_RESULT] ∧
        d'.img = { d.img with next := none, nextPlace := none, hot := false } ∧ d'.hrt = d.hrt ∧ (∀ p ∈ d'.lp.swaps, p.hot = false) ∧
        (Quiet d .per x 244 → Requested d' .per x 244 0xD111 [(1, d.img.slot), (2, 0xD111)]))

/-- O54 (tier 2): The end of a full load's checks: the first failing check's code, or the new image runs. Rules: R65, R67, R68, R28. -/
def Obligations.FullLoadEnds : Prop :=
  ∀ (t : Nat) (s : State), s.dev.runs = true →
    let d := (s.arrive t).dev
    let x := Nat.max s.now t
    let cmd := Instr.fullLoadChecksDone t
    let bs := s.mem.container d.img.slot 1
    let im := imageOf bs
    let trust := trustCode (d.trustOf s.otp s.mem d.img.slot 1) bs
    let rejects (code : Nat) : Prop := ∃ d', Leaves cmd t s d' ∧ d'.imgState = 0 ∧ d'.fld Reg.IMG_RESULT 15 0 = code % 2 ^ 16 ∧
      RegsKept d d' [Reg.IMG_RESULT, Reg.IMG_STAT] ∧ BitsKept d d' Reg.IMG_STAT 3 0 ∧ d'.hrt = d.hrt ∧ d'.frm = d.frm ∧
      (Quiet d .per x 244 → Requested d' .per x 244 code [(1, d.img.slot), (2, code)])
    let d5 := d.loadSteps x im
    (d.imgState ≠ 1 ∨ d.img.hot = true → Leaves cmd t s d) ∧
    (d.imgState = 1 → d.img.hot = false →
      (trust ≠ 0 → rejects trust) ∧
      (trust = 0 → d.imageCode x bs (some d.img.trial) ≠ 0 → rejects (d.imageCode x bs (some d.img.trial))) ∧
      (trust = 0 → d.imageCode x bs (some d.img.trial) = 0 → d.power = 2 → Leaves cmd t s ((d.setF Reg.IMG_STAT 3 0 0).setB Reg.IMG_STAT 7 true)) ∧
      (trust = 0 → d.imageCode x bs (some d.img.trial) = 0 → d.power ≠ 2 →
        (∀ p, d5.placement im d5.usable = some p →
          ∃ d', Leaves cmd t s d' ∧ d'.imgState = 0 ∧ d'.img.hot = false ∧ d'.img.slot = d.img.slot ∧ d'.img.run = some im ∧
            d'.loaded = true ∧ d'.fld Reg.IMG_RESULT 15 0 = 0 ∧ d'.rd Reg.IMG_GEN = BitVec.ofNat 32 im.gen ∧
            d'.hrt.graph = im.graph ∧ d'.hrt.setA = im.setA ∧ d'.hrt.setB = im.setB ∧ d'.hrt.sig = im.graph.sigs.map (·.init) ∧ d'.hrt.place = p ∧
            ∃ f, d'.frm.firstT0 = some f ∧ x + d'.P * uFc ≤ f) ∧
        (d5.placement im d5.usable = none →
          ∃ d', Leaves cmd t s d' ∧ d'.imgState = 0 ∧ d'.img.hot = false ∧ d'.img.slot = d.img.slot ∧
            d'.img.run = none ∧ d'.fld Reg.IMG_RESULT 15 0 = 0xD10D ∧ d'.frm.firstT0 = none ∧ d'.hrt.graph = HrtSt.init.graph ∧ d'.sys.safe = true)))

/-- O55 (tier 2): A hot update's checks and placing: the code it fails with, or STAGED once no migration is in flight. Rules: R65, R69, R70. -/
def Obligations.HotUpdates : Prop :=
  ∀ (t : Nat) (s : State), s.dev.runs = true →
    let d := (s.arrive t).dev
    let x := Nat.max s.now t
    let bs := s.mem.container d.img.slot 1
    let im := imageOf bs
    let trust := trustCode (d.trustOf s.otp s.mem d.img.slot 1) bs
    let rejects (cmd : Instr) (code : Nat) : Prop := ∃ d', Leaves cmd t s d' ∧ d'.imgState = 0 ∧ d'.fld Reg.IMG_RESULT 15 0 = code % 2 ^ 16 ∧
      d'.img = { d.img with next := none, nextPlace := none, hot := false } ∧ RegsKept d d' [Reg.IMG_RESULT, Reg.IMG_STAT] ∧ d'.hrt = d.hrt ∧
      (Quiet d .per x 244 → Requested d' .per x 244 code [(1, d.img.slot), (2, code)])
    let staged (d' : Dev) (im : Image) (p : Placement) : Prop :=
      d'.hrt = d.hrt ∧ d'.img.next = some im ∧ d'.img.nextPlace = some p ∧ RegsKept d d' ([Reg.IMG_STAT, Reg.PLC_STAT, Reg.HRT_STAT, Reg.PLC_ST_STAT] ++ (List.range 64).map Reg.HRT_ENG_STAT) ∧
      (∀ e, e < 64 → d'.engState e = if d.plc.migs = [] ∧ e ∈ d.addedEngs im p ∧ d.engState e = 0 then 1 else d.engState e) ∧
      (d.plc.migs = [] → d'.imgState = 3 ∧ d'.img.stagedFrm = d.frameOf x) ∧
      (d.plc.migs ≠ [] → d'.imgState = 2 ∧ d'.img.stagedFrm = d.img.stagedFrm ∧ RegsKept d d' [Reg.IMG_STAT])
    let here := if d.plc.migs ≠ [] ∨ (∀ e ∈ d.addedEngs im d.hrt.place, d.engState e = 0 ∨ d.engState e = 1) then some d.hrt.place else d.hotPlacement im
    let checks := Instr.hotChecksDone t
    let placing := Instr.hotPlacingDone t
    (d.imgState ≠ 1 ∨ d.img.hot = false → Leaves checks t s d) ∧
    (d.imgState = 1 → d.img.hot = true →
      (trust ≠ 0 → rejects checks trust) ∧
      (trust = 0 → d.imageCode x bs (some d.img.trial) ≠ 0 → rejects checks (d.imageCode x bs (some d.img.trial))) ∧
      (trust = 0 → d.imageCode x bs (some d.img.trial) = 0 → d.hotOk im = false → rejects checks 0xD110) ∧
      (trust = 0 → d.imageCode x bs (some d.img.trial) = 0 → d.hotOk im = true →
        (im.graph ≠ d.hrt.graph → Leaves checks t s { d.setF Reg.IMG_STAT 3 0 2 with img := { d.img with next := some im, nextPlace := none } }) ∧
        (im.graph = d.hrt.graph → (∀ p, here = some p → ∃ d', Leaves checks t s d' ∧ staged d' im p) ∧ (here = none → rejects checks 0xD10D)))) ∧
    (d.imgState ≠ 2 ∨ d.img.hot = false ∨ d.img.nextPlace.isSome = true ∨ d.img.next = none → Leaves placing t s d) ∧
    (d.imgState = 2 → d.img.hot = true → d.img.nextPlace = none → ∀ n, d.img.next = some n →
      (d.hotPlacement n = none → rejects placing 0xD10D) ∧
      (∀ p, d.hotPlacement n = some p → ∃ d', Leaves placing t s d' ∧ staged d' n p))

/-- O56 (tier 2): A bus write: access faults, the access types of a register's bits, and RAM. Rules: R8 to R10, R40, R115, R492. -/
def Obligations.RegisterWrites : Prop :=
  ∀ (t a : Nat) (v : Word) (s : State), s.dev.runs = true →
    let d := (s.arrive t).dev
    let cmd := Instr.registerWrite t a v
    let lock := d.bit Reg.ANV_CTRL 0
    (a < 0x03000000 → Leaves cmd t s { d with busError := true }) ∧
    (0x10000000 ≤ a → a + 4 ≤ 0x10060000 → a % 4 ≠ 0 → Leaves cmd t s { d with busError := true }) ∧
    (a % 4 = 0 → a / 0x10000 ∈ [0x1002, 0x1010, 0x1012, 0x1013, 0x101F, 0x1034] →
      a ∉ [Reg.ANV_CTRL, Reg.HRT_BLKCMD, Reg.COL_WORDS, Reg.PLC_CTRL, Reg.PLC_ST_INTERVAL, Reg.PLC_ST_REQ, Reg.LP_PDATA, Reg.LP_SWAP_CMD, Reg.IMG_CTRL] →
      (regSpec? a = none → Leaves cmd t s d) ∧
      ∀ r, regSpec? a = some r →
        ∃ w, Leaves cmd t s (d.wr a w) ∧ ∀ i, i < 32 →
          let b := v.getLsbD i && !(r.w1c.getLsbD i && d.hwSet.contains (a, i))
          w.getLsbD i = ((if r.rw.getLsbD i || (!lock && r.rwl.getLsbD i) then b else (d.rd a).getLsbD i) && !(b && r.w1c.getLsbD i))) ∧
    (a = Reg.ANV_CTRL → tbit v 1 = false → Leaves cmd t s (if tbit v 0 then d.setB Reg.ANV_CTRL 0 true else d)) ∧
    (0x08000000 ≤ a → a + 4 ≤ 0x08800000 → Inv s →
      ∃ mem, exec cmd s = .next { s.arrive t with dev := d, mem := mem } ∧ (∀ b, b < a ∨ a + 4 ≤ b → mem.read b = s.mem.read b) ∧
        ∀ i, i < 4 → mem.read (a + i) =
          if d.loaded = true ∧ 0x08600000 ≤ a + i then s.mem.read (a + i) else BitVec.ofNat 8 (v.toNat / 256 ^ i))

/-- O57 (tier 1): What reset leaves: every register at its reset value, an empty queue, canonical memory. Rules: the register tables; values the
tables leave open are DESIGN CHOICE, log entries 81 and 82. -/
def Obligations.ResetLeaves : Prop :=
  let d := State.reset.dev
  Inv State.reset ∧ State.reset.pending = [] ∧ (∀ a, d.rd a = regReset a) ∧
  d.rd Reg.FRM_PERIOD = 0x1388#32 ∧ d.rd Reg.FRM_CTRL = 0x2#32 ∧ (∀ n, n < 256 → d.rd (Reg.ANV_SRC_CFG n) = 0x1#32) ∧
  d.rd Reg.COL_RR = 0x3F#32 ∧ d.rd Reg.PLC_CTRL = 0xE#32 ∧ d.rd Reg.PLC_STAT = 0x40400000#32 ∧ d.rd Reg.LP_SWAP_STAT = 0#32 ∧
  (∀ n, n < 96 → d.rd (Reg.PWM_CH_PER n) = 0x61A80#32) ∧ (∀ n, n < 96 → d.rd (Reg.GDP_CH_CFG n) = 0xC06407D0#32) ∧
  (∀ n, n < 96 → d.rd (Reg.SDM_CH_CFG n) = 0x810#32) ∧ (∀ b, b < 5 → d.rd (Reg.ADC_CTRL b) = 0x400000C8#32) ∧
  (∀ n, n < 48 → d.rd (Reg.CMP_CH_CFG n) = 0x302#32) ∧ (∀ k, k < 2 → d.rd (Reg.ENCK_CFG k) = 0x04140000#32) ∧
  (∀ m, m < 4 → d.rd (Reg.MTR_MP_CFG m) = 0x88#32) ∧ d.rd Reg.SAF_STAT = 0xFF000000#32 ∧ (∀ l, l < 4 → d.rd (Reg.LNK_LN_CFG l) = 0xC0080000#32) ∧
  (∀ p, p < 2 → d.rd (Reg.ETH_P_CTRL p) = 0x30000000#32) ∧ d.rd Reg.TIM_INC_NS = 0x5#32 ∧ d.rd Reg.TWN_STAT = 0x04000000#32 ∧
  d.rd Reg.CLK_GATE = 0x7FFF#32 ∧ d.rd Reg.TMP_CFG = 0x07D00A32#32 ∧ d.rd Reg.LOG_ECFG = 0x0A200BB8#32 ∧ d.rd Reg.PWR_STAT = 0x1#32 ∧
  (∀ p, p < 2 → d.rd (Reg.SYS_WDT p) = 0x3E8#32) ∧ d.rd Reg.DDR_SCRUB = 0x18#32 ∧ d.rd Reg.REC_CTRL = 0xFF#32 ∧ d.rd Reg.XSP_CFG = 0x00C80000#32

/-- O58 (tier 3): From every state with canonical memory a step answers a next state with canonical memory. Rules: the model's memory. -/
def Obligations.EveryStepKeepsTheMemoryCanonical : Prop :=
  ∀ s : State, Inv s → ∃ s', step s = .next s' ∧ Inv s' ∧ s.now ≤ s'.now ∧ s'.pending = s.pending.tail

/-- O59 (tier 3): No step takes a fuse back: the life cycle, counters, keys and revocations only grow. Rules: R460 to R463, R467. -/
def Obligations.FusesOnlyGrow : Prop := ∀ s s' : State, step s = .next s' → FusesGrow s.otp s'.otp

/-- O60 (tier 2): Blocks on invalid input, LIMIT between its limits, DELAY, and formula programs within their stack. Rules: R91, R95, R96, R133. -/
def Obligations.BlocksRun : Prop :=
  (∀ e : BlkEnv, (∃ i ∈ fpIns e.rec_ e.a, Fp.isFinite (e.x i) = false) →
    (runBlock e).st = e.st ∧ (runBlock e).words = [] ∧ (runBlock e).fe = none ∧
    ∀ k, k < e.rec_.outs.length → k ≠ 7 ∨ e.rec_.typ ≠ 0x2003 → (runBlock e).outs[k]? = some (if satOut e.rec_.typ = some k then some 3 else none)) ∧
  (∀ e : BlkEnv, e.rec_.typ = 0x0004 → Fp.isFinite (e.x 0) = true → Fp.isFinite (e.pa 0) = true → Fp.isFinite (e.pa 1) = true →
    Fp.le (e.pa 0) (e.pa 1) = true →
    ∃ y sat, runBlock e = BlkOut.all [y, sat] e.st ∧ Fp.le (e.pa 0) y = true ∧ Fp.le y (e.pa 1) = true ∧
      (sat = 0 ∧ y = Fp.canon (e.x 0) ∨ sat = 1 ∧ y = Fp.canon (e.pa 0) ∧ Fp.le (e.x 0) (e.pa 0) = true ∨
        sat = 2 ∧ y = Fp.canon (e.pa 1) ∧ Fp.le (e.pa 1) (e.x 0) = true)) ∧
  (∀ e : BlkEnv, e.rec_.typ = 0x0007 → runBlock e = BlkOut.all [e.x 0] [e.x 0]) ∧
  ∀ (nIn nPar nOut : Nat) (ins par : List Word) (l r : List (Nat × Nat)) (m : Fml),
    progOk nIn nPar nOut m.stack.length (l ++ r) = true → m.stack.length ≤ 16 →
    (l.foldl (fun m o => m.step ins par o) m).stack.length ≤ 16 ∧
    progOk nIn nPar nOut (l.foldl (fun m o => m.step ins par o) m).stack.length r = true
end

