-- ==== Sys2Proof/Laws/Bits.lean ====
section
/-! SUPPORT. Laws/Bits.lean: what reading a field or a bit of a word gives after a field or a bit of it was set. -/

namespace Sys2Proof.Machine

theorem natBits_testBit (v hi lo j : Nat) : (natBits v hi lo).testBit j = (decide (j < hi + 1 - lo) && v.testBit (lo + j)) := by
  simp [natBits, Nat.testBit_mod_two_pow, Nat.testBit_shiftRight]

theorem setFld_testBit (w : Word) {hi lo : Nat} (v j : Nat) (h1 : lo ≤ hi) (h2 : hi < 32) :
    (setFld w hi lo v).toNat.testBit j = if lo ≤ j ∧ j ≤ hi then v.testBit (j - lo) else w.toNat.testBit j := by
  obtain ⟨k, hk⟩ : ∃ k, hi + 1 = lo + k := ⟨hi + 1 - lo, by omega⟩
  have hk' : hi + 1 - lo = k := by omega
  have hw := w.isLt
  obtain ⟨n, hn⟩ : ∃ n, n = w.toNat := ⟨_, rfl⟩
  have hmid : natBits n hi lo = n / 2 ^ lo % 2 ^ k := by simp [natBits, hk', Nat.shiftRight_eq_div_pow]
  have hdec : n = 2 ^ lo * (2 ^ k * (n / 2 ^ lo / 2 ^ k) + n / 2 ^ lo % 2 ^ k) + n % 2 ^ lo := by
    rw [Nat.div_add_mod, Nat.div_add_mod]
  have hlow : n % 2 ^ lo < 2 ^ lo := Nat.mod_lt _ (by positivity)
  have hv : v % 2 ^ k < 2 ^ k := Nat.mod_lt _ (by positivity)
  have hval : n - natBits n hi lo * 2 ^ lo + v % 2 ^ (hi + 1 - lo) * 2 ^ lo
      = 2 ^ lo * (2 ^ k * (n / 2 ^ lo / 2 ^ k) + v % 2 ^ k) + n % 2 ^ lo := by
    have e : n - natBits n hi lo * 2 ^ lo = 2 ^ lo * (2 ^ k * (n / 2 ^ lo / 2 ^ k)) + n % 2 ^ lo := by
      rw [hmid]
      have hc : n / 2 ^ lo % 2 ^ k * 2 ^ lo = 2 ^ lo * (n / 2 ^ lo % 2 ^ k) := Nat.mul_comm _ _
      rw [hc]; rw [Nat.mul_add] at hdec; omega
    rw [e, hk']; ring
  have hlt : 2 ^ lo * (2 ^ k * (n / 2 ^ lo / 2 ^ k) + v % 2 ^ k) + n % 2 ^ lo < 2 ^ 32 := by
    obtain ⟨e, he⟩ : ∃ e, 32 = lo + k + e := ⟨32 - (lo + k), by omega⟩
    have ha : n / 2 ^ lo / 2 ^ k < 2 ^ e := by
      rw [Nat.div_div_eq_div_mul, ← pow_add]
      apply Nat.div_lt_of_lt_mul; rw [← pow_add, ← he, hn]; exact hw
    rw [he, pow_add, pow_add]
    have h3 : 2 ^ k * (n / 2 ^ lo / 2 ^ k) + v % 2 ^ k + 1 ≤ 2 ^ k * 2 ^ e := by
      have : 2 ^ k * (n / 2 ^ lo / 2 ^ k + 1) ≤ 2 ^ k * 2 ^ e := Nat.mul_le_mul_left _ ha
      rw [Nat.mul_add] at this; omega
    have h4 := Nat.mul_le_mul_left (2 ^ lo) h3
    rw [Nat.mul_add, Nat.mul_one] at h4
    have : 2 ^ lo * 2 ^ k * 2 ^ e = 2 ^ lo * (2 ^ k * 2 ^ e) := by ring
    omega
  have htn : (setFld w hi lo v).toNat = 2 ^ lo * (2 ^ k * (n / 2 ^ lo / 2 ^ k) + v % 2 ^ k) + n % 2 ^ lo := by
    rw [setFld, ← hn, hval, BitVec.toNat_ofNat, Nat.mod_eq_of_lt hlt]
  rw [htn, Nat.testBit_two_pow_mul_add _ hlow, Nat.testBit_two_pow_mul_add _ hv]
  by_cases hj : j < lo
  · have : ¬ (lo ≤ j ∧ j ≤ hi) := by omega
    simp [hj, this, ← hn, Nat.testBit_mod_two_pow]
  · by_cases hj2 : j - lo < k
    · have : lo ≤ j ∧ j ≤ hi := by omega
      simp [hj, hj2, this, Nat.testBit_mod_two_pow]
    · have : ¬ (lo ≤ j ∧ j ≤ hi) := by omega
      simp only [hj, hj2, this, if_false]
      rw [← hn, Nat.testBit_div_two_pow, Nat.testBit_div_two_pow]
      congr 1; omega

/-- Reading the field that was set. -/
theorem fld_setFld (w : Word) {hi lo : Nat} (v : Nat) (h1 : lo ≤ hi) (h2 : hi < 32) : fld (setFld w hi lo v) hi lo = v % 2 ^ (hi + 1 - lo) := by
  apply Nat.eq_of_testBit_eq; intro j
  rw [fld, natBits_testBit, setFld_testBit w v _ h1 h2, Nat.testBit_mod_two_pow]
  by_cases hj : j < hi + 1 - lo
  · have : lo ≤ lo + j ∧ lo + j ≤ hi := by omega
    simp [hj, this]
  · simp [hj]

/-- Reading a field that lies apart from the one that was set. -/
theorem fld_setFld_apart (w : Word) {hi lo hi' lo' : Nat} (v : Nat) (h1 : lo ≤ hi) (h2 : hi < 32) (h : hi' < lo ∨ hi < lo') :
    fld (setFld w hi lo v) hi' lo' = fld w hi' lo' := by
  apply Nat.eq_of_testBit_eq; intro j
  rw [fld, fld, natBits_testBit, natBits_testBit, setFld_testBit w v _ h1 h2]
  by_cases hj : j < hi' + 1 - lo'
  · have : ¬ (lo ≤ lo' + j ∧ lo' + j ≤ hi) := by omega
    simp only [this, if_false]
  · simp [hj]

/-- Reading a bit outside the field that was set. -/
theorem tbit_setFld_apart (w : Word) {hi lo : Nat} (v i : Nat) (h1 : lo ≤ hi) (h2 : hi < 32) (h : i < lo ∨ hi < i) : tbit (setFld w hi lo v) i = tbit w i := by
  have : ¬ (lo ≤ i ∧ i ≤ hi) := by omega
  rw [tbit, setFld_testBit w v _ h1 h2, if_neg this, tbit]

/-- Reading the bit that was set. -/
theorem tbit_setBit (w : Word) {i : Nat} (b : Bool) (h : i < 32) : tbit (setBit w i b) i = b := by
  rw [setBit, tbit, setFld_testBit w _ _ (le_refl i) h]; cases b <;> simp

/-- Reading another bit than the one that was set. -/
theorem tbit_setBit_ne (w : Word) {i j : Nat} (b : Bool) (h : i < 32) (hj : j ≠ i) : tbit (setBit w i b) j = tbit w j := by
  rw [setBit]; exact tbit_setFld_apart w _ _ (le_refl i) h (by omega)

/-- Reading a field that does not hold the bit that was set. -/
theorem fld_setBit_apart (w : Word) {i hi lo : Nat} (b : Bool) (h : i < 32) (hj : hi < i ∨ i < lo) : fld (setBit w i b) hi lo = fld w hi lo := by
  rw [setBit]; exact fld_setFld_apart w _ (le_refl i) h hj

/-! ### Arrays -/

theorem getElem?_upd {α : Type} (l : List α) (i j : Nat) (f : α → α) : (upd l i f)[j]? = if j = i then l[j]?.map f else l[j]? := by
  induction l generalizing i j with
  | nil => simp [upd]
  | cons x xs ih =>
    cases i with
    | zero => cases j with
      | zero => simp [upd]
      | succ j => simp [upd]
    | succ i => cases j with
      | zero => simp [upd]
      | succ j => simp [upd, ih]

/-- An element read after one of an array was changed. -/
theorem nth_updN {α : Type} (n : Nat) (x : α) (l : List α) (i j : Nat) (f : α → α) (h : i < n) :
    nth x (updN n x l i f) j = if j = i then f (nth x l j) else nth x l j := by
  have e : nth x (l ++ List.replicate (n - l.length) x) j = nth x l j := by
    simp only [nth, List.getD_eq_getElem?_getD, List.getElem?_append, List.getElem?_replicate]
    split
    · rfl
    · rename_i hj; rw [List.getElem?_eq_none (by omega)]; split <;> rfl
  simp only [updN, nth, List.getD_eq_getElem?_getD, getElem?_upd]
  split
  · subst_vars
    rw [List.getElem?_append]
    split
    · rename_i hj; simp [List.getElem?_eq_getElem hj]
    · rename_i hj
      rw [List.getElem?_replicate, if_pos (by omega), List.getElem?_eq_none (by omega)]; rfl
  · simpa only [nth, List.getD_eq_getElem?_getD] using e

end Sys2Proof.Machine
end

