-- ==== Sys2Proof/Laws/Regs.lean ====
section
/-! SUPPORT. Laws/Regs.lean: the register file: reading after a write, for words, fields and bits, and its canonical form. -/

namespace Sys2Proof.Machine

theorem regRead_regPut (l : List (Nat × Word)) (a b : Nat) (v : Word) : regRead (regPut l a v) b = if b = a then v else regRead l b := by
  induction l with
  | nil => simp [regPut, regRead]
  | cons p r ih =>
    obtain ⟨k, w⟩ := p
    simp only [regPut]
    split
    · simp only [regRead]
    · split
      · subst_vars; simp only [regRead]; split <;> rfl
      · simp only [regRead, ih]
        by_cases h : b = k
        · subst h; simp; intro h; omega
        · simp [h]

theorem regRead_drop (l : List (Nat × Word)) (a b : Nat) :
    regRead (l.filter (fun p => p.1 != a)) b = if b = a then regReset a else regRead l b := by
  induction l with
  | nil => by_cases h : b = a <;> simp [regRead, h]
  | cons p r ih =>
    obtain ⟨k, w⟩ := p
    by_cases hk : k = a
    · subst hk; simp only [List.filter, bne_self_eq_false, ih, regRead]; split <;> rfl
    · have : (k != a) = true := by simpa using hk
      simp only [List.filter, this, regRead, ih]
      by_cases h : b = k
      · subst h; simp [hk]
      · simp [h]

/-- A register read after a register write. -/
theorem regRead_regWrite (l : List (Nat × Word)) (a b : Nat) (v : Word) : regRead (regWrite l a v) b = if b = a then v else regRead l b := by
  unfold regWrite; split
  · rename_i h; rw [regRead_drop]; split <;> simp_all
  · exact regRead_regPut l a b v

/-- A register read after a range was reset. -/
theorem regRead_filter (l : List (Nat × Word)) (p : Nat → Bool) (b : Nat) :
    regRead (l.filter (fun q => p q.1)) b = if p b then regRead l b else regReset b := by
  induction l with
  | nil => simp [regRead]
  | cons q r ih =>
    obtain ⟨k, w⟩ := q
    by_cases hk : p k
    · simp only [List.filter, hk, regRead, ih]
      by_cases h : b = k
      · subst h; simp [hk]
      · simp [h]
    · have hk : p k = false := by simpa using hk
      simp only [List.filter, hk, regRead, ih]
      by_cases h : b = k
      · subst h; simp [hk]
      · simp [h]

variable (d : Dev) (a b : Nat)

theorem Dev.rd_wr (v : Word) : (d.wr a v).rd b = if b = a then v else d.rd b := regRead_regWrite _ _ _ _
@[simp] theorem Dev.rd_wr_same (v : Word) : (d.wr a v).rd a = v := by simp [Dev.rd_wr]
theorem Dev.rd_wr_ne (v : Word) (h : b ≠ a) : (d.wr a v).rd b = d.rd b := by simp [Dev.rd_wr, h]
@[simp] theorem Dev.rd_wrN_same (v : Nat) : (d.wrN a v).rd a = BitVec.ofNat 32 v := by simp [Dev.wrN]
theorem Dev.rd_wrN_ne (v : Nat) (h : b ≠ a) : (d.wrN a v).rd b = d.rd b := Dev.rd_wr_ne _ _ _ _ h
theorem Dev.rd_setB_ne (i : Nat) (v : Bool) (h : b ≠ a) : (d.setB a i v).rd b = d.rd b := Dev.rd_wr_ne _ _ _ _ h
@[simp] theorem Dev.rd_setB_same (i : Nat) (v : Bool) : (d.setB a i v).rd a = setBit (d.rd a) i v := Dev.rd_wr_same _ _ _
theorem Dev.rd_setF_ne (hi lo v : Nat) (h : b ≠ a) : (d.setF a hi lo v).rd b = d.rd b := Dev.rd_wr_ne _ _ _ _ h
theorem Dev.rd_inc_ne (hi lo : Nat) (h : b ≠ a) : (d.inc a hi lo).rd b = d.rd b := Dev.rd_wr_ne _ _ _ _ h

/-- A bit read after it was set. -/
theorem Dev.bit_setB (i : Nat) (v : Bool) (h : i < 32) : (d.setB a i v).bit a i = v := by simp [Dev.bit, tbit_setBit _ _ h]
/-- A field read after it was set. -/
theorem Dev.fld_setF (hi lo v : Nat) (h1 : lo ≤ hi) (h2 : hi < 32) : (d.setF a hi lo v).fld a hi lo = v % 2 ^ (hi + 1 - lo) := by
  simp [Dev.fld, Dev.setF, fld_setFld _ _ h1 h2]

/-- A range returns to its reset values; the rest and what is kept stay. -/
theorem Dev.rd_resetRange (lo hi : Nat) (keep : Nat → Bool) :
    (d.resetRange lo hi keep).rd a = if decide (a < lo) || decide (hi ≤ a) || keep a then d.rd a else regReset a :=
  regRead_filter d.regs (fun x => decide (x < lo) || decide (hi ≤ x) || keep x) a

/-! ### The canonical form of the register list -/

theorem regOkFrom_mono (l : List (Nat × Word)) {m n : Nat} (h : m ≤ n) (hl : regOkFrom n l = true) : regOkFrom m l = true := by
  cases l with
  | nil => rfl
  | cons p r => obtain ⟨k, v⟩ := p; simp only [regOkFrom, Bool.and_eq_true, decide_eq_true_eq] at *; exact ⟨⟨by omega, hl.1.2⟩, hl.2⟩

theorem regOkFrom_regPut (l : List (Nat × Word)) (a : Nat) (v : Word) (hv : v ≠ regReset a) : ∀ lo, lo ≤ a → regOkFrom lo l = true → regOkFrom lo (regPut l a v) = true := by
  induction l with
  | nil => intro lo h _; simp [regPut, regOkFrom, h, hv]
  | cons p r ih =>
    obtain ⟨k, w⟩ := p
    intro lo h hl
    simp only [regOkFrom, Bool.and_eq_true, decide_eq_true_eq, bne_iff_ne] at hl
    simp only [regPut]
    split
    · simp only [regOkFrom, Bool.and_eq_true, decide_eq_true_eq, bne_iff_ne]
      exact ⟨⟨h, hv⟩, ⟨by omega, hl.1.2⟩, hl.2⟩
    · split
      · subst_vars; simp only [regOkFrom, Bool.and_eq_true, decide_eq_true_eq, bne_iff_ne]; exact ⟨⟨h, hv⟩, hl.2⟩
      · simp only [regOkFrom, Bool.and_eq_true, decide_eq_true_eq, bne_iff_ne]
        exact ⟨hl.1, ih (k + 1) (by omega) hl.2⟩

theorem regOkFrom_filter (l : List (Nat × Word)) (p : Nat × Word → Bool) : ∀ lo, regOkFrom lo l = true → regOkFrom lo (l.filter p) = true := by
  induction l with
  | nil => intro lo _; rfl
  | cons q r ih =>
    obtain ⟨k, w⟩ := q
    intro lo hl
    simp only [regOkFrom, Bool.and_eq_true, decide_eq_true_eq, bne_iff_ne] at hl
    simp only [List.filter]
    split
    · simp only [regOkFrom, Bool.and_eq_true, decide_eq_true_eq, bne_iff_ne]; exact ⟨hl.1, ih _ hl.2⟩
    · exact regOkFrom_mono _ (by omega) (ih _ hl.2)

/-- A write keeps the canonical form of the register list. -/
theorem regOkFrom_regWrite (l : List (Nat × Word)) (a : Nat) (v : Word) (h : regOkFrom 0 l = true) : regOkFrom 0 (regWrite l a v) = true := by
  unfold regWrite; split
  · exact regOkFrom_filter _ _ _ h
  · rename_i hv; exact regOkFrom_regPut _ _ _ hv 0 (Nat.zero_le _) h

end Sys2Proof.Machine
end

