-- ==== Sys2Proof/Laws/State.lean ====
section
/-! SUPPORT. Laws/State.lean: one lemma for each field and each shared update of the device and of the state, so that no proof unfolds a record
update. -/

namespace Sys2Proof.Machine

variable (d : Dev)

/-- A request changes the Anvil only. -/
theorem Dev.raise_shape (o : Origin) (x src code : Nat) (data : List (Nat × Nat)) : ∃ q, d.raise o x src code data = { d with anv := q } := by
  unfold Dev.raise
  by_cases h : (!d.accepts) = true
  · exact ⟨d.anv, by rw [if_pos h]⟩
  · rw [if_neg h]
    by_cases h2 : (d.anv.reqs.any fun r => r.src == src && r.arrive == arrivalOf o x) = true
    · exact ⟨d.anv, by rw [if_pos h2]⟩
    · exact ⟨_, by rw [if_neg h2]⟩

/-- A log entry changes the log queue, the log's registers with their noted bits (R9) and the Anvil only. -/
theorem Dev.logPut_shape (x : Nat) (e : LogEntry) : ∃ r k q w, d.logPut x e = { d with regs := r, keep := k, anv := q, hwSet := w } := by
  unfold Dev.logPut
  by_cases h : d.keep.queue.length < 512
  · rw [if_pos h]; exact ⟨d.regs, _, d.anv, d.hwSet, rfl⟩
  · rw [if_neg h]
    by_cases h2 : (!d.bit Reg.LOG_STAT 1) = true
    · simp only [h2, if_true]
      obtain ⟨q, hq⟩ := Dev.raise_shape ((d.inc Reg.LOG_LOST 31 0).setB Reg.LOG_STAT 1 true) .per x 248 0xE100
        [(4, ((d.inc Reg.LOG_LOST 31 0).setB Reg.LOG_STAT 1 true).fld Reg.LOG_LOST 31 0)]
      rw [hq]; exact ⟨_, d.keep, q, _, rfl⟩
    · simp only [h2]; exact ⟨_, d.keep, d.anv, _, rfl⟩

/-- A direct entry changes no more. -/
theorem Dev.logDirect_shape (x cls code : Nat) (data : List (Nat × Nat)) : ∃ r k q w, d.logDirect x cls code data = { d with regs := r, keep := k, anv := q, hwSet := w } := by
  unfold Dev.logDirect
  by_cases h : (!d.keep.alive) = true
  · rw [if_pos h]; exact ⟨d.regs, d.keep, d.anv, d.hwSet, rfl⟩
  · rw [if_neg h]; exact Dev.logPut_shape _ _ _

/-! ### wr -/

@[simp] theorem Dev.wr_time (a : Nat) (v : Word) : (d.wr a v).time = d.time := rfl
@[simp] theorem Dev.wr_frm (a : Nat) (v : Word) : (d.wr a v).frm = d.frm := rfl
@[simp] theorem Dev.wr_anv (a : Nat) (v : Word) : (d.wr a v).anv = d.anv := rfl
@[simp] theorem Dev.wr_img (a : Nat) (v : Word) : (d.wr a v).img = d.img := rfl
@[simp] theorem Dev.wr_hrt (a : Nat) (v : Word) : (d.wr a v).hrt = d.hrt := rfl
@[simp] theorem Dev.wr_plc (a : Nat) (v : Word) : (d.wr a v).plc = d.plc := rfl
@[simp] theorem Dev.wr_lp (a : Nat) (v : Word) : (d.wr a v).lp = d.lp := rfl
@[simp] theorem Dev.wr_sdm (a : Nat) (v : Word) : (d.wr a v).sdm = d.sdm := rfl
@[simp] theorem Dev.wr_adc (a : Nat) (v : Word) : (d.wr a v).adc = d.adc := rfl
@[simp] theorem Dev.wr_cmp (a : Nat) (v : Word) : (d.wr a v).cmp = d.cmp := rfl
@[simp] theorem Dev.wr_enc (a : Nat) (v : Word) : (d.wr a v).enc = d.enc := rfl
@[simp] theorem Dev.wr_mtr (a : Nat) (v : Word) : (d.wr a v).mtr = d.mtr := rfl
@[simp] theorem Dev.wr_pwm (a : Nat) (v : Word) : (d.wr a v).pwm = d.pwm := rfl
@[simp] theorem Dev.wr_gdp (a : Nat) (v : Word) : (d.wr a v).gdp = d.gdp := rfl
@[simp] theorem Dev.wr_saf (a : Nat) (v : Word) : (d.wr a v).saf = d.saf := rfl
@[simp] theorem Dev.wr_keep (a : Nat) (v : Word) : (d.wr a v).keep = d.keep := rfl
@[simp] theorem Dev.wr_rec_ (a : Nat) (v : Word) : (d.wr a v).rec_ = d.rec_ := rfl
@[simp] theorem Dev.wr_twn (a : Nat) (v : Word) : (d.wr a v).twn = d.twn := rfl
@[simp] theorem Dev.wr_lnk (a : Nat) (v : Word) : (d.wr a v).lnk = d.lnk := rfl
@[simp] theorem Dev.wr_eth (a : Nat) (v : Word) : (d.wr a v).eth = d.eth := rfl
@[simp] theorem Dev.wr_clk (a : Nat) (v : Word) : (d.wr a v).clk = d.clk := rfl
@[simp] theorem Dev.wr_tmp (a : Nat) (v : Word) : (d.wr a v).tmp = d.tmp := rfl
@[simp] theorem Dev.wr_sec (a : Nat) (v : Word) : (d.wr a v).sec = d.sec := rfl
@[simp] theorem Dev.wr_cpu (a : Nat) (v : Word) : (d.wr a v).cpu = d.cpu := rfl
@[simp] theorem Dev.wr_sys (a : Nat) (v : Word) : (d.wr a v).sys = d.sys := rfl
@[simp] theorem Dev.wr_sent (a : Nat) (v : Word) : (d.wr a v).sent = d.sent := rfl
@[simp] theorem Dev.wr_ethOut (a : Nat) (v : Word) : (d.wr a v).ethOut = d.ethOut := rfl
@[simp] theorem Dev.wr_uartOut (a : Nat) (v : Word) : (d.wr a v).uartOut = d.uartOut := rfl
@[simp] theorem Dev.wr_hwSet (a : Nat) (v : Word) : (d.wr a v).hwSet = d.hwSet := rfl
@[simp] theorem Dev.wr_busError (a : Nat) (v : Word) : (d.wr a v).busError = d.busError := rfl
@[simp] theorem Dev.wr_answer (a : Nat) (v : Word) : (d.wr a v).answer = d.answer := rfl
@[simp] theorem Dev.wr_free (a : Nat) (v : Word) : (d.wr a v).free = d.free := rfl

/-! ### wrN -/

@[simp] theorem Dev.wrN_time (a v : Nat) : (d.wrN a v).time = d.time := rfl
@[simp] theorem Dev.wrN_frm (a v : Nat) : (d.wrN a v).frm = d.frm := rfl
@[simp] theorem Dev.wrN_anv (a v : Nat) : (d.wrN a v).anv = d.anv := rfl
@[simp] theorem Dev.wrN_img (a v : Nat) : (d.wrN a v).img = d.img := rfl
@[simp] theorem Dev.wrN_hrt (a v : Nat) : (d.wrN a v).hrt = d.hrt := rfl
@[simp] theorem Dev.wrN_plc (a v : Nat) : (d.wrN a v).plc = d.plc := rfl
@[simp] theorem Dev.wrN_lp (a v : Nat) : (d.wrN a v).lp = d.lp := rfl
@[simp] theorem Dev.wrN_sdm (a v : Nat) : (d.wrN a v).sdm = d.sdm := rfl
@[simp] theorem Dev.wrN_adc (a v : Nat) : (d.wrN a v).adc = d.adc := rfl
@[simp] theorem Dev.wrN_cmp (a v : Nat) : (d.wrN a v).cmp = d.cmp := rfl
@[simp] theorem Dev.wrN_enc (a v : Nat) : (d.wrN a v).enc = d.enc := rfl
@[simp] theorem Dev.wrN_mtr (a v : Nat) : (d.wrN a v).mtr = d.mtr := rfl
@[simp] theorem Dev.wrN_pwm (a v : Nat) : (d.wrN a v).pwm = d.pwm := rfl
@[simp] theorem Dev.wrN_gdp (a v : Nat) : (d.wrN a v).gdp = d.gdp := rfl
@[simp] theorem Dev.wrN_saf (a v : Nat) : (d.wrN a v).saf = d.saf := rfl
@[simp] theorem Dev.wrN_keep (a v : Nat) : (d.wrN a v).keep = d.keep := rfl
@[simp] theorem Dev.wrN_rec_ (a v : Nat) : (d.wrN a v).rec_ = d.rec_ := rfl
@[simp] theorem Dev.wrN_twn (a v : Nat) : (d.wrN a v).twn = d.twn := rfl
@[simp] theorem Dev.wrN_lnk (a v : Nat) : (d.wrN a v).lnk = d.lnk := rfl
@[simp] theorem Dev.wrN_eth (a v : Nat) : (d.wrN a v).eth = d.eth := rfl
@[simp] theorem Dev.wrN_clk (a v : Nat) : (d.wrN a v).clk = d.clk := rfl
@[simp] theorem Dev.wrN_tmp (a v : Nat) : (d.wrN a v).tmp = d.tmp := rfl
@[simp] theorem Dev.wrN_sec (a v : Nat) : (d.wrN a v).sec = d.sec := rfl
@[simp] theorem Dev.wrN_cpu (a v : Nat) : (d.wrN a v).cpu = d.cpu := rfl
@[simp] theorem Dev.wrN_sys (a v : Nat) : (d.wrN a v).sys = d.sys := rfl
@[simp] theorem Dev.wrN_sent (a v : Nat) : (d.wrN a v).sent = d.sent := rfl
@[simp] theorem Dev.wrN_ethOut (a v : Nat) : (d.wrN a v).ethOut = d.ethOut := rfl
@[simp] theorem Dev.wrN_uartOut (a v : Nat) : (d.wrN a v).uartOut = d.uartOut := rfl
@[simp] theorem Dev.wrN_hwSet (a v : Nat) : (d.wrN a v).hwSet = d.hwSet := rfl
@[simp] theorem Dev.wrN_busError (a v : Nat) : (d.wrN a v).busError = d.busError := rfl
@[simp] theorem Dev.wrN_answer (a v : Nat) : (d.wrN a v).answer = d.answer := rfl
@[simp] theorem Dev.wrN_free (a v : Nat) : (d.wrN a v).free = d.free := rfl

/-! ### setF -/

@[simp] theorem Dev.setF_time (a hi lo v : Nat) : (d.setF a hi lo v).time = d.time := rfl
@[simp] theorem Dev.setF_frm (a hi lo v : Nat) : (d.setF a hi lo v).frm = d.frm := rfl
@[simp] theorem Dev.setF_anv (a hi lo v : Nat) : (d.setF a hi lo v).anv = d.anv := rfl
@[simp] theorem Dev.setF_img (a hi lo v : Nat) : (d.setF a hi lo v).img = d.img := rfl
@[simp] theorem Dev.setF_hrt (a hi lo v : Nat) : (d.setF a hi lo v).hrt = d.hrt := rfl
@[simp] theorem Dev.setF_plc (a hi lo v : Nat) : (d.setF a hi lo v).plc = d.plc := rfl
@[simp] theorem Dev.setF_lp (a hi lo v : Nat) : (d.setF a hi lo v).lp = d.lp := rfl
@[simp] theorem Dev.setF_sdm (a hi lo v : Nat) : (d.setF a hi lo v).sdm = d.sdm := rfl
@[simp] theorem Dev.setF_adc (a hi lo v : Nat) : (d.setF a hi lo v).adc = d.adc := rfl
@[simp] theorem Dev.setF_cmp (a hi lo v : Nat) : (d.setF a hi lo v).cmp = d.cmp := rfl
@[simp] theorem Dev.setF_enc (a hi lo v : Nat) : (d.setF a hi lo v).enc = d.enc := rfl
@[simp] theorem Dev.setF_mtr (a hi lo v : Nat) : (d.setF a hi lo v).mtr = d.mtr := rfl
@[simp] theorem Dev.setF_pwm (a hi lo v : Nat) : (d.setF a hi lo v).pwm = d.pwm := rfl
@[simp] theorem Dev.setF_gdp (a hi lo v : Nat) : (d.setF a hi lo v).gdp = d.gdp := rfl
@[simp] theorem Dev.setF_saf (a hi lo v : Nat) : (d.setF a hi lo v).saf = d.saf := rfl
@[simp] theorem Dev.setF_keep (a hi lo v : Nat) : (d.setF a hi lo v).keep = d.keep := rfl
@[simp] theorem Dev.setF_rec_ (a hi lo v : Nat) : (d.setF a hi lo v).rec_ = d.rec_ := rfl
@[simp] theorem Dev.setF_twn (a hi lo v : Nat) : (d.setF a hi lo v).twn = d.twn := rfl
@[simp] theorem Dev.setF_lnk (a hi lo v : Nat) : (d.setF a hi lo v).lnk = d.lnk := rfl
@[simp] theorem Dev.setF_eth (a hi lo v : Nat) : (d.setF a hi lo v).eth = d.eth := rfl
@[simp] theorem Dev.setF_clk (a hi lo v : Nat) : (d.setF a hi lo v).clk = d.clk := rfl
@[simp] theorem Dev.setF_tmp (a hi lo v : Nat) : (d.setF a hi lo v).tmp = d.tmp := rfl
@[simp] theorem Dev.setF_sec (a hi lo v : Nat) : (d.setF a hi lo v).sec = d.sec := rfl
@[simp] theorem Dev.setF_cpu (a hi lo v : Nat) : (d.setF a hi lo v).cpu = d.cpu := rfl
@[simp] theorem Dev.setF_sys (a hi lo v : Nat) : (d.setF a hi lo v).sys = d.sys := rfl
@[simp] theorem Dev.setF_sent (a hi lo v : Nat) : (d.setF a hi lo v).sent = d.sent := rfl
@[simp] theorem Dev.setF_ethOut (a hi lo v : Nat) : (d.setF a hi lo v).ethOut = d.ethOut := rfl
@[simp] theorem Dev.setF_uartOut (a hi lo v : Nat) : (d.setF a hi lo v).uartOut = d.uartOut := rfl
@[simp] theorem Dev.setF_hwSet (a hi lo v : Nat) : (d.setF a hi lo v).hwSet = d.hwSet := rfl
@[simp] theorem Dev.setF_busError (a hi lo v : Nat) : (d.setF a hi lo v).busError = d.busError := rfl
@[simp] theorem Dev.setF_answer (a hi lo v : Nat) : (d.setF a hi lo v).answer = d.answer := rfl
@[simp] theorem Dev.setF_free (a hi lo v : Nat) : (d.setF a hi lo v).free = d.free := rfl

/-! ### setB -/

@[simp] theorem Dev.setB_time (a i : Nat) (b : Bool) : (d.setB a i b).time = d.time := rfl
@[simp] theorem Dev.setB_frm (a i : Nat) (b : Bool) : (d.setB a i b).frm = d.frm := rfl
@[simp] theorem Dev.setB_anv (a i : Nat) (b : Bool) : (d.setB a i b).anv = d.anv := rfl
@[simp] theorem Dev.setB_img (a i : Nat) (b : Bool) : (d.setB a i b).img = d.img := rfl
@[simp] theorem Dev.setB_hrt (a i : Nat) (b : Bool) : (d.setB a i b).hrt = d.hrt := rfl
@[simp] theorem Dev.setB_plc (a i : Nat) (b : Bool) : (d.setB a i b).plc = d.plc := rfl
@[simp] theorem Dev.setB_lp (a i : Nat) (b : Bool) : (d.setB a i b).lp = d.lp := rfl
@[simp] theorem Dev.setB_sdm (a i : Nat) (b : Bool) : (d.setB a i b).sdm = d.sdm := rfl
@[simp] theorem Dev.setB_adc (a i : Nat) (b : Bool) : (d.setB a i b).adc = d.adc := rfl
@[simp] theorem Dev.setB_cmp (a i : Nat) (b : Bool) : (d.setB a i b).cmp = d.cmp := rfl
@[simp] theorem Dev.setB_enc (a i : Nat) (b : Bool) : (d.setB a i b).enc = d.enc := rfl
@[simp] theorem Dev.setB_mtr (a i : Nat) (b : Bool) : (d.setB a i b).mtr = d.mtr := rfl
@[simp] theorem Dev.setB_pwm (a i : Nat) (b : Bool) : (d.setB a i b).pwm = d.pwm := rfl
@[simp] theorem Dev.setB_gdp (a i : Nat) (b : Bool) : (d.setB a i b).gdp = d.gdp := rfl
@[simp] theorem Dev.setB_saf (a i : Nat) (b : Bool) : (d.setB a i b).saf = d.saf := rfl
@[simp] theorem Dev.setB_keep (a i : Nat) (b : Bool) : (d.setB a i b).keep = d.keep := rfl
@[simp] theorem Dev.setB_rec_ (a i : Nat) (b : Bool) : (d.setB a i b).rec_ = d.rec_ := rfl
@[simp] theorem Dev.setB_twn (a i : Nat) (b : Bool) : (d.setB a i b).twn = d.twn := rfl
@[simp] theorem Dev.setB_lnk (a i : Nat) (b : Bool) : (d.setB a i b).lnk = d.lnk := rfl
@[simp] theorem Dev.setB_eth (a i : Nat) (b : Bool) : (d.setB a i b).eth = d.eth := rfl
@[simp] theorem Dev.setB_clk (a i : Nat) (b : Bool) : (d.setB a i b).clk = d.clk := rfl
@[simp] theorem Dev.setB_tmp (a i : Nat) (b : Bool) : (d.setB a i b).tmp = d.tmp := rfl
@[simp] theorem Dev.setB_sec (a i : Nat) (b : Bool) : (d.setB a i b).sec = d.sec := rfl
@[simp] theorem Dev.setB_cpu (a i : Nat) (b : Bool) : (d.setB a i b).cpu = d.cpu := rfl
@[simp] theorem Dev.setB_sys (a i : Nat) (b : Bool) : (d.setB a i b).sys = d.sys := rfl
@[simp] theorem Dev.setB_sent (a i : Nat) (b : Bool) : (d.setB a i b).sent = d.sent := rfl
@[simp] theorem Dev.setB_ethOut (a i : Nat) (b : Bool) : (d.setB a i b).ethOut = d.ethOut := rfl
@[simp] theorem Dev.setB_uartOut (a i : Nat) (b : Bool) : (d.setB a i b).uartOut = d.uartOut := rfl
@[simp] theorem Dev.setB_busError (a i : Nat) (b : Bool) : (d.setB a i b).busError = d.busError := rfl
@[simp] theorem Dev.setB_answer (a i : Nat) (b : Bool) : (d.setB a i b).answer = d.answer := rfl
@[simp] theorem Dev.setB_free (a i : Nat) (b : Bool) : (d.setB a i b).free = d.free := rfl

/-! ### inc -/

@[simp] theorem Dev.inc_time (a hi lo : Nat) : (d.inc a hi lo).time = d.time := rfl
@[simp] theorem Dev.inc_frm (a hi lo : Nat) : (d.inc a hi lo).frm = d.frm := rfl
@[simp] theorem Dev.inc_anv (a hi lo : Nat) : (d.inc a hi lo).anv = d.anv := rfl
@[simp] theorem Dev.inc_img (a hi lo : Nat) : (d.inc a hi lo).img = d.img := rfl
@[simp] theorem Dev.inc_hrt (a hi lo : Nat) : (d.inc a hi lo).hrt = d.hrt := rfl
@[simp] theorem Dev.inc_plc (a hi lo : Nat) : (d.inc a hi lo).plc = d.plc := rfl
@[simp] theorem Dev.inc_lp (a hi lo : Nat) : (d.inc a hi lo).lp = d.lp := rfl
@[simp] theorem Dev.inc_sdm (a hi lo : Nat) : (d.inc a hi lo).sdm = d.sdm := rfl
@[simp] theorem Dev.inc_adc (a hi lo : Nat) : (d.inc a hi lo).adc = d.adc := rfl
@[simp] theorem Dev.inc_cmp (a hi lo : Nat) : (d.inc a hi lo).cmp = d.cmp := rfl
@[simp] theorem Dev.inc_enc (a hi lo : Nat) : (d.inc a hi lo).enc = d.enc := rfl
@[simp] theorem Dev.inc_mtr (a hi lo : Nat) : (d.inc a hi lo).mtr = d.mtr := rfl
@[simp] theorem Dev.inc_pwm (a hi lo : Nat) : (d.inc a hi lo).pwm = d.pwm := rfl
@[simp] theorem Dev.inc_gdp (a hi lo : Nat) : (d.inc a hi lo).gdp = d.gdp := rfl
@[simp] theorem Dev.inc_saf (a hi lo : Nat) : (d.inc a hi lo).saf = d.saf := rfl
@[simp] theorem Dev.inc_keep (a hi lo : Nat) : (d.inc a hi lo).keep = d.keep := rfl
@[simp] theorem Dev.inc_rec_ (a hi lo : Nat) : (d.inc a hi lo).rec_ = d.rec_ := rfl
@[simp] theorem Dev.inc_twn (a hi lo : Nat) : (d.inc a hi lo).twn = d.twn := rfl
@[simp] theorem Dev.inc_lnk (a hi lo : Nat) : (d.inc a hi lo).lnk = d.lnk := rfl
@[simp] theorem Dev.inc_eth (a hi lo : Nat) : (d.inc a hi lo).eth = d.eth := rfl
@[simp] theorem Dev.inc_clk (a hi lo : Nat) : (d.inc a hi lo).clk = d.clk := rfl
@[simp] theorem Dev.inc_tmp (a hi lo : Nat) : (d.inc a hi lo).tmp = d.tmp := rfl
@[simp] theorem Dev.inc_sec (a hi lo : Nat) : (d.inc a hi lo).sec = d.sec := rfl
@[simp] theorem Dev.inc_cpu (a hi lo : Nat) : (d.inc a hi lo).cpu = d.cpu := rfl
@[simp] theorem Dev.inc_sys (a hi lo : Nat) : (d.inc a hi lo).sys = d.sys := rfl
@[simp] theorem Dev.inc_sent (a hi lo : Nat) : (d.inc a hi lo).sent = d.sent := rfl
@[simp] theorem Dev.inc_ethOut (a hi lo : Nat) : (d.inc a hi lo).ethOut = d.ethOut := rfl
@[simp] theorem Dev.inc_uartOut (a hi lo : Nat) : (d.inc a hi lo).uartOut = d.uartOut := rfl
@[simp] theorem Dev.inc_hwSet (a hi lo : Nat) : (d.inc a hi lo).hwSet = d.hwSet := rfl
@[simp] theorem Dev.inc_busError (a hi lo : Nat) : (d.inc a hi lo).busError = d.busError := rfl
@[simp] theorem Dev.inc_answer (a hi lo : Nat) : (d.inc a hi lo).answer = d.answer := rfl
@[simp] theorem Dev.inc_free (a hi lo : Nat) : (d.inc a hi lo).free = d.free := rfl

/-! ### incWrap -/

@[simp] theorem Dev.incWrap_time (a hi lo : Nat) : (d.incWrap a hi lo).time = d.time := rfl
@[simp] theorem Dev.incWrap_frm (a hi lo : Nat) : (d.incWrap a hi lo).frm = d.frm := rfl
@[simp] theorem Dev.incWrap_anv (a hi lo : Nat) : (d.incWrap a hi lo).anv = d.anv := rfl
@[simp] theorem Dev.incWrap_img (a hi lo : Nat) : (d.incWrap a hi lo).img = d.img := rfl
@[simp] theorem Dev.incWrap_hrt (a hi lo : Nat) : (d.incWrap a hi lo).hrt = d.hrt := rfl
@[simp] theorem Dev.incWrap_plc (a hi lo : Nat) : (d.incWrap a hi lo).plc = d.plc := rfl
@[simp] theorem Dev.incWrap_lp (a hi lo : Nat) : (d.incWrap a hi lo).lp = d.lp := rfl
@[simp] theorem Dev.incWrap_sdm (a hi lo : Nat) : (d.incWrap a hi lo).sdm = d.sdm := rfl
@[simp] theorem Dev.incWrap_adc (a hi lo : Nat) : (d.incWrap a hi lo).adc = d.adc := rfl
@[simp] theorem Dev.incWrap_cmp (a hi lo : Nat) : (d.incWrap a hi lo).cmp = d.cmp := rfl
@[simp] theorem Dev.incWrap_enc (a hi lo : Nat) : (d.incWrap a hi lo).enc = d.enc := rfl
@[simp] theorem Dev.incWrap_mtr (a hi lo : Nat) : (d.incWrap a hi lo).mtr = d.mtr := rfl
@[simp] theorem Dev.incWrap_pwm (a hi lo : Nat) : (d.incWrap a hi lo).pwm = d.pwm := rfl
@[simp] theorem Dev.incWrap_gdp (a hi lo : Nat) : (d.incWrap a hi lo).gdp = d.gdp := rfl
@[simp] theorem Dev.incWrap_saf (a hi lo : Nat) : (d.incWrap a hi lo).saf = d.saf := rfl
@[simp] theorem Dev.incWrap_keep (a hi lo : Nat) : (d.incWrap a hi lo).keep = d.keep := rfl
@[simp] theorem Dev.incWrap_rec_ (a hi lo : Nat) : (d.incWrap a hi lo).rec_ = d.rec_ := rfl
@[simp] theorem Dev.incWrap_twn (a hi lo : Nat) : (d.incWrap a hi lo).twn = d.twn := rfl
@[simp] theorem Dev.incWrap_lnk (a hi lo : Nat) : (d.incWrap a hi lo).lnk = d.lnk := rfl
@[simp] theorem Dev.incWrap_eth (a hi lo : Nat) : (d.incWrap a hi lo).eth = d.eth := rfl
@[simp] theorem Dev.incWrap_clk (a hi lo : Nat) : (d.incWrap a hi lo).clk = d.clk := rfl
@[simp] theorem Dev.incWrap_tmp (a hi lo : Nat) : (d.incWrap a hi lo).tmp = d.tmp := rfl
@[simp] theorem Dev.incWrap_sec (a hi lo : Nat) : (d.incWrap a hi lo).sec = d.sec := rfl
@[simp] theorem Dev.incWrap_cpu (a hi lo : Nat) : (d.incWrap a hi lo).cpu = d.cpu := rfl
@[simp] theorem Dev.incWrap_sys (a hi lo : Nat) : (d.incWrap a hi lo).sys = d.sys := rfl
@[simp] theorem Dev.incWrap_sent (a hi lo : Nat) : (d.incWrap a hi lo).sent = d.sent := rfl
@[simp] theorem Dev.incWrap_ethOut (a hi lo : Nat) : (d.incWrap a hi lo).ethOut = d.ethOut := rfl
@[simp] theorem Dev.incWrap_uartOut (a hi lo : Nat) : (d.incWrap a hi lo).uartOut = d.uartOut := rfl
@[simp] theorem Dev.incWrap_hwSet (a hi lo : Nat) : (d.incWrap a hi lo).hwSet = d.hwSet := rfl
@[simp] theorem Dev.incWrap_busError (a hi lo : Nat) : (d.incWrap a hi lo).busError = d.busError := rfl
@[simp] theorem Dev.incWrap_answer (a hi lo : Nat) : (d.incWrap a hi lo).answer = d.answer := rfl
@[simp] theorem Dev.incWrap_free (a hi lo : Nat) : (d.incWrap a hi lo).free = d.free := rfl

/-! ### wr64 -/

@[simp] theorem Dev.wr64_time (lo hi v : Nat) : (d.wr64 lo hi v).time = d.time := rfl
@[simp] theorem Dev.wr64_frm (lo hi v : Nat) : (d.wr64 lo hi v).frm = d.frm := rfl
@[simp] theorem Dev.wr64_anv (lo hi v : Nat) : (d.wr64 lo hi v).anv = d.anv := rfl
@[simp] theorem Dev.wr64_img (lo hi v : Nat) : (d.wr64 lo hi v).img = d.img := rfl
@[simp] theorem Dev.wr64_hrt (lo hi v : Nat) : (d.wr64 lo hi v).hrt = d.hrt := rfl
@[simp] theorem Dev.wr64_plc (lo hi v : Nat) : (d.wr64 lo hi v).plc = d.plc := rfl
@[simp] theorem Dev.wr64_lp (lo hi v : Nat) : (d.wr64 lo hi v).lp = d.lp := rfl
@[simp] theorem Dev.wr64_sdm (lo hi v : Nat) : (d.wr64 lo hi v).sdm = d.sdm := rfl
@[simp] theorem Dev.wr64_adc (lo hi v : Nat) : (d.wr64 lo hi v).adc = d.adc := rfl
@[simp] theorem Dev.wr64_cmp (lo hi v : Nat) : (d.wr64 lo hi v).cmp = d.cmp := rfl
@[simp] theorem Dev.wr64_enc (lo hi v : Nat) : (d.wr64 lo hi v).enc = d.enc := rfl
@[simp] theorem Dev.wr64_mtr (lo hi v : Nat) : (d.wr64 lo hi v).mtr = d.mtr := rfl
@[simp] theorem Dev.wr64_pwm (lo hi v : Nat) : (d.wr64 lo hi v).pwm = d.pwm := rfl
@[simp] theorem Dev.wr64_gdp (lo hi v : Nat) : (d.wr64 lo hi v).gdp = d.gdp := rfl
@[simp] theorem Dev.wr64_saf (lo hi v : Nat) : (d.wr64 lo hi v).saf = d.saf := rfl
@[simp] theorem Dev.wr64_keep (lo hi v : Nat) : (d.wr64 lo hi v).keep = d.keep := rfl
@[simp] theorem Dev.wr64_rec_ (lo hi v : Nat) : (d.wr64 lo hi v).rec_ = d.rec_ := rfl
@[simp] theorem Dev.wr64_twn (lo hi v : Nat) : (d.wr64 lo hi v).twn = d.twn := rfl
@[simp] theorem Dev.wr64_lnk (lo hi v : Nat) : (d.wr64 lo hi v).lnk = d.lnk := rfl
@[simp] theorem Dev.wr64_eth (lo hi v : Nat) : (d.wr64 lo hi v).eth = d.eth := rfl
@[simp] theorem Dev.wr64_clk (lo hi v : Nat) : (d.wr64 lo hi v).clk = d.clk := rfl
@[simp] theorem Dev.wr64_tmp (lo hi v : Nat) : (d.wr64 lo hi v).tmp = d.tmp := rfl
@[simp] theorem Dev.wr64_sec (lo hi v : Nat) : (d.wr64 lo hi v).sec = d.sec := rfl
@[simp] theorem Dev.wr64_cpu (lo hi v : Nat) : (d.wr64 lo hi v).cpu = d.cpu := rfl
@[simp] theorem Dev.wr64_sys (lo hi v : Nat) : (d.wr64 lo hi v).sys = d.sys := rfl
@[simp] theorem Dev.wr64_sent (lo hi v : Nat) : (d.wr64 lo hi v).sent = d.sent := rfl
@[simp] theorem Dev.wr64_ethOut (lo hi v : Nat) : (d.wr64 lo hi v).ethOut = d.ethOut := rfl
@[simp] theorem Dev.wr64_uartOut (lo hi v : Nat) : (d.wr64 lo hi v).uartOut = d.uartOut := rfl
@[simp] theorem Dev.wr64_hwSet (lo hi v : Nat) : (d.wr64 lo hi v).hwSet = d.hwSet := rfl
@[simp] theorem Dev.wr64_busError (lo hi v : Nat) : (d.wr64 lo hi v).busError = d.busError := rfl
@[simp] theorem Dev.wr64_answer (lo hi v : Nat) : (d.wr64 lo hi v).answer = d.answer := rfl
@[simp] theorem Dev.wr64_free (lo hi v : Nat) : (d.wr64 lo hi v).free = d.free := rfl

/-! ### resetRange -/

@[simp] theorem Dev.resetRange_time (lo hi : Nat) (k : Nat → Bool) : (d.resetRange lo hi k).time = d.time := rfl
@[simp] theorem Dev.resetRange_frm (lo hi : Nat) (k : Nat → Bool) : (d.resetRange lo hi k).frm = d.frm := rfl
@[simp] theorem Dev.resetRange_anv (lo hi : Nat) (k : Nat → Bool) : (d.resetRange lo hi k).anv = d.anv := rfl
@[simp] theorem Dev.resetRange_img (lo hi : Nat) (k : Nat → Bool) : (d.resetRange lo hi k).img = d.img := rfl
@[simp] theorem Dev.resetRange_hrt (lo hi : Nat) (k : Nat → Bool) : (d.resetRange lo hi k).hrt = d.hrt := rfl
@[simp] theorem Dev.resetRange_plc (lo hi : Nat) (k : Nat → Bool) : (d.resetRange lo hi k).plc = d.plc := rfl
@[simp] theorem Dev.resetRange_lp (lo hi : Nat) (k : Nat → Bool) : (d.resetRange lo hi k).lp = d.lp := rfl
@[simp] theorem Dev.resetRange_sdm (lo hi : Nat) (k : Nat → Bool) : (d.resetRange lo hi k).sdm = d.sdm := rfl
@[simp] theorem Dev.resetRange_adc (lo hi : Nat) (k : Nat → Bool) : (d.resetRange lo hi k).adc = d.adc := rfl
@[simp] theorem Dev.resetRange_cmp (lo hi : Nat) (k : Nat → Bool) : (d.resetRange lo hi k).cmp = d.cmp := rfl
@[simp] theorem Dev.resetRange_enc (lo hi : Nat) (k : Nat → Bool) : (d.resetRange lo hi k).enc = d.enc := rfl
@[simp] theorem Dev.resetRange_mtr (lo hi : Nat) (k : Nat → Bool) : (d.resetRange lo hi k).mtr = d.mtr := rfl
@[simp] theorem Dev.resetRange_pwm (lo hi : Nat) (k : Nat → Bool) : (d.resetRange lo hi k).pwm = d.pwm := rfl
@[simp] theorem Dev.resetRange_gdp (lo hi : Nat) (k : Nat → Bool) : (d.resetRange lo hi k).gdp = d.gdp := rfl
@[simp] theorem Dev.resetRange_saf (lo hi : Nat) (k : Nat → Bool) : (d.resetRange lo hi k).saf = d.saf := rfl
@[simp] theorem Dev.resetRange_keep (lo hi : Nat) (k : Nat → Bool) : (d.resetRange lo hi k).keep = d.keep := rfl
@[simp] theorem Dev.resetRange_rec_ (lo hi : Nat) (k : Nat → Bool) : (d.resetRange lo hi k).rec_ = d.rec_ := rfl
@[simp] theorem Dev.resetRange_twn (lo hi : Nat) (k : Nat → Bool) : (d.resetRange lo hi k).twn = d.twn := rfl
@[simp] theorem Dev.resetRange_lnk (lo hi : Nat) (k : Nat → Bool) : (d.resetRange lo hi k).lnk = d.lnk := rfl
@[simp] theorem Dev.resetRange_eth (lo hi : Nat) (k : Nat → Bool) : (d.resetRange lo hi k).eth = d.eth := rfl
@[simp] theorem Dev.resetRange_clk (lo hi : Nat) (k : Nat → Bool) : (d.resetRange lo hi k).clk = d.clk := rfl
@[simp] theorem Dev.resetRange_tmp (lo hi : Nat) (k : Nat → Bool) : (d.resetRange lo hi k).tmp = d.tmp := rfl
@[simp] theorem Dev.resetRange_sec (lo hi : Nat) (k : Nat → Bool) : (d.resetRange lo hi k).sec = d.sec := rfl
@[simp] theorem Dev.resetRange_cpu (lo hi : Nat) (k : Nat → Bool) : (d.resetRange lo hi k).cpu = d.cpu := rfl
@[simp] theorem Dev.resetRange_sys (lo hi : Nat) (k : Nat → Bool) : (d.resetRange lo hi k).sys = d.sys := rfl
@[simp] theorem Dev.resetRange_sent (lo hi : Nat) (k : Nat → Bool) : (d.resetRange lo hi k).sent = d.sent := rfl
@[simp] theorem Dev.resetRange_ethOut (lo hi : Nat) (k : Nat → Bool) : (d.resetRange lo hi k).ethOut = d.ethOut := rfl
@[simp] theorem Dev.resetRange_uartOut (lo hi : Nat) (k : Nat → Bool) : (d.resetRange lo hi k).uartOut = d.uartOut := rfl
@[simp] theorem Dev.resetRange_hwSet (lo hi : Nat) (k : Nat → Bool) : (d.resetRange lo hi k).hwSet = d.hwSet := rfl
@[simp] theorem Dev.resetRange_busError (lo hi : Nat) (k : Nat → Bool) : (d.resetRange lo hi k).busError = d.busError := rfl
@[simp] theorem Dev.resetRange_answer (lo hi : Nat) (k : Nat → Bool) : (d.resetRange lo hi k).answer = d.answer := rfl
@[simp] theorem Dev.resetRange_free (lo hi : Nat) (k : Nat → Bool) : (d.resetRange lo hi k).free = d.free := rfl

/-! ### raise -/

@[simp] theorem Dev.raise_regs (o : Origin) (x src code : Nat) (data : List (Nat × Nat)) : (d.raise o x src code data).regs = d.regs := by
  obtain ⟨q, h⟩ := Dev.raise_shape d o x src code data; rw [h]
@[simp] theorem Dev.raise_time (o : Origin) (x src code : Nat) (data : List (Nat × Nat)) : (d.raise o x src code data).time = d.time := by
  obtain ⟨q, h⟩ := Dev.raise_shape d o x src code data; rw [h]
@[simp] theorem Dev.raise_frm (o : Origin) (x src code : Nat) (data : List (Nat × Nat)) : (d.raise o x src code data).frm = d.frm := by
  obtain ⟨q, h⟩ := Dev.raise_shape d o x src code data; rw [h]
@[simp] theorem Dev.raise_img (o : Origin) (x src code : Nat) (data : List (Nat × Nat)) : (d.raise o x src code data).img = d.img := by
  obtain ⟨q, h⟩ := Dev.raise_shape d o x src code data; rw [h]
@[simp] theorem Dev.raise_hrt (o : Origin) (x src code : Nat) (data : List (Nat × Nat)) : (d.raise o x src code data).hrt = d.hrt := by
  obtain ⟨q, h⟩ := Dev.raise_shape d o x src code data; rw [h]
@[simp] theorem Dev.raise_plc (o : Origin) (x src code : Nat) (data : List (Nat × Nat)) : (d.raise o x src code data).plc = d.plc := by
  obtain ⟨q, h⟩ := Dev.raise_shape d o x src code data; rw [h]
@[simp] theorem Dev.raise_lp (o : Origin) (x src code : Nat) (data : List (Nat × Nat)) : (d.raise o x src code data).lp = d.lp := by
  obtain ⟨q, h⟩ := Dev.raise_shape d o x src code data; rw [h]
@[simp] theorem Dev.raise_sdm (o : Origin) (x src code : Nat) (data : List (Nat × Nat)) : (d.raise o x src code data).sdm = d.sdm := by
  obtain ⟨q, h⟩ := Dev.raise_shape d o x src code data; rw [h]
@[simp] theorem Dev.raise_adc (o : Origin) (x src code : Nat) (data : List (Nat × Nat)) : (d.raise o x src code data).adc = d.adc := by
  obtain ⟨q, h⟩ := Dev.raise_shape d o x src code data; rw [h]
@[simp] theorem Dev.raise_cmp (o : Origin) (x src code : Nat) (data : List (Nat × Nat)) : (d.raise o x src code data).cmp = d.cmp := by
  obtain ⟨q, h⟩ := Dev.raise_shape d o x src code data; rw [h]
@[simp] theorem Dev.raise_enc (o : Origin) (x src code : Nat) (data : List (Nat × Nat)) : (d.raise o x src code data).enc = d.enc := by
  obtain ⟨q, h⟩ := Dev.raise_shape d o x src code data; rw [h]
@[simp] theorem Dev.raise_mtr (o : Origin) (x src code : Nat) (data : List (Nat × Nat)) : (d.raise o x src code data).mtr = d.mtr := by
  obtain ⟨q, h⟩ := Dev.raise_shape d o x src code data; rw [h]
@[simp] theorem Dev.raise_pwm (o : Origin) (x src code : Nat) (data : List (Nat × Nat)) : (d.raise o x src code data).pwm = d.pwm := by
  obtain ⟨q, h⟩ := Dev.raise_shape d o x src code data; rw [h]
@[simp] theorem Dev.raise_gdp (o : Origin) (x src code : Nat) (data : List (Nat × Nat)) : (d.raise o x src code data).gdp = d.gdp := by
  obtain ⟨q, h⟩ := Dev.raise_shape d o x src code data; rw [h]
@[simp] theorem Dev.raise_saf (o : Origin) (x src code : Nat) (data : List (Nat × Nat)) : (d.raise o x src code data).saf = d.saf := by
  obtain ⟨q, h⟩ := Dev.raise_shape d o x src code data; rw [h]
@[simp] theorem Dev.raise_keep (o : Origin) (x src code : Nat) (data : List (Nat × Nat)) : (d.raise o x src code data).keep = d.keep := by
  obtain ⟨q, h⟩ := Dev.raise_shape d o x src code data; rw [h]
@[simp] theorem Dev.raise_rec_ (o : Origin) (x src code : Nat) (data : List (Nat × Nat)) : (d.raise o x src code data).rec_ = d.rec_ := by
  obtain ⟨q, h⟩ := Dev.raise_shape d o x src code data; rw [h]
@[simp] theorem Dev.raise_twn (o : Origin) (x src code : Nat) (data : List (Nat × Nat)) : (d.raise o x src code data).twn = d.twn := by
  obtain ⟨q, h⟩ := Dev.raise_shape d o x src code data; rw [h]
@[simp] theorem Dev.raise_lnk (o : Origin) (x src code : Nat) (data : List (Nat × Nat)) : (d.raise o x src code data).lnk = d.lnk := by
  obtain ⟨q, h⟩ := Dev.raise_shape d o x src code data; rw [h]
@[simp] theorem Dev.raise_eth (o : Origin) (x src code : Nat) (data : List (Nat × Nat)) : (d.raise o x src code data).eth = d.eth := by
  obtain ⟨q, h⟩ := Dev.raise_shape d o x src code data; rw [h]
@[simp] theorem Dev.raise_clk (o : Origin) (x src code : Nat) (data : List (Nat × Nat)) : (d.raise o x src code data).clk = d.clk := by
  obtain ⟨q, h⟩ := Dev.raise_shape d o x src code data; rw [h]
@[simp] theorem Dev.raise_tmp (o : Origin) (x src code : Nat) (data : List (Nat × Nat)) : (d.raise o x src code data).tmp = d.tmp := by
  obtain ⟨q, h⟩ := Dev.raise_shape d o x src code data; rw [h]
@[simp] theorem Dev.raise_sec (o : Origin) (x src code : Nat) (data : List (Nat × Nat)) : (d.raise o x src code data).sec = d.sec := by
  obtain ⟨q, h⟩ := Dev.raise_shape d o x src code data; rw [h]
@[simp] theorem Dev.raise_cpu (o : Origin) (x src code : Nat) (data : List (Nat × Nat)) : (d.raise o x src code data).cpu = d.cpu := by
  obtain ⟨q, h⟩ := Dev.raise_shape d o x src code data; rw [h]
@[simp] theorem Dev.raise_sys (o : Origin) (x src code : Nat) (data : List (Nat × Nat)) : (d.raise o x src code data).sys = d.sys := by
  obtain ⟨q, h⟩ := Dev.raise_shape d o x src code data; rw [h]
@[simp] theorem Dev.raise_sent (o : Origin) (x src code : Nat) (data : List (Nat × Nat)) : (d.raise o x src code data).sent = d.sent := by
  obtain ⟨q, h⟩ := Dev.raise_shape d o x src code data; rw [h]
@[simp] theorem Dev.raise_ethOut (o : Origin) (x src code : Nat) (data : List (Nat × Nat)) : (d.raise o x src code data).ethOut = d.ethOut := by
  obtain ⟨q, h⟩ := Dev.raise_shape d o x src code data; rw [h]
@[simp] theorem Dev.raise_uartOut (o : Origin) (x src code : Nat) (data : List (Nat × Nat)) : (d.raise o x src code data).uartOut = d.uartOut := by
  obtain ⟨q, h⟩ := Dev.raise_shape d o x src code data; rw [h]
@[simp] theorem Dev.raise_hwSet (o : Origin) (x src code : Nat) (data : List (Nat × Nat)) : (d.raise o x src code data).hwSet = d.hwSet := by
  obtain ⟨q, h⟩ := Dev.raise_shape d o x src code data; rw [h]
@[simp] theorem Dev.raise_busError (o : Origin) (x src code : Nat) (data : List (Nat × Nat)) : (d.raise o x src code data).busError = d.busError := by
  obtain ⟨q, h⟩ := Dev.raise_shape d o x src code data; rw [h]
@[simp] theorem Dev.raise_answer (o : Origin) (x src code : Nat) (data : List (Nat × Nat)) : (d.raise o x src code data).answer = d.answer := by
  obtain ⟨q, h⟩ := Dev.raise_shape d o x src code data; rw [h]
@[simp] theorem Dev.raise_free (o : Origin) (x src code : Nat) (data : List (Nat × Nat)) : (d.raise o x src code data).free = d.free := by
  obtain ⟨q, h⟩ := Dev.raise_shape d o x src code data; rw [h]

/-! ### logDirect -/

@[simp] theorem Dev.logDirect_time (x cls code : Nat) (data : List (Nat × Nat)) : (d.logDirect x cls code data).time = d.time := by
  obtain ⟨r, k, q, w, h⟩ := Dev.logDirect_shape d x cls code data; rw [h]
@[simp] theorem Dev.logDirect_frm (x cls code : Nat) (data : List (Nat × Nat)) : (d.logDirect x cls code data).frm = d.frm := by
  obtain ⟨r, k, q, w, h⟩ := Dev.logDirect_shape d x cls code data; rw [h]
@[simp] theorem Dev.logDirect_img (x cls code : Nat) (data : List (Nat × Nat)) : (d.logDirect x cls code data).img = d.img := by
  obtain ⟨r, k, q, w, h⟩ := Dev.logDirect_shape d x cls code data; rw [h]
@[simp] theorem Dev.logDirect_hrt (x cls code : Nat) (data : List (Nat × Nat)) : (d.logDirect x cls code data).hrt = d.hrt := by
  obtain ⟨r, k, q, w, h⟩ := Dev.logDirect_shape d x cls code data; rw [h]
@[simp] theorem Dev.logDirect_plc (x cls code : Nat) (data : List (Nat × Nat)) : (d.logDirect x cls code data).plc = d.plc := by
  obtain ⟨r, k, q, w, h⟩ := Dev.logDirect_shape d x cls code data; rw [h]
@[simp] theorem Dev.logDirect_lp (x cls code : Nat) (data : List (Nat × Nat)) : (d.logDirect x cls code data).lp = d.lp := by
  obtain ⟨r, k, q, w, h⟩ := Dev.logDirect_shape d x cls code data; rw [h]
@[simp] theorem Dev.logDirect_sdm (x cls code : Nat) (data : List (Nat × Nat)) : (d.logDirect x cls code data).sdm = d.sdm := by
  obtain ⟨r, k, q, w, h⟩ := Dev.logDirect_shape d x cls code data; rw [h]
@[simp] theorem Dev.logDirect_adc (x cls code : Nat) (data : List (Nat × Nat)) : (d.logDirect x cls code data).adc = d.adc := by
  obtain ⟨r, k, q, w, h⟩ := Dev.logDirect_shape d x cls code data; rw [h]
@[simp] theorem Dev.logDirect_cmp (x cls code : Nat) (data : List (Nat × Nat)) : (d.logDirect x cls code data).cmp = d.cmp := by
  obtain ⟨r, k, q, w, h⟩ := Dev.logDirect_shape d x cls code data; rw [h]
@[simp] theorem Dev.logDirect_enc (x cls code : Nat) (data : List (Nat × Nat)) : (d.logDirect x cls code data).enc = d.enc := by
  obtain ⟨r, k, q, w, h⟩ := Dev.logDirect_shape d x cls code data; rw [h]
@[simp] theorem Dev.logDirect_mtr (x cls code : Nat) (data : List (Nat × Nat)) : (d.logDirect x cls code data).mtr = d.mtr := by
  obtain ⟨r, k, q, w, h⟩ := Dev.logDirect_shape d x cls code data; rw [h]
@[simp] theorem Dev.logDirect_pwm (x cls code : Nat) (data : List (Nat × Nat)) : (d.logDirect x cls code data).pwm = d.pwm := by
  obtain ⟨r, k, q, w, h⟩ := Dev.logDirect_shape d x cls code data; rw [h]
@[simp] theorem Dev.logDirect_gdp (x cls code : Nat) (data : List (Nat × Nat)) : (d.logDirect x cls code data).gdp = d.gdp := by
  obtain ⟨r, k, q, w, h⟩ := Dev.logDirect_shape d x cls code data; rw [h]
@[simp] theorem Dev.logDirect_saf (x cls code : Nat) (data : List (Nat × Nat)) : (d.logDirect x cls code data).saf = d.saf := by
  obtain ⟨r, k, q, w, h⟩ := Dev.logDirect_shape d x cls code data; rw [h]
@[simp] theorem Dev.logDirect_rec_ (x cls code : Nat) (data : List (Nat × Nat)) : (d.logDirect x cls code data).rec_ = d.rec_ := by
  obtain ⟨r, k, q, w, h⟩ := Dev.logDirect_shape d x cls code data; rw [h]
@[simp] theorem Dev.logDirect_twn (x cls code : Nat) (data : List (Nat × Nat)) : (d.logDirect x cls code data).twn = d.twn := by
  obtain ⟨r, k, q, w, h⟩ := Dev.logDirect_shape d x cls code data; rw [h]
@[simp] theorem Dev.logDirect_lnk (x cls code : Nat) (data : List (Nat × Nat)) : (d.logDirect x cls code data).lnk = d.lnk := by
  obtain ⟨r, k, q, w, h⟩ := Dev.logDirect_shape d x cls code data; rw [h]
@[simp] theorem Dev.logDirect_eth (x cls code : Nat) (data : List (Nat × Nat)) : (d.logDirect x cls code data).eth = d.eth := by
  obtain ⟨r, k, q, w, h⟩ := Dev.logDirect_shape d x cls code data; rw [h]
@[simp] theorem Dev.logDirect_clk (x cls code : Nat) (data : List (Nat × Nat)) : (d.logDirect x cls code data).clk = d.clk := by
  obtain ⟨r, k, q, w, h⟩ := Dev.logDirect_shape d x cls code data; rw [h]
@[simp] theorem Dev.logDirect_tmp (x cls code : Nat) (data : List (Nat × Nat)) : (d.logDirect x cls code data).tmp = d.tmp := by
  obtain ⟨r, k, q, w, h⟩ := Dev.logDirect_shape d x cls code data; rw [h]
@[simp] theorem Dev.logDirect_sec (x cls code : Nat) (data : List (Nat × Nat)) : (d.logDirect x cls code data).sec = d.sec := by
  obtain ⟨r, k, q, w, h⟩ := Dev.logDirect_shape d x cls code data; rw [h]
@[simp] theorem Dev.logDirect_cpu (x cls code : Nat) (data : List (Nat × Nat)) : (d.logDirect x cls code data).cpu = d.cpu := by
  obtain ⟨r, k, q, w, h⟩ := Dev.logDirect_shape d x cls code data; rw [h]
@[simp] theorem Dev.logDirect_sys (x cls code : Nat) (data : List (Nat × Nat)) : (d.logDirect x cls code data).sys = d.sys := by
  obtain ⟨r, k, q, w, h⟩ := Dev.logDirect_shape d x cls code data; rw [h]
@[simp] theorem Dev.logDirect_sent (x cls code : Nat) (data : List (Nat × Nat)) : (d.logDirect x cls code data).sent = d.sent := by
  obtain ⟨r, k, q, w, h⟩ := Dev.logDirect_shape d x cls code data; rw [h]
@[simp] theorem Dev.logDirect_ethOut (x cls code : Nat) (data : List (Nat × Nat)) : (d.logDirect x cls code data).ethOut = d.ethOut := by
  obtain ⟨r, k, q, w, h⟩ := Dev.logDirect_shape d x cls code data; rw [h]
@[simp] theorem Dev.logDirect_uartOut (x cls code : Nat) (data : List (Nat × Nat)) : (d.logDirect x cls code data).uartOut = d.uartOut := by
  obtain ⟨r, k, q, w, h⟩ := Dev.logDirect_shape d x cls code data; rw [h]
@[simp] theorem Dev.logDirect_busError (x cls code : Nat) (data : List (Nat × Nat)) : (d.logDirect x cls code data).busError = d.busError := by
  obtain ⟨r, k, q, w, h⟩ := Dev.logDirect_shape d x cls code data; rw [h]
@[simp] theorem Dev.logDirect_answer (x cls code : Nat) (data : List (Nat × Nat)) : (d.logDirect x cls code data).answer = d.answer := by
  obtain ⟨r, k, q, w, h⟩ := Dev.logDirect_shape d x cls code data; rw [h]
@[simp] theorem Dev.logDirect_free (x cls code : Nat) (data : List (Nat × Nat)) : (d.logDirect x cls code data).free = d.free := by
  obtain ⟨r, k, q, w, h⟩ := Dev.logDirect_shape d x cls code data; rw [h]

@[simp] theorem Dev.raise_rd (o : Origin) (x src code : Nat) (data : List (Nat × Nat)) (a : Nat) : (d.raise o x src code data).rd a = d.rd a := by
  simp [Dev.rd]

/-! ### The queue, the memory and the fuses under a command -/

variable (s : State) (t : Nat)

@[simp] theorem State.arrive_mem : (s.arrive t).mem = s.mem := rfl
@[simp] theorem State.arrive_otp : (s.arrive t).otp = s.otp := rfl
@[simp] theorem State.arrive_pending : (s.arrive t).pending = s.pending := rfl
@[simp] theorem State.arrive_now : (s.arrive t).now = Nat.max s.now t := rfl
@[simp] theorem State.arrive_runs : (s.arrive t).dev.runs = s.dev.runs := rfl
@[simp] theorem State.arrive_runsIn (g : Nat) : (s.arrive t).dev.runsIn g = s.dev.runsIn g := rfl
@[simp] theorem State.arrive_accepts : (s.arrive t).dev.accepts = s.dev.accepts := rfl
@[simp] theorem State.arrive_rd (a : Nat) : (s.arrive t).dev.rd a = s.dev.rd a := rfl
@[simp] theorem State.commit_pending (e : Effect) : (s.commit e).pending = s.pending := rfl
@[simp] theorem State.commit_now (e : Effect) : (s.commit e).now = s.now := rfl
@[simp] theorem State.commit_dev (e : Effect) : (s.commit e).dev = e.dev := rfl
@[simp] theorem State.commit_mem (e : Effect) : (s.commit e).mem = s.mem.writeCells e.cells := rfl
@[simp] theorem State.commit_otp (e : Effect) : (s.commit e).otp = e.fuses.foldl Otp.blow s.otp := rfl

@[simp] theorem State.arrive_regs : (s.arrive t).dev.regs = s.dev.regs := rfl
@[simp] theorem State.arrive_frm : (s.arrive t).dev.frm = s.dev.frm := rfl
@[simp] theorem State.arrive_anv : (s.arrive t).dev.anv = s.dev.anv := rfl
@[simp] theorem State.arrive_img : (s.arrive t).dev.img = s.dev.img := rfl
@[simp] theorem State.arrive_hrt : (s.arrive t).dev.hrt = s.dev.hrt := rfl
@[simp] theorem State.arrive_plc : (s.arrive t).dev.plc = s.dev.plc := rfl
@[simp] theorem State.arrive_lp : (s.arrive t).dev.lp = s.dev.lp := rfl
@[simp] theorem State.arrive_sdm : (s.arrive t).dev.sdm = s.dev.sdm := rfl
@[simp] theorem State.arrive_adc : (s.arrive t).dev.adc = s.dev.adc := rfl
@[simp] theorem State.arrive_cmp : (s.arrive t).dev.cmp = s.dev.cmp := rfl
@[simp] theorem State.arrive_enc : (s.arrive t).dev.enc = s.dev.enc := rfl
@[simp] theorem State.arrive_mtr : (s.arrive t).dev.mtr = s.dev.mtr := rfl
@[simp] theorem State.arrive_pwm : (s.arrive t).dev.pwm = s.dev.pwm := rfl
@[simp] theorem State.arrive_gdp : (s.arrive t).dev.gdp = s.dev.gdp := rfl
@[simp] theorem State.arrive_saf : (s.arrive t).dev.saf = s.dev.saf := rfl
@[simp] theorem State.arrive_keep : (s.arrive t).dev.keep = s.dev.keep := rfl
@[simp] theorem State.arrive_rec_ : (s.arrive t).dev.rec_ = s.dev.rec_ := rfl
@[simp] theorem State.arrive_twn : (s.arrive t).dev.twn = s.dev.twn := rfl
@[simp] theorem State.arrive_lnk : (s.arrive t).dev.lnk = s.dev.lnk := rfl
@[simp] theorem State.arrive_eth : (s.arrive t).dev.eth = s.dev.eth := rfl
@[simp] theorem State.arrive_clk : (s.arrive t).dev.clk = s.dev.clk := rfl
@[simp] theorem State.arrive_tmp : (s.arrive t).dev.tmp = s.dev.tmp := rfl
@[simp] theorem State.arrive_sec : (s.arrive t).dev.sec = s.dev.sec := rfl
@[simp] theorem State.arrive_cpu : (s.arrive t).dev.cpu = s.dev.cpu := rfl
@[simp] theorem State.arrive_sys : (s.arrive t).dev.sys = s.dev.sys := rfl
@[simp] theorem State.arrive_answer : (s.arrive t).dev.answer = s.dev.answer := rfl
@[simp] theorem State.arrive_free : (s.arrive t).dev.free = s.dev.free := rfl

/-- What a command that changes the device only answers. -/
theorem act_eq (f : Nat → Dev → Dev) :
    act t s f = .next { s.arrive t with dev := f (Nat.max s.now t) (s.arrive t).dev } := rfl

/-- Only while the domains run, and then entirely. -/
theorem Dev.live_of_runs (f : Dev → Dev) (h : d.runs = true) : d.live f = f d := by simp [Dev.live, h]

/-- While the domains do not run nothing happens. -/
theorem Dev.live_of_not_runs (f : Dev → Dev) (h : d.runs = false) : d.live f = d := by simp [Dev.live, h]

/-- Only while what gate `g` serves runs, and then entirely. -/
theorem Dev.liveIn_of_runsIn (g : Nat) (f : Dev → Dev) (h : d.runsIn g = true) : d.liveIn g f = f d := by simp [Dev.liveIn, h]

/-- While what gate `g` serves does not run nothing happens. -/
theorem Dev.liveIn_of_not_runsIn (g : Nat) (f : Dev → Dev) (h : d.runsIn g = false) : d.liveIn g f = d := by simp [Dev.liveIn, h]

/-- What a gate serves runs only while the domains run. -/
theorem Dev.runs_of_runsIn (g : Nat) (h : d.runsIn g = true) : d.runs = true := (Bool.and_eq_true _ _ ▸ h : _ ∧ _).1

/-- While the Anvil accepts no events a request changes nothing (R38). -/
theorem Dev.raise_of_not_accepts (o : Origin) (x src code : Nat) (data : List (Nat × Nat)) (h : d.accepts = false) :
    d.raise o x src code data = d := by simp [Dev.raise, h]

/-- A request that no other of its source meets stands with the Anvil. -/
theorem Dev.raise_anv (o : Origin) (x src code : Nat) (data : List (Nat × Nat)) (h : d.accepts = true)
    (hq : ∀ r ∈ d.anv.reqs, r.src = src → r.arrive ≠ arrivalOf o x) :
    (d.raise o x src code data).anv = { d.anv with reqs := d.anv.reqs ++ [{ src := src, arrive := arrivalOf o x, code := code, data := data }] } := by
  have hn : (d.anv.reqs.any fun r => r.src == src && r.arrive == arrivalOf o x) = false := by
    rw [List.any_eq_false]; intro r hr; simp only [Bool.and_eq_true, beq_iff_eq, not_and]; exact hq r hr
  simp [Dev.raise, h, hn]

end Sys2Proof.Machine
end

