-- ==== Sys2Proof/Laws/Leaves.lean ====
section
/-! SUPPORT. Laws/Leaves.lean: how a command's meaning becomes the statement that it completes. -/

namespace Sys2Proof.Safety

open Sys2Proof Sys2Proof.Machine

/-- A command whose meaning changes the device only leaves the device that its effect gives. -/
theorem leaves_of_act {c : Instr} {t : Nat} {s : State} {d' : Dev} {f : Nat → Dev → Dev} (h : exec c s = act t s f)
    (h' : f (Nat.max s.now t) (s.arrive t).dev = d') : Leaves c t s d' := by
  rw [Leaves, h, act_eq, h']

/-- The same for a command with effect only while the domains run. -/
theorem leaves_of_live {c : Instr} {t : Nat} {s : State} {d' : Dev} {f : Nat → Dev → Dev}
    (h : exec c s = act t s (fun x d => d.live (f x))) (hr : s.dev.runs = true)
    (h' : f (Nat.max s.now t) (s.arrive t).dev = d') : Leaves c t s d' :=
  leaves_of_act h ((Dev.live_of_runs _ _ (show (s.arrive t).dev.runs = true from hr)).trans h')

/-- While the domains do not run, such a command leaves the device as it finds it. -/
theorem leaves_of_not_live {c : Instr} {t : Nat} {s : State} {f : Nat → Dev → Dev}
    (h : exec c s = act t s (fun x d => d.live (f x))) (hr : s.dev.runs = false) : Leaves c t s (s.arrive t).dev :=
  leaves_of_act h (Dev.live_of_not_runs _ _ (show (s.arrive t).dev.runs = false from hr))

/-- The same for a command with effect only while what a gate serves runs. -/
theorem leaves_of_liveIn {c : Instr} {t g : Nat} {s : State} {d' : Dev} {f : Nat → Dev → Dev}
    (h : exec c s = act t s (fun x d => d.liveIn g (f x))) (hr : s.dev.runsIn g = true)
    (h' : f (Nat.max s.now t) (s.arrive t).dev = d') : Leaves c t s d' :=
  leaves_of_act h ((Dev.liveIn_of_runsIn _ g _ (show (s.arrive t).dev.runsIn g = true from hr)).trans h')

/-- While what the gate serves does not run, such a command leaves the device as it finds it. -/
theorem leaves_of_not_liveIn {c : Instr} {t g : Nat} {s : State} {f : Nat → Dev → Dev}
    (h : exec c s = act t s (fun x d => d.liveIn g (f x))) (hr : s.dev.runsIn g = false) : Leaves c t s (s.arrive t).dev :=
  leaves_of_act h (Dev.liveIn_of_not_runsIn _ g _ (show (s.arrive t).dev.runsIn g = false from hr))

end Sys2Proof.Safety
end

