-- ==== Sys2Proof/Laws/Mem.lean ====
section
/-! SUPPORT. Laws/Mem.lean: the memory: every store keeps its canonical form, and what a byte reads as after a store. -/

namespace Sys2Proof.Machine

theorem Memory.okFrom_mono (m : Memory) {i j : Nat} (h : i ≤ j) (hm : Memory.okFrom j m = true) : Memory.okFrom i m = true := by
  cases m with
  | nil => rfl
  | cons p r => obtain ⟨k, b⟩ := p; simp only [Memory.okFrom, Bool.and_eq_true, decide_eq_true_eq] at *; exact ⟨⟨by omega, hm.1.2⟩, hm.2⟩

theorem Memory.okFrom_write (m : Memory) (a : Nat) (v : Byte) : ∀ lo, lo ≤ a → Memory.okFrom lo m = true → Memory.okFrom lo (m.write a v) = true := by
  induction m with
  | nil => intro lo h _; simp only [Memory.write]; split <;> simp [Memory.okFrom, *]
  | cons p r ih =>
    obtain ⟨k, b⟩ := p
    intro lo h hm
    simp only [Memory.okFrom, Bool.and_eq_true, decide_eq_true_eq, bne_iff_ne] at hm
    simp only [Memory.write]
    split
    · split
      · simp only [Memory.okFrom, Bool.and_eq_true, decide_eq_true_eq, bne_iff_ne]; exact hm
      · rename_i hv; simp only [Memory.okFrom, Bool.and_eq_true, decide_eq_true_eq, bne_iff_ne]
        exact ⟨⟨h, hv⟩, ⟨by omega, hm.1.2⟩, hm.2⟩
    · split
      · subst_vars
        split
        · exact Memory.okFrom_mono _ (by omega) hm.2
        · rename_i hv; simp only [Memory.okFrom, Bool.and_eq_true, decide_eq_true_eq, bne_iff_ne]; exact ⟨⟨h, hv⟩, hm.2⟩
      · simp only [Memory.okFrom, Bool.and_eq_true, decide_eq_true_eq, bne_iff_ne]
        exact ⟨hm.1, ih (k + 1) (by omega) hm.2⟩

/-- A store of one byte keeps the canonical form. -/
theorem Memory.wf_write (m : Memory) (a : Nat) (v : Byte) (h : m.wf = true) : (m.write a v).wf = true := Memory.okFrom_write m a v 0 (Nat.zero_le _) h

/-- A store of several bytes keeps the canonical form. -/
theorem Memory.wf_writeCells (cs : List Host.Cell) : ∀ m : Memory, m.wf = true → (m.writeCells cs).wf = true := by
  induction cs with
  | nil => intro m h; exact h
  | cons c cs ih => intro m h; exact ih _ (Memory.wf_write m c.1 c.2 h)

theorem Memory.read_below (m : Memory) : ∀ lo a, a < lo → Memory.okFrom lo m = true → m.read a = Memory.blank a := by
  cases m with
  | nil => intros; rfl
  | cons p r =>
    obtain ⟨k, b⟩ := p
    intro lo a h hm
    simp only [Memory.okFrom, Bool.and_eq_true, decide_eq_true_eq] at hm
    have h1 : a ≠ k := by omega
    have h2 : a < k := by omega
    simp [Memory.read, h1, h2]

theorem Memory.read_write_from (m : Memory) (a b : Nat) (v : Byte) : ∀ lo, lo ≤ a → Memory.okFrom lo m = true →
    (m.write a v).read b = if b = a then v else m.read b := by
  induction m with
  | nil =>
    intro lo _ _; simp only [Memory.write]; split
    · rename_i h; by_cases hb : b = a <;> simp [Memory.read, hb, h]
    · by_cases hb : b = a <;> simp [Memory.read, hb]
  | cons p r ih =>
    obtain ⟨k, w⟩ := p
    intro lo h hm
    simp only [Memory.okFrom, Bool.and_eq_true, decide_eq_true_eq] at hm
    simp only [Memory.write]
    split
    · rename_i hak
      split
      · rename_i hv; by_cases hb : b = a
        · subst hb; have : b ≠ k := by omega
          simp [Memory.read, this, hak, hv]
        · simp [hb]
      · by_cases hb : b = a
        · simp [Memory.read, hb]
        · by_cases h2 : b < a
          · have h3 : b ≠ k := by omega
            have h4 : b < k := by omega
            simp [Memory.read, hb, h2, h3, h4]
          · simp [Memory.read, hb, h2]
    · split
      · subst_vars
        split
        · rename_i hv; by_cases hb : b = k
          · subst hb; rw [Memory.read_below r (b + 1) b (by omega) hm.2]; simp [hv]
          · by_cases h2 : b < k
            · rw [Memory.read_below r (k + 1) b (by omega) hm.2]; simp [Memory.read, hb, h2]
            · simp [Memory.read, hb, h2]
        · by_cases hb : b = k
          · simp [Memory.read, hb]
          · simp [Memory.read, hb]
      · have e := ih (k + 1) (by omega) hm.2
        by_cases hb : b = k
        · subst hb; have : b ≠ a := by omega
          simp [Memory.read, this]
        · by_cases h2 : b < k
          · have : b ≠ a := by omega
            simp [Memory.read, hb, h2, this]
          · simp only [Memory.read, hb, h2, if_false, e]

/-- A byte read after a store. -/
theorem Memory.read_write (m : Memory) (a b : Nat) (v : Byte) (h : m.wf = true) : (m.write a v).read b = if b = a then v else m.read b :=
  Memory.read_write_from m a b v 0 (Nat.zero_le _) h

/-- A byte at an address to which no cell is stored reads as before. -/
theorem Memory.read_writeCells_apart (cs : List Host.Cell) (b : Nat) (hb : ∀ c ∈ cs, c.1 ≠ b) : ∀ m : Memory, m.wf = true → (m.writeCells cs).read b = m.read b := by
  induction cs with
  | nil => intros; rfl
  | cons c cs ih =>
    intro m h
    have e : (m.write c.1 c.2).read b = m.read b := by
      rw [Memory.read_write _ _ _ _ h, if_neg (fun e => hb c (by simp) e.symm)]
    exact (ih (fun c hc => hb c (by simp [hc])) _ (Memory.wf_write m _ _ h)).trans e

end Sys2Proof.Machine
end

