-- ==== Sys2Proof/Machine/Pins.lean ====
section
/-! DEFINITION. Machine/Pins.lean: the balls of the package: what they are under PORn and unpowered (R511 to R513), and the levels at those whose supply or owner decides it (R329,
R450, R526, R530 to R532, R535). A view changes nothing. -/

namespace Sys2Proof.Machine

/-! ### The table of balls (R513) -/

/-- The rail a group of balls lives on. -/
inductive Rail where
  | vioA | vioB | vioC | vioD | vioE | vioF | vdda18 | vddl | vddq | keep | supply
  deriving DecidableEq, Repr

/-- What a ball shows while PORn is low or its supply is absent. -/
inductive BallState where
  /-- High impedance, its pulls disconnected. -/
  | hiZ
  /-- An input without a pull. -/
  | input
  /-- An input with its pull-up. -/
  | pullUp
  /-- An input with its pull-down. -/
  | pullDown
  | low
  | high
  /-- Electrical idle of a lane. -/
  | idle
  /-- An analogue level: 0.9 V, the running reference, 0 V, discharged. -/
  | analogue
  /-- The ball does what its own block does: the repeat of ENC0, the safety island, the Keep manager. -/
  | own
  deriving DecidableEq, Repr

/-- A row of the table of balls; a row whose balls differ under PORn is given here ball by ball. -/
structure BallRow where
  name : String
  count : Nat
  rail : Rail
  reset : BallState
  unpowered : BallState
  deriving DecidableEq, Repr

/-- The balls of banks A to F. -/
def ballsIo : List BallRow :=
  [ { name := "PWH, PWL", count := 192, rail := .vioA, reset := .hiZ, unpowered := .hiZ },
    { name := "FLT", count := 96, rail := .vioA, reset := .pullUp, unpowered := .hiZ },
    { name := "SDI", count := 96, rail := .vioB, reset := .input, unpowered := .hiZ },
    { name := "SDC", count := 8, rail := .vioB, reset := .input, unpowered := .hiZ },
    { name := "REFCLK", count := 1, rail := .vioC, reset := .input, unpowered := .hiZ },
    { name := "OWN", count := 1, rail := .vioC, reset := .hiZ, unpowered := .hiZ },
    { name := "PEER_OWN, TIN", count := 5, rail := .vioC, reset := .input, unpowered := .hiZ },
    { name := "TOUT, EVO", count := 12, rail := .vioC, reset := .low, unpowered := .hiZ },
    { name := "ENC A, B, Z", count := 6, rail := .vioE, reset := .input, unpowered := .hiZ },
    { name := "ENC CLK", count := 2, rail := .vioE, reset := .high, unpowered := .hiZ },
    { name := "EOA, EOB, EOZ", count := 3, rail := .vioE, reset := .own, unpowered := .hiZ },
    { name := "SIN", count := 16, rail := .vioF, reset := .own, unpowered := .hiZ },
    { name := "SOUT", count := 4, rail := .vioF, reset := .own, unpowered := .hiZ },
    { name := "SRB", count := 4, rail := .vioF, reset := .input, unpowered := .hiZ } ]

/-- The balls of bank D. -/
def ballsD : List BallRow :=
  [ { name := "straps", count := 9, rail := .vioD, reset := .input, unpowered := .hiZ },
    { name := "PORn", count := 1, rail := .vioD, reset := .low, unpowered := .hiZ },
    { name := "TCK, TRSTn", count := 2, rail := .vioD, reset := .pullDown, unpowered := .hiZ },
    { name := "TMS, TDI", count := 2, rail := .vioD, reset := .pullUp, unpowered := .hiZ },
    { name := "TDO", count := 1, rail := .vioD, reset := .hiZ, unpowered := .hiZ },
    { name := "UART TX, RTS", count := 4, rail := .vioD, reset := .high, unpowered := .hiZ },
    { name := "UART RX, CTS", count := 4, rail := .vioD, reset := .input, unpowered := .hiZ },
    { name := "I2C SCL, SDA", count := 4, rail := .vioD, reset := .hiZ, unpowered := .hiZ },
    { name := "SPI SCK, MOSI", count := 4, rail := .vioD, reset := .low, unpowered := .hiZ },
    { name := "SPI MISO", count := 2, rail := .vioD, reset := .input, unpowered := .hiZ },
    { name := "SPI CS", count := 8, rail := .vioD, reset := .high, unpowered := .hiZ },
    { name := "GPIO", count := 32, rail := .vioD, reset := .input, unpowered := .hiZ } ]

/-- The analogue balls, the lanes and the DDR4 interface. -/
def ballsAna : List BallRow :=
  [ { name := "AIN, MIN", count := 56, rail := .vdda18, reset := .input, unpowered := .hiZ },
    { name := "AVCM", count := 1, rail := .vdda18, reset := .analogue, unpowered := .hiZ },
    { name := "AREFC", count := 1, rail := .vdda18, reset := .analogue, unpowered := .hiZ },
    { name := "TDAC", count := 4, rail := .vdda18, reset := .analogue, unpowered := .hiZ },
    { name := "LKF", count := 1, rail := .vdda18, reset := .analogue, unpowered := .hiZ },
    { name := "LN TX, RX", count := 16, rail := .vddl, reset := .idle, unpowered := .hiZ },
    { name := "LREXT", count := 1, rail := .vddl, reset := .analogue, unpowered := .own },
    { name := "DQ, DQS, DM_n", count := 99, rail := .vddq, reset := .hiZ, unpowered := .hiZ },
    { name := "CKE", count := 2, rail := .vddq, reset := .low, unpowered := .hiZ },
    { name := "CK, A, BA, BG, ACT_n, CS_n, ODT", count := 30, rail := .vddq, reset := .hiZ, unpowered := .hiZ },
    { name := "RESET_n", count := 1, rail := .vddq, reset := .low, unpowered := .hiZ },
    { name := "ALERT_n", count := 1, rail := .vddq, reset := .hiZ, unpowered := .hiZ },
    { name := "ZQ", count := 1, rail := .vddq, reset := .analogue, unpowered := .hiZ } ]

/-- The balls of the Keep domain, which R532 governs without its supply, and the supply balls. -/
def ballsKeep : List BallRow :=
  [ { name := "XCS", count := 2, rail := .keep, reset := .high, unpowered := .hiZ },
    { name := "XSCK, XDQS, XDQ", count := 10, rail := .keep, reset := .own, unpowered := .hiZ },
    { name := "XRSTn", count := 1, rail := .keep, reset := .low, unpowered := .hiZ },
    { name := "PSU_EN, FSUP", count := 2, rail := .keep, reset := .own, unpowered := .hiZ },
    { name := "CQ, CS", count := 2, rail := .keep, reset := .own, unpowered := .own },
    { name := "HVA, HVB", count := 2, rail := .keep, reset := .own, unpowered := .own },
    { name := "VDD", count := 110, rail := .supply, reset := .own, unpowered := .own },
    { name := "VDDA18, VDDL, VDDQ, VPP", count := 52, rail := .supply, reset := .own, unpowered := .own },
    { name := "VIO_A to VIO_F", count := 32, rail := .supply, reset := .own, unpowered := .own },
    { name := "VSS", count := 210, rail := .supply, reset := .own, unpowered := .own } ]

/-- The table of R513. -/
def ballTable : List BallRow := ballsIo ++ ballsD ++ ballsAna ++ ballsKeep

/-- The state of the balls of a row that their supply or PORn fixes; none where their block decides (R513). -/
def Dev.ballState (d : Dev) (powered : Bool) (b : BallRow) : Option BallState :=
  if !powered then some b.unpowered else if !d.sys.porn then some b.reset else none

/-! ### Levels at single balls: none for high impedance; whether a bank's supply is present is a fact of the board -/

/-- OWN: high impedance under PORn and without VIO_C, so that the partner sees no edge (R329, R513, R535). -/
def Dev.ballOwn (d : Dev) (vioC : Bool) : Option Bool := if vioC && d.sys.porn then some d.pinOwn else none
/-- An event output: low under PORn (R39, R513). -/
def Dev.ballEvo (d : Dev) (x k : Nat) (vioC : Bool) : Option Bool := if vioC then some (d.sys.porn && d.pinEvo x k) else none
/-- A trigger output: low under PORn (R377, R513). -/
def Dev.ballTout (d : Dev) (x k : Nat) (vioC : Bool) : Option Bool := if vioC then some (d.sys.porn && d.pinTout x k) else none
/-- TDACk in mV: 50 mV per mA of the commanded test current, 0 V under PORn (R513, R526). -/
def Dev.tdacMv (d : Dev) (k : Nat) : Nat := if d.sys.porn then 5 * nth 0 d.gdp.tdac k else 0

/-- The Keep domain drives its balls: not with CQ below 1.8 V (R532). -/
def Dev.keepBall (d : Dev) (v : Option Bool) : Option Bool := if d.keep.alive then v else none
/-- The xSPI interface rests: the main supplies are absent and no burst runs (R532). -/
def Dev.xspRests (d : Dev) : Bool := !d.keep.main && d.keep.burst.isNone
/-- PSU_EN (R472). -/
def Dev.ballPsuEn (d : Dev) : Option Bool := d.keepBall (some d.pinPsuEn)
/-- FSUP: on with the main supplies, else during a burst only (R450, R531). -/
def Dev.ballFsup (d : Dev) : Option Bool := d.keepBall (some d.fsup)
/-- XCS0 and XCS1: high at rest and under PORn. What the interface does at an instant the spec does not state: a free value (R513, R532). -/
def Dev.ballXcs (d : Dev) (x k : Nat) : Option Bool :=
  d.keepBall (some (d.xspRests || (d.keep.main && !d.sys.porn) || Sys2Proof.Config.xspLevel k x))
/-- XSCK: low at rest (R532). -/
def Dev.ballXsck (d : Dev) (x : Nat) : Option Bool := d.keepBall (some (!d.xspRests && Sys2Proof.Config.xspLevel 2 x))
/-- XDQS and XDQ0 to XDQ7, numbered from 0: high impedance at rest; else the chip or the device drives them (R532). -/
def Dev.ballXdq (d : Dev) (x k : Nat) : Option Bool := d.keepBall (if d.xspRests then none else Sys2Proof.Config.xspData k x)
/-- XRSTn: high impedance at rest, low under PORn, else high (R513, R532; log entry 98). -/
def Dev.ballXrstn (d : Dev) : Option Bool := d.keepBall (if d.xspRests then none else some (!(d.keep.main && !d.sys.porn)))

end Sys2Proof.Machine
end

