-- ==== Sys2Proof/WellFormed.lean ====
section
/-! DEFINITION. WellFormed.lean: which commands have operands that an outside world can bring: indices the device has, values that fit the width of what
carries them. A meaning is defined on every command; a command that is not well-formed is one no board, partner or firmware can send. -/

namespace Sys2Proof

/-- A value that may be absent satisfies a test. -/
def optAll {α : Type} (o : Option α) (f : α → Bool) : Bool := match o with | none => true | some a => f a

/-- A memory error names an engine, one of its two SRAMs and a word of it (R73, R75). -/
def EccError.wf (e : EccError) : Bool := decide (e.engine < 64) && (e.sram == 1 || e.sram == 2) && decide (e.word < 2 ^ 14)

/-- A sample names an input the device has (R4). -/
def InputSample.wf : InputSample → Bool
  | .sdi n _ _ => decide (n < 96)
  | .adc c => decide (c < 56)
  | .cmp n => decide (n < 48)
  | .enc k => decide (k < 2)
  | .bridge b => decide (b < 6)
  | .temper => true

/-- The fields of CAPS fit their widths (R349). -/
def CapsBody.wf (b : CapsBody) : Bool :=
  decide (b.major < 256) && decide (b.minor < 256) && decide (b.role < 256) && decide (b.siRev < 256) && decide (b.part < 2 ^ 16) && decide (b.fwVersion < 2 ^ 32)
    && decide (b.features < 2 ^ 32) && b.imageHash.length == 48 && decide (b.imageGen < 2 ^ 32) && decide (b.framePeriodFc < 2 ^ 32)

/-- The fields of CAPS_ACK fit their widths (R349). -/
def CapsAckBody.wf (b : CapsAckBody) : Bool := decide (b.opMajor < 256) && decide (b.opMinor < 256) && decide (b.pairable < 256) && decide (b.reason < 256)

/-- The fields of HEARTBEAT fit their widths (R349). -/
def HeartbeatBody.wf (b : HeartbeatBody) : Bool :=
  decide (b.frmCount < 2 ^ 32) && decide (b.pair < 256) && decide (b.power < 256) && decide (b.released < 2 ^ 8) && decide (b.t0 < 2 ^ 64)
    && decide (b.swapActive < 2 ^ 16) && decide (b.swapPending < 2 ^ 16) && decide (b.lost < 2 ^ 96) && decide (b.flt < 2 ^ 96)

/-- The entries of BLOCKS lie within its total (R349). -/
def BlocksBody.wf (b : BlocksBody) : Bool :=
  decide (b.total < 2 ^ 16) && decide (b.first + b.entries.length ≤ b.total) && decide (b.entries.length ≤ 1023) && b.entries.all (fun e => decide (e.1 < 2 ^ 32) && decide (e.2 < 2 ^ 32))

/-- The fields of STATE fit their widths (R349). -/
def StateBody.wf (b : StateBody) : Bool := decide (b.frmCount < 2 ^ 32) && b.runs.all (fun r => decide (r.id < 2 ^ 32) && decide (r.first < 2 ^ 16))

/-- The fields of PARAM fit their widths (R349). -/
def ParamBody.wf (b : ParamBody) : Bool :=
  decide (b.applyFrm < 2 ^ 32) && b.entries.all (fun e => decide (e.id < 2 ^ 32) && decide (e.word < 2 ^ 16) && decide (e.set < 256))

/-- The fields of SWAP fit their widths (R349). -/
def SwapBody.wf (b : SwapBody) : Bool := decide (b.boundaryFrm < 2 ^ 32) && decide (b.groups < 2 ^ 16)

/-- The channels of RESULT are the device's (R349). -/
def ResultBody.wf (b : ResultBody) : Bool := decide (b.frmCount < 2 ^ 32) && b.entries.all (fun e => decide (e.1 < 96))

/-- The fields of YIELD fit their widths (R349). -/
def YieldBody.wf (b : YieldBody) : Bool := decide (b.txFrm < 2 ^ 32) && decide (b.cause < 256)

/-- The fields of YIELD_ACK fit their widths (R349). -/
def YieldAckBody.wf (b : YieldAckBody) : Bool := decide (b.txFrm < 2 ^ 32) && decide (b.reason < 256)

/-- The field of WITHDRAW fits its width (R349). -/
def WithdrawBody.wf (b : WithdrawBody) : Bool := decide (b.cause < 256)

/-- The operands of a command are ones that the outside world can bring. -/
def Instr.wf : Instr → Bool
  | .frameT0 ecc ckptBad => ecc.all EccError.wf && ckptBad.all (fun i => decide (i < 256))
  | .acquireEnd => true
  | .inputDelivery _ src => src.wf
  | .collectEnd cmpBad => cmpBad.all (fun e => decide (e < 64))
  | .hardAlign _ => true
  | .clrLat _ => true
  | .alignEnWrite _ _ => true
  | .frmPhaseLoWrite _ _ => true
  | .frmPhaseHiWrite _ _ => true
  | .eventArrival _ => true
  | .eventDelivery _ => true
  | .evoPulseEnd _ _ => true
  | .anvSnap _ => true
  | .fullLoad _ => true
  | .fullLoadChecksDone _ => true
  | .hotLoad _ => true
  | .hotChecksDone _ => true
  | .hotPlacingDone _ => true
  | .imgAbort _ => true
  | .taskStart _ _ _ ecc => ecc.all EccError.wf
  | .latestStartReached _ _ _ ecc => ecc.all EccError.wf
  | .taskFinish _ _ => true
  | .collectorCycle _ => true
  | .blockOff _ => true
  | .blockOn _ => true
  | .clrMax _ => true
  | .rotationTimerExpiry _ => true
  | .selfTestRequest _ _ => true
  | .selfTestStart _ _ => true
  | .selfTestEnd _ failMask => decide (failMask < 16)
  | .plcCtrlWrite _ _ => true
  | .plcStIntervalWrite _ _ => true
  | .lpPdataWrite _ _ => true
  | .lpSwapCmd _ groups => decide (groups < 2 ^ 16)
  | .sdiStreamOutput _ _ _ => true
  | .protectionLevelChange _ _ _ => true
  | .settleMaskEnd _ _ => true
  | .stuckBitstream _ _ => true
  | .sdcClockLoss _ _ => true
  | .spareFilterMove _ => true
  | .adcConversionStart _ _ => true
  | .adcConversionDone _ _ sl raw _ _ => decide (sl < 5) && decide (-8192 ≤ raw) && decide (raw ≤ 8191)
  | .syncGroupStart _ _ => true
  | .darningCalibrationDone _ _ _ _ => true
  | .darningRotationDue _ _ => true
  | .mcalStart _ => true
  | .mcalDone _ _ _ _ _ => true
  | .urgentRequest _ _ => true
  | .urgentConversionStart _ _ => true
  | .adcSeqEnWrite _ _ _ => true
  | .comparatorDecision _ _ code => decide (code < 2 ^ 14)
  | .cmpEnableWrite _ _ _ => true
  | .encCountStep _ _ _ _ => true
  | .encIndex _ _ => true
  | .serialTransferStart _ _ _ => true
  | .serialTransferDone _ _ _ => true
  | .observerUpdate _ _ => true
  | .probeEdge _ _ _ => true
  | .encLoad _ _ _ => true
  | .encEnableWrite _ _ _ => true
  | .encEmuWrite _ _ => true
  | .meteringSample _ _ => true
  | .mtrSnap _ points => decide (points < 16)
  | .mtrAddImport _ _ => true
  | .mtrAddExport _ _ => true
  | .mtrEnableWrite _ _ _ => true
  | .periodBoundary _ => true
  | .peakReload _ => true
  | .referenceEdge _ _ => true
  | .commandTurnOn _ _ _ => true
  | .pwmSetCommit _ _ _ => true
  | .pwmEdgeListCommit _ _ => true
  | .pwmElWrite _ _ _ => true
  | .setPresent _ _ => true
  | .edgeListPresent _ _ => true
  | .pwmEnableWrite _ _ _ => true
  | .fltPinLow _ _ => true
  | .fltDetection _ _ => true
  | .fltFilterRelease _ _ => true
  | .blankingWindowEnd _ _ => true
  | .restore _ _ => true
  | .quench _ _ => true
  | .clear _ _ => true
  | .quenchPresent _ _ => true
  | .diagStart _ _ => true
  | .diagAbort _ => true
  | .diagSettleEnd _ => true
  | .diagMeansTaken _ => true
  | .diagDwellEnd _ => true
  | .gdpTestStart _ _ => true
  | .gdpTestEnd _ failPart => optAll failPart (fun p => decide (p < 96))
  | .ownReadback _ _ => true
  | .t0AbsenceTimeout _ => true
  | .peerOwnEdge _ => true
  | .takeoverSdcDrive _ => true
  | .takeoverHoldLift _ => true
  | .twnCtrlHandover _ => true
  | .twnCtrlWithdraw _ => true
  | .caps _ _ seq body => decide (seq < 2 ^ 24) && body.wf
  | .capsAck _ _ seq body => decide (seq < 2 ^ 24) && body.wf
  | .heartbeat _ _ seq body => decide (seq < 2 ^ 24) && body.wf
  | .blocks _ _ seq body => decide (seq < 2 ^ 24) && body.wf
  | .stateMsg _ _ seq body => decide (seq < 2 ^ 24) && body.wf
  | .paramMsg _ _ seq body => decide (seq < 2 ^ 24) && body.wf
  | .swapMsg _ _ seq body => decide (seq < 2 ^ 24) && body.wf
  | .resultMsg _ _ seq body => decide (seq < 2 ^ 24) && body.wf
  | .yieldMsg _ _ seq body => decide (seq < 2 ^ 24) && body.wf
  | .yieldAckMsg _ _ seq body => decide (seq < 2 ^ 24) && body.wf
  | .withdraw _ _ seq body => decide (seq < 2 ^ 24) && body.wf
  | .rxDetectPulse _ _ _ => true
  | .laneTrainDone _ _ => true
  | .laneTrainTimeout _ _ => true
  | .laneBlockLock _ _ => true
  | .laneBlockLockLoss _ l => decide (16 ≤ l.headers)
  | .capsResend _ _ => true
  | .laneExchangeTimeout _ _ => true
  | .equaliserAdaptDone _ _ _ => true
  | .rxIdleTimeout _ _ => true
  | .laneRateWrite _ _ _ => true
  | .laneTxEnWrite _ _ _ => true
  | .lanePrbsWrite _ _ _ => true
  | .ethFrameReceived _ _ bytes _ => decide (bytes.length < 2 ^ 14)
  | .ethFrameTransmit _ _ => true
  | .ethTxComplete _ _ => true
  | .ethLinkChange _ _ _ _ => true
  | .ringTailWrite _ _ _ _ _ => true
  | .ringRunWrite _ _ _ _ _ => true
  | .timIncFracWrite _ _ => true
  | .timIncCommit _ _ => true
  | .timeStep _ => true
  | .timSnap _ => true
  | .holdWrite _ _ => true
  | .holdoverTimeout _ => true
  | .triggerArm _ _ _ => true
  | .triggerFire _ _ => true
  | .toutPulseEnd _ _ => true
  | .captureEdge _ _ _ => true
  | .pop _ _ => true
  | .vioFPowerOn _ => true
  | .safetySelftestDone _ fail => optAll fail (fun p => decide (p < 8))
  | .vioFLoss _ => true
  | .safetyScan _ srb _ => srb.length == 4
  | .sinLevelAccept _ _ _ _ => true
  | .discrepancyTimeout _ _ => true
  | .supplyCut _ _ => true
  | .offPulseStart _ _ => true
  | .offPulseEnd _ _ => true
  | .readbackCheck _ _ _ => true
  | .backgroundSelftest _ fail => optAll fail (fun p => decide (p < 8))
  | .inputInjection _ _ => true
  | .clockCheckWindow _ _ => true
  | .scanDeadlineExpiry _ => true
  | .safUnlock _ => true
  | .passwordHashDone _ => true
  | .safStage _ => true
  | .safCommit _ => true
  | .safLock _ => true
  | .safDiscard _ => true
  | .lockoutEnd _ => true
  | .unlockTimeout _ => true
  | .refclkFailure _ _ => true
  | .refclkRecovered _ => true
  | .sroOkRise _ => true
  | .sroOkFall _ => true
  | .pllLockAcquired _ => true
  | .pllLockLoss _ => true
  | .clockStopRestart _ => true
  | .lanePllLockLoss _ => true
  | .refReturn _ => true
  | .bellowsStart _ _ => true
  | .bellowsAbort _ => true
  | .bellowsUpdate _ => true
  | .domainSwitch _ _ _ => true
  | .domainRestart _ _ => true
  | .gateWrite _ _ => true
  | .temperMeasurement _ readings defects => readings.length == 24 && defects.all (fun q => decide (q.sensor < 24))
  | .resume _ => true
  | .mainSupplyLoss _ => true
  | .mainSupplyReturn _ => true
  | .cqThresholdReached _ => true
  | .cqCollapse _ => true
  | .harvesterStart _ => true
  | .harvesterStop _ => true
  | .ktUpdate _ => true
  | .logEntryWrite _ => true
  | .logFwWrite _ => true
  | .logReadLatch _ => true
  | .flush _ => true
  | .flushAgeExpiry _ => true
  | .journalBurstStart _ => true
  | .journalBurstVerify _ _ => true
  | .journalBurstRetry _ => true
  | .storeMeasurement _ _ _ => true
  | .recorderRecordWrite _ => true
  | .recEnableWrite _ _ => true
  | .rearm _ => true
  | .swtrig _ => true
  | .lcChangeRequest _ _ => true
  | .keyProg _ _ => true
  | .keyRevoke _ _ => true
  | .advImg _ => true
  | .advFw _ => true
  | .fuseBlowDone _ => true
  | .otpShadowCheck _ upsets => upsets.all (fun u => decide (u.reg < 3))
  | .arm _ => true
  | .disarm _ => true
  | .keepCmd _ => true
  | .wakeTimeReached _ => true
  | .dbgStart _ _ nonce => nonce.length == 32
  | .dbgVerify _ => true
  | .dbgVerifyDone _ => true
  | .dbgEnd _ => true
  | .challengeExpiry _ => true
  | .debugLockoutEnd _ => true
  | .lockstepMismatch _ _ pc => decide (pc < 2 ^ 64)
  | .watchdogExpiry _ _ pc => decide (pc < 2 ^ 64)
  | .watchdogHalf _ _ => true
  | .kick _ _ => true
  | .run1 _ => true
  | .run0 _ => true
  | .warmRestart _ => true
  | .patrolScrub _ errs => errs.all (fun e => decide (e.addr < 2 ^ 64))
  | .mtimerMatch _ _ => true
  | .mtimeLoRead _ => true
  | .plicClaim _ _ => true
  | .plicComplete _ _ id => decide (id < 2 ^ 32)
  | .xspiCommand _ _ => true
  | .xspiCommandDone _ _ data _ => decide (data.length ≤ 64)
  | .xspiTimeout _ => true
  | .ddrTemperatureHigh _ => true
  | .pornAssert _ => true
  | .pornRise _ straps => decide (straps < 512)
  | .refOkWaitTimeout _ => true
  | .ddrTrainingDone _ _ gib => gib == 2 || gib == 4 || gib == 8
  | .uartRecoveryBeacon _ => true
  | .uartRecoveryContainer _ _ => true
  | .uartRecoveryGapTimeout _ => true
  | .registerWrite _ addr _ => decide (addr < 2 ^ 64)
  | .lanePllLockAcquired _ => true
  | .sdcClockReturn _ _ => true
  | .fltPinHigh _ _ => true
  | .prbsCheckerLock _ _ => true
  | .prbsBitError _ _ => true
  | .messageCrcFail _ _ => true
  | .unknownMessage _ _ => true
  | .gpioEdge _ _ _ => true

end Sys2Proof
end

