-- ==== Sys2Proof/Tests/Slice0.lean ====
section
/-! SUPPORT. Tests/Slice0.lean: for every statement with hypotheses a theorem that shows states and operands that meet them, the checks of
WellFormed refusing an ill-formed command each, and single commands with the results the spec gives. -/

namespace Sys2Proof.Tests

open Sys2Proof Sys2Proof.Machine

set_option Elab.async false
set_option maxRecDepth 200000

/-- The state after reset with its device changed. -/
def at0 (f : Dev → Dev) : State := { State.reset with dev := f State.reset.dev }

/-- Registers set to words. -/
def R (l : List (Nat × Nat)) (d : Dev) : Dev := l.foldl (fun d p => d.wrN p.1 p.2) d

/-- Every gate's unit runs. -/
def runsAll (d : Dev) : Bool := d.runs && (List.range 15).all d.runsIn && (List.range 15).all d.clocked

/-- Every unit runs in the changed state, and the device as a command at `t` finds it satisfies `p`. -/
def meets (t : Nat) (f : Dev → Dev) (p : Dev → Bool) : Bool := runsAll (at0 f).dev && p ((at0 f).arrive t).dev

/-- The device after a command at the changed state; the device before where the command stops. -/
def after (c : Instr) (s : State) : Dev := match exec c s with | .next s' => s'.dev | _ => s.dev

/-- The command completes with a device that satisfies `p`. -/
def gives (c : Instr) (f : Dev → Dev) (p : Dev → Bool) : Bool := p (after c (at0 f))

/-- A request without data. -/
def req (src arrive : Nat) : EvReq := { src := src, arrive := arrive, code := 0, data := [] }

/-- An event without data. -/
def evt (dst : Nat) : Ev := { src := 1, seq := 7, stamp := 0, dst := dst, due := 0, code := 0, data := [] }

/-- The device with these requests and events at the Anvil. -/
def anv (rs : List EvReq) (es : List Ev) (d : Dev) : Dev := { d with anv := { d.anv with reqs := rs, evs := es } }

/-- An image that maps channel 0 to leg 0 of phase U of bridge 2 and channel 1 to leg 1, with no block. -/
def img : Image :=
  { periodFc := 5000, flags := 0, tref := 0, errlim := 100, chmap := [(2, 0, 0), (2, 0, 1)], bridges := List.replicate 6 (0, 0), regs := [],
    graph := { rates := [(1, 0)], sigs := [], blks := [] }, setA := [], setB := [], activeSet := 0, structBytes := [], safety := [], hash := [], gen := 0,
    secVer := 0 }

/-- That image runs. -/
def loaded (d : Dev) : Dev := { d with img := { d.img with run := some img } }

/-- The device as a command at `t` finds it satisfies `p`, whether or not the domains run. -/
def sat (t : Nat) (f : Dev → Dev) (p : Dev → Bool) : Bool := p ((at0 f).arrive t).dev

/-- The domains run in a state with this memory, the memory is canonical, and memory and device satisfy `p`. -/
def meetsM (mem : Memory) (f : Dev → Dev) (p : Memory → Dev → Bool) : Bool :=
  runsAll (at0 f).dev && mem.wf && p mem ((at0 f).arrive 0).dev

/-- A descriptor at the start of system SRAM, owned by the device, the last of its frame, for 64 bytes at 0x08001000. -/
def desc : Memory := [(0x08000001, 0x10), (0x08000003, 0x08), (0x08000008, 0x40), (0x0800000B, 0xA0)]

/-- Port 0 receives and sends, its ring 1 in each direction holds that descriptor. -/
def rings (d : Dev) : Dev :=
  R [(Reg.ETH_P_CTRL 0, 0xC0000000), (Reg.ETH_P_STAT 0, 0x80000000), (Reg.ETH_P_RXR_BASE_LO 0 1, 0x08000000), (Reg.ETH_P_RXR_LEN 0 1, 2),
    (Reg.ETH_P_RXR_TAIL 0 1, 1), (Reg.ETH_P_RXR_CTRL 0 1, 1), (Reg.ETH_P_TXR_BASE_LO 0 1, 0x08000000), (Reg.ETH_P_TXR_LEN 0 1, 2),
    (Reg.ETH_P_TXR_TAIL 0 1, 1), (Reg.ETH_P_TXR_CTRL 0 1, 1)] d

/-- A broadcast frame of 64 bytes. -/
def bcast : List Byte := List.replicate 12 0xFF ++ List.replicate 52 0

/-- A PAUSE frame of 2 quanta. -/
def pauseFrame : List Byte := [0x01, 0x80, 0xC2, 0, 0, 0x01] ++ List.replicate 6 0 ++ [0x88, 0x08, 0, 1, 0, 2] ++ List.replicate 46 0

/-- A SAFETY section with one iteration and these items; its password is eight times the letter A. -/
def section_ (items : List (Nat × Nat)) : List Byte :=
  leBytes 4 0 ++ leBytes 4 1 ++ List.replicate 24 0 ++
    [108, 216, 34, 26, 104, 218, 206, 25, 7, 74, 122, 161, 45, 203, 117, 7, 192, 53, 28, 145, 39, 229, 18, 1, 14, 254, 82, 8, 3, 14, 179, 134, 228, 194, 242, 7, 43, 40, 41, 195,
      37, 135, 69, 6, 115, 179, 251, 82] ++ leBytes 4 items.length ++ List.replicate 12 0 ++ items.flatMap fun p => leBytes 4 p.1 ++ leBytes 4 p.2

/-- The sequencer works on that section, in the given state of SAF_STAT. -/
def saf (stat : Nat) (items : List (Nat × Nat)) (d : Dev) : Dev :=
  let d := R [(Reg.SAF_STAT, stat)] d
  { d with saf := { d.saf with copy := section_ items } }

/-- Twelve words whose bytes in order are the 48 bytes of a number, the most significant first. -/
def wordsOf (n : Nat) : List Word := (List.range 12).map fun i => BitVec.ofNat 32 (leNat (leBytes 4 (n / 2 ^ (352 - 32 * i))).reverse)

/-- A signature of 64 zero bytes with the private key 1, whose public key is the generator. -/
def sigR : Nat := 35772759585181787162268297474325652116815155765657644698345476493584618538330055829427528668512916462287191873719067
def sigS : Nat := 4074821009526827419283200750539029236008747787398411289810506531969803580324567115642583846193106828507833627308650

/-- A search of a transmit ring found a frame in descriptor 0. -/
def sent0 (r : Except Unit (Option (List Nat))) : Bool := match r with | .ok (some l) => l == [0] | _ => false


/-- A block without parameters, a trigger or operation words. -/
def blk (id typ : Nat) (ins outs : List Nat) : BlkRec :=
  { id := id, typ := typ, ins := ins, outs := outs, rate := 0, noShare := false, sheddable := false, trigger := 0xFFFF, pIdx := 0, nPar := 0, ops := [] }

/-- The Hearth holds these blocks, four signals and these parameter words in both sets. -/
def graphOf (l : List BlkRec) (par : List Word) (d : Dev) : Dev :=
  let sig : SigRec := { typ := 0, rate := 0, cls := 0, tap := false, init := 0 }
  { d with hrt := { d.hrt with
      graph := { rates := [(1, 0)], sigs := List.replicate 4 sig, blks := l }, setA := par, setB := par, rt := List.replicate l.length (BlkRt.fresh 0)
      sig := List.replicate 4 0, copy := List.replicate 4 0, tap := List.replicate 4 0 } }

/-- Two blocks, the second reads what the first writes; each is a task of its own, of engines 1 and 0, both due, the second not begun. -/
def twoTasks (d : Dev) : Dev :=
  let d := graphOf [blk 1 0x0004 [3] [0, 2], blk 2 0x0004 [0] [1, 3]] (List.replicate 2 0) d
  let task (j e : Nat) : Task := { blks := [j], rate := 0, trig := 0xFFFF, noShare := false, eng := e }
  { d with hrt := { d.hrt with
      place := { tasks := [task 0 1, task 1 0], order := [[1], [0]], home := List.replicate 4 0, plan := [0, 0] }, due := [0, 1]
      eng := [{ Eng.init with todo := [1] }, { Eng.init with todo := [0] }] } }

/-- A run of block 0 in task 0 that ends at the instant 8, with these packet words. -/
def runOf (words : List PWord) : Run :=
  { task := 0, todo := [], cur := some { blk := 0, outs := [], words := words, st := [], prev := [], fe := none }, endAt := 8, fin := [], shadow := false }

/-- A packet of engine 0 whose words are eligible from the instant `elig`. -/
def packet (elig : Nat) : Packet := { eng := 0, blk := 0, task := 0, shadow := false, elig := elig, words := [{ dst := .sig 1, val := 9 }], granted := 0 }

/-- A HEARTBEAT of a partner in a pair state. -/
def beatOf (pair : Nat) : HeartbeatBody :=
  { frmCount := 0, pair := pair, power := 1, released := 0, t0 := 0, swapActive := 0, swapPending := 0, lost := 0, flt := 0 }

/-- CAPS of a partner of the other role with the same frame period. -/
def capsOf (major role : Nat) : CapsBody :=
  { major := major, minor := 0, role := role, siRev := 1, part := 0, fwVersion := 1, features := 0, imageHash := List.replicate 48 0, imageGen := 0, framePeriodFc := 5000 }

/-- The pair block changed. -/
def twn (f : TwnSt → TwnSt) (d : Dev) : Dev := { d with twn := f d.twn }

/-- A firmware container: 16 bytes of code, version 5, signed with the private key 1. -/
def fwBytes : List Byte :=
  [89, 76, 82, 70, 0, 1, 0, 1, 2, 0, 0, 150, 161, 161, 1, 0, 144, 1, 0, 0, 5] ++ List.replicate 27 0 ++ [16, 0, 0, 0, 0, 1, 0, 0, 16, 0, 0, 0,
    210, 112, 167, 124] ++ List.replicate 188 0 ++ [200, 14, 97, 5, 115, 0, 16] ++ List.replicate 13 0 ++ [89, 83, 73, 71, 1, 0, 0, 0, 170, 135,
    202, 34, 190, 139, 5, 55, 142, 177, 199, 30, 243, 32, 173, 116, 110, 29, 59, 98, 139, 167, 155, 152, 89, 247, 65, 224, 130, 84, 42, 56, 85,
    2, 242, 93, 191, 85, 41, 108, 58, 84, 94, 56, 114, 118, 10, 183, 141, 166, 24, 15, 104, 199, 255, 44, 110, 79, 61, 128, 165, 92, 226, 250,
    145, 224, 29, 172, 22, 31, 103, 5, 25, 182, 97, 79, 116, 253, 45, 201, 158, 119, 203, 128, 99, 135, 84, 225, 93, 37, 110, 124, 27, 21, 242,
    145] ++ List.replicate 24 0

/-- Its commit record. -/
def fwCommit : List Byte :=
  [65, 90, 67, 77, 2, 1, 0, 0, 144, 1, 0, 0, 0, 0, 0, 0, 0, 0, 0, 0, 221, 230, 104, 123, 0, 0, 0, 0, 31, 148, 58, 121]

/-- The cells of bytes at an address. -/
def cells (a : Nat) : List Byte → List Host.Cell
  | [] => []
  | b :: r => (a, b) :: cells (a + 1) r

/-- The container in slot 0, its commit record at the end of the firmware area. -/
def fwMem : Memory := (cells 0x20000000 fwBytes ++ cells 0x203FF000 fwCommit).filter fun p => p.2 != 0xFF

/-- The state after reset with that memory, with the generator as key 0, and with the device changed. -/
def fwState (f : Dev → Dev) : State :=
  { at0 (fun d => f (R [(Reg.SEC_KEY_STAT, 1)] d)) with mem := fwMem, otp := { Otp.init with keys := [some (P384.gx, P384.gy), none, none, none] } }

/-- A LIMIT block about to run for the first time, with nothing around it. -/
def env : BlkEnv :=
  { rec_ := blk 1 0x0004 [0] [1, 2], ts := 0, n := 1, p := 5000, a := [], b := [], actB := false, ins := [], st := [], prev := [], first := true, frame := 0,
    trig := (0, 0), derate := false, mode := 0, wrOk := false, swapOk := false, aged := 0, injSt := [], injPar := [], buf := [], parts := [], held := [], cohMin := [] }

/-! ## Ill-formed commands -/

/-- A memory error names an engine, an SRAM and a word that exist. -/
theorem test_wf_memory_errors :
    ([.frameT0 [⟨64, 1, 0, true⟩] [], .frameT0 [⟨0, 3, 0, true⟩] [], .frameT0 [⟨0, 0, 0, true⟩] [], .frameT0 [⟨0, 2, 2 ^ 14, true⟩] [], .frameT0 [] [256], .taskStart 0 0 0
    [⟨64, 1, 0, true⟩], .latestStartReached 0 0 0 [⟨64, 1, 0, true⟩], .collectEnd [64]] : List Instr).all (fun i => !i.wf) = true := by decide +kernel

/-- A sample names an input that exists. -/
theorem test_wf_samples :
    ([.inputDelivery 0 (.sdi 96 [] false), .inputDelivery 0 (.adc 56), .inputDelivery 0 (.cmp 48), .inputDelivery 0 (.enc 2), .inputDelivery 0 (.bridge 6)] : List
    Instr).all (fun i => !i.wf) = true := by decide +kernel

/-- The fields of CAPS and CAPS_ACK fit. -/
theorem test_wf_caps :
    ([.caps 0 0 (2 ^ 24) (capsOf 1 1), .caps 0 0 0 (capsOf 256 1), .caps 0 0 0 { capsOf 1 1 with minor := 256 }, .caps 0 0 0 (capsOf 1 256), .caps 0 0 0
    { capsOf 1 1 with siRev := 256 }, .caps 0 0 0 { capsOf 1 1 with part := 2 ^ 16 }, .caps 0 0 0 { capsOf 1 1 with fwVersion := 2 ^ 32 }, .caps 0 0 0
    { capsOf 1 1 with features := 2 ^ 32 }, .caps 0 0 0 { capsOf 1 1 with imageHash := [] }, .caps 0 0 0 { capsOf 1 1 with imageGen := 2 ^ 32 }, .caps 0 0 0
    { capsOf 1 1 with framePeriodFc := 2 ^ 32 }, .capsAck 0 0 (2 ^ 24) ⟨1, 0, 1, 0⟩, .capsAck 0 0 0 ⟨256, 0, 1, 0⟩, .capsAck 0 0 0 ⟨1, 256, 1, 0⟩, .capsAck 0 0 0 ⟨1, 0,
    256, 0⟩, .capsAck 0 0 0 ⟨1, 0, 1, 256⟩] : List Instr).all (fun i => !i.wf) = true := by decide +kernel

/-- The fields of HEARTBEAT fit. -/
theorem test_wf_heartbeat :
    ([.heartbeat 0 0 (2 ^ 24) (beatOf 1), .heartbeat 0 0 0 (beatOf 256), .heartbeat 0 0 0 { beatOf 1 with frmCount := 2 ^ 32 }, .heartbeat 0 0 0
    { beatOf 1 with power := 256 }, .heartbeat 0 0 0 { beatOf 1 with released := 256 }, .heartbeat 0 0 0 { beatOf 1 with t0 := 2 ^ 64 }, .heartbeat 0 0 0
    { beatOf 1 with swapActive := 2 ^ 16 }, .heartbeat 0 0 0 { beatOf 1 with swapPending := 2 ^ 16 }, .heartbeat 0 0 0 { beatOf 1 with lost := 2 ^ 96 }, .heartbeat 0 0 0
    { beatOf 1 with flt := 2 ^ 96 }] : List Instr).all (fun i => !i.wf) = true := by decide +kernel

/-- The fields of BLOCKS, STATE, PARAM, SWAP and RESULT fit. -/
theorem test_wf_mirror_messages :
    ([.blocks 0 0 (2 ^ 24) ⟨0, 0, []⟩, .blocks 0 0 0 ⟨2 ^ 16, 0, []⟩, .blocks 0 0 0 ⟨1, 1, [(0, 0)]⟩, .blocks 0 0 0 ⟨1, 0, [(2 ^ 32, 0)]⟩, .blocks 0 0 0 ⟨1, 0, [(0, 2 ^
    32)]⟩, .stateMsg 0 0 (2 ^ 24) ⟨0, []⟩, .stateMsg 0 0 0 ⟨2 ^ 32, []⟩, .stateMsg 0 0 0 ⟨0, [⟨2 ^ 32, 0, []⟩]⟩, .stateMsg 0 0 0 ⟨0, [⟨0, 2 ^ 16, []⟩]⟩, .paramMsg 0 0 (2 ^
    24) ⟨0, []⟩, .paramMsg 0 0 0 ⟨2 ^ 32, []⟩, .paramMsg 0 0 0 ⟨0, [⟨2 ^ 32, 0, 0, 0⟩]⟩, .paramMsg 0 0 0 ⟨0, [⟨0, 2 ^ 16, 0, 0⟩]⟩, .paramMsg 0 0 0 ⟨0, [⟨0, 0, 256, 0⟩]⟩,
    .swapMsg 0 0 (2 ^ 24) ⟨0, 0⟩, .swapMsg 0 0 0 ⟨2 ^ 32, 0⟩, .swapMsg 0 0 0 ⟨0, 2 ^ 16⟩, .resultMsg 0 0 (2 ^ 24) ⟨0, []⟩, .resultMsg 0 0 0 ⟨2 ^ 32, []⟩, .resultMsg 0 0 0
    ⟨0, [(96, 0, 0)]⟩] : List Instr).all (fun i => !i.wf) = true := by decide +kernel

/-- The fields of YIELD, YIELD_ACK and WITHDRAW fit. -/
theorem test_wf_handover_messages :
    ([.yieldMsg 0 0 (2 ^ 24) ⟨0, 0⟩, .yieldMsg 0 0 0 ⟨2 ^ 32, 0⟩, .yieldMsg 0 0 0 ⟨0, 256⟩, .yieldAckMsg 0 0 (2 ^ 24) ⟨0, true, 0⟩, .yieldAckMsg 0 0 0 ⟨2 ^ 32, true, 0⟩,
    .yieldAckMsg 0 0 0 ⟨0, true, 256⟩, .withdraw 0 0 (2 ^ 24) ⟨0⟩, .withdraw 0 0 0 ⟨256⟩] : List Instr).all (fun i => !i.wf) = true := by decide +kernel

/-- Measurements name what exists and fit what carries them. -/
theorem test_wf_measurements :
    ([.selfTestEnd 0 16, .lpSwapCmd 0 (2 ^ 16), .adcConversionDone 0 0 5 0 false none, .adcConversionDone 0 0 0 8192 false none, .adcConversionDone 0 0 0 (-8193) false
    none, .comparatorDecision 0 0 (2 ^ 14), .mtrSnap 0 16, .gdpTestEnd 0 (some 96), .laneBlockLockLoss 0 ⟨0, 15⟩, .temperMeasurement 0 (List.replicate 23 0) [],
    .temperMeasurement 0 (List.replicate 24 0) [⟨24, false⟩]] : List Instr).all (fun i => !i.wf) = true := by decide +kernel

/-- Safety, security and processor facts fit what carries them. -/
theorem test_wf_safety_and_security :
    ([.safetySelftestDone 0 (some 8), .backgroundSelftest 0 (some 8), .safetyScan 0 [true] true, .otpShadowCheck 0 [⟨3, 0⟩], .dbgStart 0 0 [], .lockstepMismatch 0 0 (2 ^
    64), .watchdogExpiry 0 0 (2 ^ 64), .patrolScrub 0 [⟨2 ^ 64, true⟩], .plicComplete 0 0 (2 ^ 32)] : List Instr).all (fun i => !i.wf) = true := by decide +kernel

/-- What the board and the bus bring fits. -/
theorem test_wf_board_and_bus :
    ([.ethFrameReceived 0 0 (List.replicate (2 ^ 14) 0) true, .xspiCommandDone 0 true (List.replicate 65 0) [], .pornRise 0 512, .ddrTrainingDone 0 true 1, .registerWrite 0
    (2 ^ 64) 0] : List Instr).all (fun i => !i.wf) = true := by decide +kernel

/-- The largest values that fit are accepted. -/
theorem test_wf_accepts :
    ([.frameT0 [⟨63, 2, 2 ^ 14 - 1, true⟩] [255], .inputDelivery 0 (.sdi 95 [] false), .caps 0 0 (2 ^ 16 - 1) (capsOf 255 255), .heartbeat 0 0 0 (beatOf 255),
      .pornRise 0 511, .registerWrite 0 (2 ^ 64 - 1) 0] : List Instr).all Instr.wf = true := by decide +kernel

/-! ## Single commands with the results the spec gives -/

/-- The front command runs and leaves the queue (the row's cut). -/
theorem test_step_takes_the_front :
    (match step { State.reset with pending := [.kick 5 0, .clrLat 6] } with | .next s => decide (s.pending = [.clrLat 6] ∧ s.now = 5) | _ => false) =
    true := by decide +kernel

/-- R67, step 7: frames start with FRM_COUNT at 0. -/
theorem test_first_t0_counts_frame_0 :
    (gives (.frameT0 [] []) (fun d => { R [(Reg.FRM_COUNT, 7)] d with frm := { d.frm with firstT0 := some 8 } }) fun d => d.running && d.frame == 0) =
    true := by decide +kernel

/-- FRM_COUNT advances by one at each T0 and wraps. -/
theorem test_t0_counts_up :
    (gives (.frameT0 [] []) (fun d => { R [(Reg.FRM_STAT, 8), (Reg.FRM_COUNT, 0xFFFFFFFF)] d with frm := { d.frm with nextT0 := 8 } }) fun d => d.frame == 0) =
    true := by decide +kernel

/-- R35, R39: an event takes the sequence number and is delivered 2 fc later. -/
theorem test_event_takes_a_number :
    (gives (.eventArrival 16) (fun d => { anv [req 3 16] [] d with time := { d.time with inc := 5 * 2 ^ 32 } }) fun d => d.rd Reg.ANV_SEQ == 1 && d.anv.evs.map (·.due) ==
    [48]) = true := by decide +kernel

/-- R39: the second delivery counts 2 and keeps the first number. -/
theorem test_event_reaches_the_latch :
    (gives (.eventDelivery 0) (anv [] [{ evt (2 ^ 16) with seq := 9 }] ∘ fun d => { d with anv := { d.anv with ht := [(1, 4)] } }) fun d => nth (0, 0) d.anv.ht 0 == (2, 4))
    = true := by decide +kernel

/-- R91: LIMIT to the range from -1 to 1. -/
theorem test_limit_block :
    ((runBlock { env with ins := [0x40000000], a := [0xBF800000, 0x3F800000] }).outs == [some 0x3F800000, some 2]) = true := by decide +kernel

/-- R207, R208: 3 N - 2 ones give N cubed. -/
theorem test_sinc3_full_scale :
    (sinc3 4 (List.replicate 10 true) == 64) = true := by decide +kernel

/-- R229, R230: at reset two of three decisions set the state, the latch and the event. -/
theorem test_comparator_needs_k_of_m :
    (gives (.comparatorDecision 0 47 8191) (fun d => R [(Reg.CMP_CH_CFG 47, 0x80000302), (Reg.CMP_CH_THR 47, 0)]
    { d with cmp := List.replicate 48 { raw := true, hist := [true, false], tested := 0 } }) fun d => d.cmpF 47 && d.cmpLatch 47 && d.anv.reqs.map (·.src) == [143]) =
    true := by decide +kernel

/-- R230: one of three does not. -/
theorem test_comparator_one_decision_is_not_enough :
    (gives (.comparatorDecision 0 47 8191) (R [(Reg.CMP_CH_CFG 47, 0x80000302), (Reg.CMP_CH_THR 47, 0)]) fun d => !d.cmpF 47) = true := by decide +kernel

/-- R226: an urgent request is held. -/
theorem test_urgent_request_is_held :
    (gives (.urgentRequest 0 0) (R [(Reg.ADC_URG 0, 7)]) fun d => (d.bank 0).urgHeld == some (7, 0) && d.bit (Reg.ADC_URG 0) 15) = true := by decide +kernel

/-- R319: CLEAR outside RUN_ARMED is refused. -/
theorem test_clear_needs_run_armed :
    (gives (.clear 0 5) id fun d => d.bit Reg.GDP_STAT 1 && d.quenched 5) = true := by decide +kernel

/-- R314: RESTORE of a channel that no bridge uses is refused. -/
theorem test_restore_needs_a_channel :
    (gives (.restore 0 95) id fun d => d.bit Reg.GDP_STAT 0) = true := by decide +kernel

/-- R348: a detected receiver takes the lane to stage 1. -/
theorem test_lane_detects :
    (gives (.rxDetectPulse 0 1 true) (R [(Reg.LNK_LN_CFG 1, 0xC0080000), (Reg.TWN_CFG, 0x80080800), (Reg.CLK_STAT, 0x08000000)]) fun d => d.stage 1 == 1) =
    true := by decide +kernel

/-- R327, R350: a partner of the same role is answered with reason 2. -/
theorem test_caps_of_the_same_role :
    (gives (.caps 0 0 1 (capsOf 1 0)) (R [(Reg.TWN_LANE, 3), (Reg.CLK_STAT, 0xD8000000)]) fun d => d.sent == [(1, 1, .capsAck
    { opMajor := 1, opMinor := 0, pairable := 0, reason := 2 })]) = true := by decide +kernel

/-- R342: a chip that is not STANDBY refuses with reason 1. -/
theorem test_yield_refused :
    (gives (.yieldMsg 0 0 1 { txFrm := 5, cause := 0 }) (R [(Reg.TWN_LANE, 4), (Reg.CLK_STAT, 0xD8000000)]) fun d => d.sent.map (·.2.2) == [.yieldAck
    { txFrm := 5, accept := false, reason := 1 }]) = true := by decide +kernel

/-- Annex 31B: two quanta of 512 bit times hold transmission for 102.4 ns, 819 units of 125 ps, at 10 Gbit/s. -/
theorem test_pause_frame :
    (gives (.ethFrameReceived 0 0 pauseFrame true) (R [(Reg.ETH_P_CTRL 0, 0xD0000000)] ∘ rings) fun d => (nth EthPort.init d.eth 0).pauseEnd == 819) =
    true := by decide +kernel

/-- R369: a committed increment is in force from the next PER cycle. -/
theorem test_increment_waits_for_per :
    (gives (.timIncCommit 1 5) id fun d => d.time.pend == some { at_ := 40, ofs := 0, inc := 5 * 2 ^ 32 }) = true := by decide +kernel

/-- TIM_INC_NS: an increment of 6 ns is refused. -/
theorem test_increment_out_of_range :
    (gives (.timIncCommit 0 6) id fun d => d.bit Reg.TIM_STAT 0 && d.time.pend == none) = true := by decide +kernel

/-- R125: a self-test lasts 120 ms. -/
theorem test_self_test_lasts_120_ms :
    (gives (.selfTestStart 0 63) (fun d => { d with plc := { d.plc with testDue := [{ eng := 63, reserved := false, fw := false }] } }) fun d => d.plc.test == some (63, 120
    * uMs) && d.engState 63 == 3) = true := by decide +kernel

/-- R149: a swap command takes effect at the second T0 after it. -/
theorem test_swap_waits_two_frames :
    (gives (.lpSwapCmd 0 0x8001) (R [(Reg.TWN_STAT, 0x30000000), (Reg.FRM_STAT, 8), (Reg.FRM_COUNT, 4)] ∘ fun d => { d with frm := { d.frm with nextT0 := 80000 } }) fun d
    => d.fld Reg.LP_SWAP_STAT 15 0 == 0x8001 && d.lp.swaps.map (·.frame) == [6, 6]) = true := by decide +kernel

/-- R72: a load while another is under check is ignored and sets BUSY_ERR. -/
theorem test_load_while_busy :
    (gives (.fullLoad 0) (R [(Reg.IMG_STAT, 1)]) fun d => d.bit Reg.IMG_STAT 8 && d.imgState == 1) = true := by decide +kernel

/-- R471: ARM on a device without an image is refused. -/
theorem test_arm_is_refused :
    (gives (.arm 0) id fun d => d.power != 2) = true := by decide +kernel

/-- R488: the highest priority is claimed, ties to the lowest number. -/
theorem test_claim_takes_the_highest :
    (gives (.plicClaim 0 0) (fun d => { d with cpu := { d.cpu with ipend := [5, 9, 7], prio := [(5, 1), (7, 3), (9, 3)], enab := [(0, 0xFFFFFFFF)] } }) fun d => d.answer ==
    7) = true := by decide +kernel

/-- R485, R487: a watchdog expiry stops its pair with cause 2. -/
theorem test_watchdog_names_its_cause :
    (gives (.watchdogExpiry (1000 * uMs) 0 0) (R [(Reg.SYS_WDT 0, 0x800003E8)]) fun d => d.fld Reg.SYS_CPU_STAT 4 3 == 2 && !d.bit Reg.SYS_CPU_STAT 0) =
    true := by decide +kernel

/-- R491: the correctable count stops at 0xFFFF. -/
theorem test_ecc_counter_saturates :
    (gives (.patrolScrub 0 [{ addr := 0x08000000, correctable := true }]) (R [(Reg.MEM_ECC, 0xFFFF0000)]) fun d => d.fld Reg.MEM_ECC 31 16 == 0xFFFF) =
    true := by decide +kernel

/-- R503: the beacon is YLRV and SYS_ID. -/
theorem test_beacon :
    (gives (.uartRecoveryBeacon 0) (fun d => { d with sys := { d.sys with recovery := true } }) fun d => d.uartOut.take 4 == [0x59, 0x4C, 0x52, 0x56] && d.uartOut.length ==
    8) = true := by decide +kernel

/-- R508: the fall of PORn ends the domains and keeps the trouble log's queue. -/
theorem test_porn_fall_keeps_the_keep_domain :
    (gives (.pornAssert 0) (fun d => { d with keep := { d.keep with kt := 77 } }) fun d => !d.runs && d.keep.kt == 77 && d.fld Reg.SYS_RST_CAUSE 1 0 == 1) =
    true := by decide +kernel

/-- R8: a write of a read-only register changes nothing. -/
theorem test_read_only_bits_stay :
    (gives (.registerWrite 0 Reg.ANV_SEQ 0xFFFFFFFF) id fun d => d.rd Reg.ANV_SEQ == 0 && !d.busError) = true := by decide +kernel

/-- R492: a misaligned register access answers with a bus error. -/
theorem test_misaligned_write :
    (gives (.registerWrite 0 (Reg.ANV_SEQ + 2) 0) id fun d => d.busError) = true := by decide +kernel

/-- No row of the table gives bits. -/
theorem test_no_row_gives_bits :
    ((decodeTableWord 32 0).isNone) = true := by decide +kernel

/-- R244: the first index after enabling homes the count. -/
theorem test_an_index_homes :
    (gives (.encIndex 0 ⟨1, List.replicate 4 true⟩) (fun d => (R [(Reg.ENCK_CFG 1, 0x84000000), (Reg.ENCK_WRAP 1, 4000), (Reg.ENCK_IDX 1, 0x20000), (Reg.ENCK_RAW 1, 1000)]
    d).setEnc 1 fun c => { c with homePend := true }) fun d => d.encIdxMode 1 == 2 && d.encR 1 == 0 && d.bit (Reg.ENCK_STAT 1) 2) = true := by decide +kernel

/-- R238: a level shorter than FILT + 1 samples is no edge. -/
theorem test_glitch_is_filtered :
    (filterLevel 3 [true, true, false] false == false && filterLevel 3 [true, true, true] false) = true := by decide +kernel

/-- R347: the second copy of a SEQ is dropped. -/
theorem test_a_word_of_the_other_lane_is_no_news :
    (gives (.withdraw 0 1 9 ⟨0⟩) (twn (fun t => { t with seqs := [9, 10], peer := some (beatOf 1) }) ∘ R [(Reg.TWN_LANE, 0x44)]) fun d => d.twn.peer.isSome) =
    true := by decide +kernel

/-- R9: a bit set in this PER cycle is not cleared by a write of the same cycle. -/
theorem test_a_new_occurrence_stays :
    (gives (.registerWrite 1 Reg.IMG_STAT 0xFFFFFFFF) (fun d => { R [(Reg.IMG_STAT, 0x180)] d with hwSet := [(Reg.IMG_STAT, 8)] }) fun d => d.bit Reg.IMG_STAT 8 && !d.bit
    Reg.IMG_STAT 7) = true := by decide +kernel

/-- R423: a gated unit takes no part. -/
theorem test_gated_units_stand_still :
    (gives (.comparatorDecision 0 47 8191) (R [(Reg.CLK_GATE, 0x3FFF), (Reg.CMP_CH_CFG 47, 0x80000101), (Reg.CMP_CH_THR 47, 0)]) fun d => !d.cmpF 47) =
    true := by decide +kernel

/-! ## Witnesses of hypotheses -/

/-- States that meet the hypotheses of FrameRegisterWrites, clause by clause. -/
theorem witness_FrameRegisterWrites :
    (meets 5 id fun d => d.running = false) = true ∧
    (meets 5 (R [(Reg.FRM_STAT, 8), (Reg.PWR_STAT, 2)]) fun d => d.running = true ∧ d.power = 2) = true ∧
    (meets 5 (R [(Reg.FRM_STAT, 8), (Reg.FRM_PERIOD, 1)]) fun d => d.running = true ∧ d.power ≠ 2 ∧ 0 < d.P) = true := by decide +kernel

/-- States that meet the hypotheses of PhaseReferenceAppliesFromTheNextT0, clause by clause. -/
theorem witness_PhaseReferenceAppliesFromTheNextT0 :
    (meets 0 (fun d => { R [(Reg.FRM_STAT, 8)] d with frm := { d.frm with nextT0 := 80000 } }) fun d => d.t0Due = some 80000) = true := by decide +kernel

/-- States that meet the hypotheses of EventsArriveAndReachTheirDestinations, clause by clause. -/
theorem witness_EventsArriveAndReachTheirDestinations :
    (meets 32 (anv [req 255 32, req 0 48] []) fun d => nextReq d.anv.reqs = some (req 255 32) ∧ (∀ q ∈ d.anv.reqs, q.src < 256)) = true ∧
    (meets 32 (R [(Reg.ANV_SRC_CFG 255, 0)]) fun d => d.bit (Reg.ANV_SRC_CFG 255) 0 = false) = true ∧
    (meets 32 (R [(Reg.ANV_SRC_CFG 255, 1)]) fun d => d.bit (Reg.ANV_SRC_CFG 255) 0 = true) = true ∧
    (meets 0 (anv [] [evt 0]) fun d => nextEv d.anv.evs = some (evt 0)) = true ∧
    (meets 0 (anv [] [evt (2 ^ 47)]) fun d => nextEv d.anv.evs = some (evt (2 ^ 47)) ∧ (evt (2 ^ 47)).dst = 2 ^ (16 + 31)) = true ∧
    (meets 0 (fun d => anv [] [evt (2 ^ 55)] (R [(Reg.REC_CTRL, 0)] d)) fun d => nextEv d.anv.evs = some (evt (2 ^ 55)) ∧ d.bit Reg.REC_CTRL 7 = false) = true ∧
    (meets 0 (fun d => anv [] [evt (2 ^ 55)] (R [(Reg.REC_CTRL, 0x80)] d)) fun d => nextEv d.anv.evs = some (evt (2 ^ 55)) ∧ d.bit Reg.REC_CTRL 7 = true) = true ∧
    (meets 0 (anv [] [evt (2 ^ 69)]) fun d => nextEv d.anv.evs = some (evt (2 ^ 69)) ∧ ((List.range 5).all fun b => d.bit (Reg.ADC_CTRL b) 29 = false)) = true ∧
    (meets 0 (anv [] [evt (2 ^ 70)]) fun d => nextEv d.anv.evs = some (evt (2 ^ 70))) = true ∧
    (meets 0 (anv [] [evt (2 ^ 71)]) fun d => nextEv d.anv.evs = some (evt (2 ^ 71)) ∧ d.keep.alive = true ∧ d.keep.queue.length < 512) = true ∧
    (meets 0 (anv [] [evt (2 ^ 73)]) fun d => nextEv d.anv.evs = some (evt (2 ^ 73))) = true := by decide +kernel

/-- States that meet the hypotheses of SigmaDeltaInputs, clause by clause. -/
theorem witness_SigmaDeltaInputs :
    (meets 0 (R [(Reg.SDM_CH_CFG 95, 0xA0000000)]) fun d => d.sdiEn 95 = true ∧ d.bit (Reg.SDM_CH_CFG 95) 29 = true ∧ d.sdiLost 95 = false ∧ d.streamDue 0 95 = true) =
      true ∧
    (meets 0 id fun d => d.sdiEn 95 = false) = true ∧
    (meets 0 (R [(Reg.SDM_CH_CFG 0, 0x80000000), (Reg.SDM_CLK_CFG 0, 0x00190000)]) fun d => d.sdiEn 0 = true ∧ d.fld (Reg.SDM_CLK_CFG (d.sdiClk 0)) 23 16 ≠ 0) = true ∧
    (meets 0 (R [(Reg.TWN_STAT, 0x60000000), (Reg.SDM_CLK_CFG 7, 0x80190000)]) fun d => d.pair = 3 ∧ d.bit (Reg.SDM_CLK_CFG 7) 31 = true ∧ d.sdm.driven = false ∧ nth
      false d.sdm.clkLost 7 = false) = true ∧
    (meets 0 (fun d => { d with sdm := { d.sdm with clkLost := List.replicate 8 true } }) fun d => nth false d.sdm.clkLost 7 = true) = true ∧
    (meets 0 (fun d => { R [(Reg.SDM_SPARE, 0x8000), (Reg.SDM_CH_CFG 0, 0x80000000), (Reg.SDM_CH_CFG 95, 0x80000000)] d with sdm := { d.sdm with spareFrames := 256 } })
      fun d => d.bit Reg.SDM_SPARE 15 = true ∧ d.bit Reg.SDM_SPARE 31 = false ∧ 256 ≤ d.sdm.spareFrames ∧ d.nextSdi (d.fld Reg.SDM_SPARE 6 0) = some 95) = true ∧
    (meets 0 (R [(Reg.SDM_CH_CFG 95, 0xA0000000), (Reg.SDM_SPARE, 0x805F)]) fun d => d.sdiEn 95 = true ∧ d.streamDue 0 95 = true ∧ d.sdiDisturbed 95 0 = false ∧ d.bit
      Reg.SDM_SPARE 15 = true ∧ d.bit Reg.SDM_SPARE 31 = false ∧ d.fld Reg.SDM_SPARE 6 0 = 95) = true ∧
    (meets 1 (fun d => { R [(Reg.SDM_CH_CFG 95, 0xA0000000)] d with sdm := { d.sdm with driven := true, ch := List.replicate 96 { SdiCh.init with outAt := some 0 } } })
      fun d => d.streamDue 1 95 = false) = true ∧
    (meets 9 (fun d => { d with sdm := { d.sdm with ch := List.replicate 96 { SdiCh.init with maskEnd := 9 } } }) fun d => (d.sdi 95).maskEnd ≤ 9 ∧ (d.sdi 95).maskEnd ≠
      0) = true ∧
    (meets 0 (R [(Reg.SDM_SPARE, 0)]) fun d => d.bit Reg.SDM_SPARE 15 = false) = true := by decide +kernel

/-- States that meet the hypotheses of Comparators, clause by clause. -/
theorem witness_Comparators :
    (meets 0 (R [(Reg.CMP_CH_CFG 47, 0x80000101)]) fun d => d.cmpEn 47 = true ∧ (d.gdp.test = none) ∧ d.bit (Reg.CMP_CH_CFG 47) 30 = false) = true ∧
    (meets 0 (R [(Reg.CMP_CH_CFG 47, 0xC0000101)]) fun d => d.cmpEn 47 = true ∧ d.bit (Reg.CMP_CH_CFG 47) 30 = true) = true ∧
    (meets 0 id fun d => (d.rw (Reg.CMP_CH_CFG 0) 0x80000000).cmpEn 0 = true ∧ (d.rw (Reg.CMP_CH_CFG 0) 0x80000000).cmpOk 0 = false) = true ∧
    (meets 0 id fun d => (d.rw (Reg.CMP_CH_CFG 0) 0x80000101).cmpEn 0 = true ∧ (d.rw (Reg.CMP_CH_CFG 0) 0x80000101).cmpOk 0 = true ∧ d.cmpEn 0 = false) = true ∧
    (meets 0 (R [(Reg.CMP_CH_CFG 0, 0x80000101)]) fun d => (d.rw (Reg.CMP_CH_CFG 0) 0x80000101).cmpOk 0 = true ∧ d.cmpEn 0 = true ∧ (d.rw (Reg.CMP_CH_CFG 0) 0).cmpEn 0 =
      false) = true ∧
    (meets 0 (fun d => { R [(Reg.CMP_CH_CFG 47, 0x80000101)] d with gdp := { d.gdp with test := some (1, 47, 0) } }) fun d => d.cmpEn 47 = true ∧ d.clocked 14 = true ∧
      d.testing 1 47 = true) = true := by decide +kernel

/-- States that meet the hypotheses of SarConversions, clause by clause. -/
theorem witness_SarConversions :
    (meets 0 (R [(Reg.ADC_CTRL 4, 0x80000000)]) fun d => d.freeSlice 4 = some 0 ∧ d.seqEn 4 = true ∧ d.spacingOk 4 0 = true ∧ (d.seqEntry 4 (d.bank 4).entry).sync = false
      ∧ (d.bank 4).group = none) = true ∧
    (meets 0 (fun d => (R [(Reg.ADC_CTRL 0, 0x80000000), (Reg.ADC_SEQ 0 0, 0x80000000)] d).setBank 0 fun k => { k with group := some (80000, 1) }) fun d => (d.freeSlice
      0).isSome ∧ d.seqEn 0 = true ∧ (d.seqEntry 0 0).sync = true ∧ (d.bank 0).group = some (80000, 0 + 1) ∧ d.spacingOk 0 0 = true) = true ∧
    (meets 80000 (fun d => { R [(Reg.FRM_STAT, 8), (Reg.ADC_CTRL 0, 0x80000000), (Reg.ADC_SEQ 0 0, 0x80000000)] d with frm := { d.frm with nextT0 := 80000 } }) fun d =>
      d.atGroup 0 = true ∧ d.spacingOk 0 80000 = true ∧ d.running = true ∧ d.frm.t0 + uPer < 80000 ∧ d.frm.nextT0 - (groupSize (syncRun ((d.seqTable 0).drop 0)) - 1) *
      d.spacing 0 / 2 = 80000) = true ∧
    (meets 1600 (fun d => d.setBank 0 fun k => { k with conv := [{ slice := 1, ch := 11, start := 0, entry := 0, num := 0, sync := none, drop := false }] }) fun d =>
      (d.bank 0).conv.find? (fun q => q.slice == 1 && decide (q.start + 200 * uNs ≤ 1600)) = some
      { slice := 1, ch := 11, start := 0, entry := 0, num := 0, sync := none, drop := false } ∧ (d.bank 0).nextOut = 0 ∧ (d.bank 0).wait = []) = true ∧
    (meets 0 id fun d => (d.bank 0).urgHeld = none) = true ∧
    (meets 80 (fun d => d.setBank 4 fun k => { k with urgHeld := some (0, 0) }) fun d => (d.bank 4).urgHeld = some (d.fld (Reg.ADC_URG 4) 3 0, 0) ∧ 0 + 10 * uNs ≤ 80 ∧
      (d.bank 4).group = none ∧ d.adc.mcalEnd = none ∧ (d.freeSlice 4).isSome) = true ∧
    (meets 80 (fun d => d.setBank 4 fun k => { k with urgHeld := some (1, 0) }) fun d => (d.bank 4).urgHeld = some (1, 0) ∧ 1 ≠ d.fld (Reg.ADC_URG 4) 3 0) = true ∧
    (meets 80 (fun d => d.setBank 4 fun k =>
      { k with urgHeld := some (1, 0), conv := [{ slice := 0, ch := 0, start := 8, entry := 0, num := 0, sync := none, drop := false }, { slice := 1, ch := 1, start := 16, entry := 0, num := 1, sync := none, drop := false }] })
      fun d => d.freeSlice 4 = none ∧ (∀ p ∈ (d.bank 4).conv, p.start ≤ 16)) = true ∧
    (meets 0 (R [(Reg.ADC_CTRL 0, 0x80000000)]) fun d => d.seqEn 0 = true ∧ (d.rw (Reg.ADC_CTRL 0) 0x80010000).seqLen 0 ≠ d.seqLen 0) = true ∧
    (meets 0 id fun d => (d.rw (Reg.ADC_CTRL 0) 0x800003E8).adcBankOk 0 = true ∧ d.seqEn 0 = false ∧ (d.rw (Reg.ADC_CTRL 0) 0x800003E8).seqEn 0 = true) = true ∧
    (meets 0 (fun d => (R [(Reg.ADC_CTRL 0, 0x80000000)] d).setBank 0 fun k => { k with group := some (0, 1) }) fun d => (d.rw (Reg.ADC_CTRL 0) 1000).adcBankOk 0 = true ∧
      d.seqEn 0 = true ∧ (d.rw (Reg.ADC_CTRL 0) 1000).seqEn 0 = false ∧ (d.rw (Reg.ADC_CTRL 0) 1000).seqLen 0 = d.seqLen 0 ∧ (d.bank 0).group ≠ none) = true ∧
    (meets 0 id fun d => d.seqEn 4 = false ∧ d.atGroup 4 = false) = true ∧
    (meets 1600 (fun d => d.setBank 1 fun k => { k with conv := [{ slice := 1, ch := 11, start := 0, entry := 64, num := 0, sync := none, drop := false }] }) fun d =>
      (d.bank 1).conv.find? (fun q => q.slice == 1 && decide (q.start + 200 * uNs ≤ 1600)) = some
      { slice := 1, ch := 11, start := 0, entry := 64, num := 0, sync := none, drop := false }) = true ∧
    (meets 1600 (fun d => d.setBank 1 fun k => { k with conv := [{ slice := 1, ch := 11, start := 0, entry := 3, num := 0, sync := none, drop := true }] }) fun d =>
      (d.bank 1).conv.find? (fun q => q.slice == 1 && decide (q.start + 200 * uNs ≤ 1600)) = some
      { slice := 1, ch := 11, start := 0, entry := 3, num := 0, sync := none, drop := true }) = true ∧
    (meets 1599 (fun d => d.setBank 1 fun k => { k with conv := [{ slice := 1, ch := 11, start := 0, entry := 3, num := 0, sync := none, drop := true }] }) fun d =>
      (d.bank 1).conv.find? (fun q => q.slice == 1 && decide (q.start + 200 * uNs ≤ 1599)) = none) = true := by decide +kernel

/-- States that meet the hypotheses of SarCalibration, clause by clause. -/
theorem witness_SarCalibration :
    (meets 0 (R [(Reg.ADC_CTRL 0, 0x40000000), (Reg.ADC_SLICE 0, 0x00040000)]) fun d => d.bit (Reg.ADC_CTRL 0) 30 = true ∧ d.darning 0 < 5) = true ∧
    (meets (10 * uMs) (fun d => (R [(Reg.ADC_CTRL 3, 0x4000000A), (Reg.ADC_SLICE 3, 0x00040000)] d).setBank 3 fun k => { k with darnReady := true }) fun d => d.bit
      (Reg.ADC_CTRL 3) 30 = true ∧ d.rotLast 3 (10 * uMs) > Nat.max (d.bank 3).rotAt d.sys.pornAt ∧ d.darning 3 ≠ 7 ∧ d.bankFaulted 3 = false ∧ (d.bank 3).darnReady = true
      ∧ d.inService 3 ≠ []) = true ∧
    (meets 0 id fun d => d.seqEn 4 = false ∧ d.bit Reg.ADC_MCAL 0 = false ∧ ((List.range 4).all fun m => d.bit (Reg.MTR_MP_CFG m) 31 = false)) = true ∧
    (meets 0 (R [(Reg.MTR_MP_CFG 3, 0x80000000)]) fun d => d.bit (Reg.MTR_MP_CFG 3) 31 = true) = true ∧
    (meets (1800 * uUs) (fun d => { d with adc := { d.adc with mcalEnd := some (1800 * uUs) } }) fun d => d.adc.mcalEnd = some (1800 * uUs) ∧ d.fld Reg.SYS_BOOT 3 0 ≠ 8)
      = true ∧
    (decide (0x7000 ≤ (calFactors 0 (7373 * 256)).1 ∧ (calFactors 0 (7373 * 256)).1 ≤ 0x9000 ∧ (calFactors 0 (7373 * 256)).2.natAbs ≤ 16 * 64)) = true ∧
    (decide (¬ ((calFactors (64 * 256 + 9) (7373 * 256)).2.natAbs ≤ 16 * 64))) = true ∧
    (meets 0 (R [(Reg.ADC_CTRL 3, 0x4000000A)]) fun d => d.rotLast 3 0 ≤ Nat.max (d.bank 3).rotAt d.sys.pornAt ∧ d.bit (Reg.ADC_CTRL 3) 30 = true) = true ∧
    (meets 1600 (fun d => (R [(Reg.ADC_CTRL 3, 0x40000000), (Reg.ADC_SLICE 3, 0x00040000)] d).setBank 3 fun k =>
      { k with marked := some 3, conv := [{ slice := 3, ch := 11, start := 0, entry := 0, num := 0, sync := none, drop := false }] }) fun d => d.darning 3 < 5 ∧ 3 ≠
      d.darning 3 ∧ (d.bank 3).conv.find? (fun q => q.slice == 3 && decide (q.start + 200 * uNs ≤ 1600)) = some
      { slice := 3, ch := 11, start := 0, entry := 0, num := 0, sync := none, drop := false } ∧ ((d.bank 3).conv.erase
      { slice := 3, ch := 11, start := 0, entry := 0, num := 0, sync := none, drop := false }).all (fun q => q.slice != 3) = true ∧ (d.bank 3).marked = some 3 ∧ d.bit
      (Reg.ADC_CTRL 3) 30 = true ∧ (d.bank 3).group = none) = true ∧
    (decide ((97 : Int) > 96 ∧ 96 < ((16 * 7373 + 97 : Int) - 16 * 7373).natAbs ∧ ¬ 96 < ((16 * 7373 + 96 : Int) - 16 * 7373).natAbs)) = true := by decide +kernel

/-- States that meet the hypotheses of EncoderCountingAndSerial, clause by clause. -/
theorem witness_EncoderCountingAndSerial :
    (meets 0 id fun d => d.encEn 0 = false) = true ∧
    (meets 0 (fun d => (R [(Reg.ENCK_CFG 1, 0x80000000), (Reg.ENCK_WRAP 1, 1)] d)) fun d => d.encEn 1 = true ∧ d.encSerial 1 = false ∧ filterLevel (d.encFilt 1) [true]
      (d.encCh 1).a ≠ (d.encCh 1).a ∧ filterLevel (d.encFilt 1) [true] (d.encCh 1).b ≠ (d.encCh 1).b ∧ filterLevel (d.encFilt 1) [false] (d.encCh 1).b = (d.encCh 1).b ∧
      (d.encCh 1).loaded = none ∧ d.fld (Reg.ENCK_CFG 1) 28 27 = 0 ∧ 0 < d.encWrap 1) = true ∧
    (meets 0 (fun d => (R [(Reg.ENCK_CFG 1, 0x90000000), (Reg.ENCK_WRAP 1, 1)] d).setEnc 1 fun c => { c with lastUp := some true }) fun d => d.encEn 1 = true ∧ d.fld
      (Reg.ENCK_CFG 1) 28 27 = 2 ∧ filterLevel (d.encFilt 1) [true] (d.encCh 1).a = true ∧ (d.encCh 1).a = false ∧ (d.encCh 1).lastUp = some (!false)) = true ∧
    (meets 0 (fun d => (R [(Reg.ENCK_CFG 0, 0x84000000), (Reg.ENCK_WRAP 0, 2), (Reg.ENCK_RAW 0, 1)] d).setEnc 0 fun c => { c with homePend := true }) fun d => filterLevel
      (d.encFilt 0) [true] (d.encCh 0).z = true ∧ (d.encCh 0).z = false ∧ d.encEn 0 = true ∧ d.encSerial 0 = false ∧ (d.encCh 0).loaded = none ∧ 0 < d.encWrap 0 ∧ d.encR 0
      < d.encWrap 0 ∧ d.encIdxMode 0 = 2 ∧ (d.encCh 0).homePend = true) = true ∧
    (meets 0 (R [(Reg.ENCK_CFG 0, 0x82000000), (Reg.ENCK_WRAP 0, 100), (Reg.ENCK_RAW 0, 3), (Reg.ENCK_IDX 0, 3)]) fun d => filterLevel (d.encFilt 0) [true] (d.encCh 0).z
      = true ∧ (d.encCh 0).z = false ∧ d.encEn 0 = true ∧ d.encSerial 0 = false ∧ (d.encCh 0).loaded = none ∧ 0 < d.encWrap 0 ∧ d.encR 0 < d.encWrap 0 ∧ d.encIdxMode 0 = 1
      ∧ (encDiff (d.encWrap 0) (d.encR 0)).natAbs ≤ d.fld (Reg.ENCK_IDX 0) 7 0) = true ∧
    (meets 0 (R [(Reg.ENCK_CFG 0, 0x82000000), (Reg.ENCK_WRAP 0, 100), (Reg.ENCK_RAW 0, 4), (Reg.ENCK_IDX 0, 3)]) fun d => filterLevel (d.encFilt 0) [true] (d.encCh 0).z
      = true ∧ (d.encCh 0).z = false ∧ d.encEn 0 = true ∧ d.encSerial 0 = false ∧ (d.encCh 0).loaded = none ∧ 0 < d.encWrap 0 ∧ d.encR 0 < d.encWrap 0 ∧ d.encIdxMode 0 = 1
      ∧ d.fld (Reg.ENCK_IDX 0) 7 0 < (encDiff (d.encWrap 0) (d.encR 0)).natAbs ∧ d.fld (Reg.ENCK_IDX 0) 15 8 < 2) = true ∧
    (meets (10 * uUs) (fun d => (R [(Reg.ENCK_CFG 0, 0xC0000000), (Reg.ENCK_WRAP 0, 100), (Reg.ENCK_SER 0, 0x00010080), (Reg.ENCK_STAT 0, 4)] d).setEnc 0 fun c =>
      { c with serStart := some (1, false) }) fun d => d.encEn 0 = true ∧ d.encSerial 0 = true ∧ (d.encCh 0).serStart = some (1, false) ∧ d.serialEnd 0 1 ≤ 10 * uUs ∧ d.bit
      (Reg.ENCK_SER 0) 8 = false ∧ d.bit (Reg.ENCK_SER 0) 6 = false ∧ 0 < d.encWrap 0 ∧ d.bit (Reg.ENCK_STAT 0) 2 = true) = true ∧
    (meets 1600 (R [(Reg.ENCK_CFG 0, 0x80000000), (Reg.ENCK_WRAP 0, 65536)]) fun d => d.encEn 0 = true ∧ d.encSerial 0 = false ∧ d.encWrap 0 ≤ 65536 ∧ (d.encCh
      0).obs.lastU + 200 * uNs ≤ 1600) = true ∧
    (meets 0 (R [(Reg.ENCK_CFG 1, 0x90000000), (Reg.ENCK_WRAP 1, 1)]) fun d => d.encEn 1 = true ∧ d.encSerial 1 = false ∧ (d.encCh 1).loaded = none ∧ d.fld (Reg.ENCK_CFG
      1) 28 27 = 2 ∧ filterLevel (d.encFilt 1) [] (d.encCh 1).a = (d.encCh 1).a) = true ∧
    (meets 39 (fun d => (R [(Reg.ENCK_CFG 1, 0x80000000), (Reg.ENCK_WRAP 1, 8)] d).setEnc 1 fun c =>
      { c with loaded := some { cycle := 0, value := 7, raw := 0, pos := 0, turns := 0, rev := false, lastUp := none, homePend := false } }) fun d => d.encEn 1 = true ∧
      d.encSerial 1 = false ∧ ((d.encCh 1).loaded.map (·.cycle)) = some (39 / uPer)) = true ∧
    (meets 0 (R [(Reg.ENCK_CFG 0, 0x80000000)]) fun d => filterLevel (d.encFilt 0) [true] (d.encCh 0).z = true ∧ (d.encCh 0).z = false ∧ d.encEn 0 = true ∧ d.encSerial 0
      = false ∧ d.encIdxMode 0 = 0 ∧ (d.encCh 0).loaded = none ∧ d.running = false) = true ∧
    (meets 0 (R [(Reg.ENCK_CFG 0, 0x82000000), (Reg.ENCK_WRAP 0, 100), (Reg.ENCK_RAW 0, 4), (Reg.ENCK_IDX 0, 0x0203), (Reg.ENCK_STAT 0, 0x01000000), (Reg.ENCK_IDXERR 0,
      4)]) fun d => filterLevel (d.encFilt 0) [true] (d.encCh 0).z = true ∧ (d.encCh 0).z = false ∧ d.encEn 0 = true ∧ d.encSerial 0 = false ∧ (d.encCh 0).loaded = none ∧ 0
      < d.encWrap 0 ∧ d.encR 0 < d.encWrap 0 ∧ d.fld (Reg.ENCK_IDX 0) 7 0 < (encDiff (d.encWrap 0) (d.encR 0)).natAbs ∧ d.fld (Reg.ENCK_IDX 0) 15 8 = Nat.min (d.fld
      (Reg.ENCK_STAT 0) 31 24 + 1) 255 ∧ (d.rd (Reg.ENCK_IDXERR 0)).toNat = d.encR 0) = true ∧
    (meets 75960 (fun d =>
      { R [(Reg.ENCK_SERT 0, 500), (Reg.ENCK_CFG 0, 0xC0000000), (Reg.FRM_STAT, 8), (Reg.FRM_PERIOD, 5000)] d with frm := { d.frm with nextT0 := 80000 } }) fun d => d.encEn
      0 = true ∧ d.encSerial 0 = true ∧ d.serialDue 75960 0 = true) = true ∧
    (meets 79800 (fun d => { R [(Reg.ENCK_CFG 0, 0xC0000000), (Reg.FRM_STAT, 8), (Reg.FRM_PERIOD, 5000)] d with frm := { d.frm with nextT0 := 80000 } }) fun d =>
      d.serialDue 79800 0 = false) = true ∧
    (meets (10 * uUs) (fun d => (R [(Reg.ENCK_CFG 0, 0xC0000000), (Reg.ENCK_SER 0, 0x00010084)] d).setEnc 0 fun c => { c with serStart := some (1, true) }) fun d =>
      d.encEn 0 = true ∧ d.encSerial 0 = true ∧ (d.encCh 0).serStart = some (1, true) ∧ d.serialEnd 0 1 ≤ 10 * uUs ∧ (d.encCh 0).serErrRun + 1 = d.fld (Reg.ENCK_SER 0) 5 2)
      = true ∧
    (meets 1 (fun d => (R [(Reg.ENCK_CFG 0, 0xC0000000)] d).setEnc 0 fun c => { c with serStart := some (1, true) }) fun d => (d.encCh 0).serStart = some (1, true) ∧ 1 <
      d.serialEnd 0 1) = true ∧
    (meets 1599 (R [(Reg.ENCK_CFG 0, 0x80000000), (Reg.ENCK_WRAP 0, 65536)]) fun d => 1599 < (d.encCh 0).obs.lastU + 200 * uNs) = true ∧
    (filterLevel 2 [true, true, false] false == true) = true ∧
    (filterLevel 3 [true, true] false == false && filterLevel 2 [true, false] true == true) = true := by decide +kernel

/-- States that meet the hypotheses of EncoderRegisters, clause by clause. -/
theorem witness_EncoderRegisters :
    (meets 0 (R [(Reg.ENCK_CFG 1, 0x81100000), (Reg.ENCK_STAT 1, 0x40)]) fun d => d.encEn 1 = true ∧ d.bit (Reg.ENCK_CFG 1) 24 = true ∧ d.bit (Reg.ENCK_CFG 1) 20 = true ∧
      d.fld (Reg.ENCK_CFG 1) 23 22 = 0 ∧ d.bit (Reg.ENCK_STAT 1) 6 = true) = true ∧
    (meets 0 (R [(Reg.ENCK_CFG 1, 0x81200000)]) fun d => d.encEn 1 = true ∧ d.bit (Reg.ENCK_CFG 1) 24 = true ∧ d.bit (Reg.ENCK_CFG 1) 21 = true ∧ d.bit (Reg.ENCK_STAT 1)
      6 = false) = true ∧
    (meets 0 (R [(Reg.ENCK_WRAP 0, 8)]) fun d => d.encWrap 0 ≤ (8#32).toNat ∧ (7#32).toNat < d.encWrap 0) = true ∧
    (meets 0 (R [(Reg.ENCK_CFG 0, 0x80000000)]) fun d => d.encEn 0 = true ∧ (d.rw (Reg.ENCK_CFG 0) 0xC0000000).fld (Reg.ENCK_CFG 0) 30 0 ≠ d.fld (Reg.ENCK_CFG 0) 30 0) =
      true ∧
    (meets 0 id fun d => d.encEn 0 = false ∧ (d.rw (Reg.ENCK_CFG 0) 0x80000000).encEn 0 = true ∧ (d.rw (Reg.ENCK_CFG 0) 0x80000000).encValid 0 = true) = true ∧
    (meets 0 id fun d => d.bit Reg.ENC_EMU 31 = false ∧ (d.rw Reg.ENC_EMU 0).emuOk = true) = true ∧
    (meets 0 (R [(Reg.ENC_EMU_RATIO, 0x00010001)]) fun d => (d.rw Reg.ENC_EMU 0x80000000).emuOk = true ∧ (d.rw Reg.ENC_EMU 0x80000000).bit Reg.ENC_EMU 31 = true) = true ∧
    (meets 0 (R [(Reg.ENC_EMU_RATIO, 0x00020001)]) fun d => (d.rw Reg.ENC_EMU 0x80000000).emuOk = false) = true ∧
    (meets 0 (R [(Reg.ENCK_CFG 1, 0x81D00000)]) fun d => d.encEn 1 = true ∧ d.bit (Reg.ENCK_CFG 1) 24 = true ∧ d.fld (Reg.ENCK_CFG 1) 23 22 = 3 ∧ d.bit (Reg.ENCK_CFG 1)
      20 = true ∧ d.bit (Reg.ENCK_STAT 1) 6 = false ∧ (d.encCh 1).loaded = none) = true := by decide +kernel

/-- States that meet the hypotheses of Metering, clause by clause. -/
theorem witness_Metering :
    (meets 0 id fun d => d.mpEn 3 = false) = true ∧
    (meets 0 (R [(Reg.MTR_MP_CFG 3, 0x80000000)]) fun d => d.mpEn 3 = true ∧ d.ns 0 < 200000) = true ∧
    (meets 0 id fun d => d.bit (Reg.MTR_MP_STATE 0) 2 = false ∧ d.mpState 0 < 2) = true ∧
    (meets 0 (R [(Reg.MTR_MP_STATE 0, 2)]) fun d => d.bit (Reg.MTR_MP_STATE 0) 2 = false ∧ 2 ≤ d.mpState 0) = true ∧
    (meets 0 (R [(Reg.MTR_MP_STATE 0, 6)]) fun d => d.bit (Reg.MTR_MP_STATE 0) 2 = true) = true ∧
    (meets 0 (R [(Reg.MTR_MP_CFG 0, 0x80000000)]) fun d => d.mpEn 0 = true ∧ (d.rw (Reg.MTR_MP_CFG 0) 0x81000000).fld (Reg.MTR_MP_CFG 0) 30 0 ≠ d.fld (Reg.MTR_MP_CFG 0)
      30 0) = true ∧
    (meets 0 (R [(Reg.ADC_STAT, 0), (Reg.SDM_CH_CFG 0, 0x80000000), (Reg.SDM_CH_CFG 1, 0x80000000), (Reg.SDM_CH_CFG 2, 0x80000000), (Reg.MTR_MP_IM 0 0, 1), (Reg.MTR_MP_IM
      0 3, 2), (Reg.MTR_MP_IM 0 6, 4), (Reg.MTR_MP_CYC 0, 0x00640032)]) fun d => d.mpEn 0 = false ∧ (d.rw (Reg.MTR_MP_CFG 0) 0x80000000).mpEn 0 = true ∧ (d.rw
      (Reg.MTR_MP_CFG 0) 0x80000000).mtrEnOk 0 = true ∧ (d.rw (Reg.MTR_MP_CFG 0) 0x80000000).mtrRangesOk 0 = true) = true ∧
    (meets 0 (R [(Reg.MTR_MP_CFG 0, 0x80000000), (Reg.MTR_MP_STATE 0, 1)]) fun d => d.mpEn 0 = true ∧ (d.rw (Reg.MTR_MP_CFG 0) 0).mpEn 0 = false ∧ d.mpState 0 < 2 ∧ (d.mp
      0).addPend = none) = true ∧
    (meets 0 (fun d =>
      { (R [(Reg.MTR_MP_CFG 3, 0x80000000), (Reg.MTR_MP_CYC 3, 0x00640000)] d).setMp 3 (fun p => { p with lastK := some 1, kStart := some 1 }) with time := { d.time with base := 220000 * 2 ^ 32 } }
      |> fun e => { e with mtr := { e.mtr with vsrc := List.replicate 8 [⟨30000 * 2 ^ 32, 0, false⟩, ⟨20000 * 2 ^ 32, 0, false⟩] } }) fun d => d.mpEn 3 = true ∧ 200000 ≤
      d.ns 0 ∧ (d.ns 0 - 200000) / 10000 = 2 ∧ (d.mp 3).lastK = some 1 ∧ (d.mp 3).kStart = some 1 ∧ (d.mp 3).below = false ∧ (2 - 1) * 10 < d.fld (Reg.MTR_MP_CYC 3) 23 16 *
      1000 ∧ d.mpState 3 ≠ 1 ∧ ((match d.mpSample 3 2 with | (_, some (some _), 0) => true | _ => false) : Bool) = true) = true ∧
    (meets 0 (fun d =>
      { (R [(Reg.MTR_MP_CFG 3, 0x80000000), (Reg.MTR_MP_CYC 3, 0x00010000), (Reg.MTR_MP_STATE 3, 1)] d).setMp 3 (fun p => { p with lastK := some 1, kStart := some 2 }) with time := { d.time with base := 1220000 * 2 ^ 32 } }
      |> fun e => { e with mtr := { e.mtr with vsrc := List.replicate 8 [⟨1030000 * 2 ^ 32, 0, false⟩, ⟨1020000 * 2 ^ 32, 0, false⟩] } }) fun d => d.mpEn 3 = true ∧ 200000
      ≤ d.ns 0 ∧ (d.ns 0 - 200000) / 10000 = 102 ∧ (d.mp 3).lastK = some 1 ∧ (d.mp 3).kStart = some 2 ∧ d.fld (Reg.MTR_MP_CYC 3) 23 16 * 1000 ≤ (102 - 2) * 10 ∧ d.mpState 3
      = 1 ∧ ((match d.mpSample 3 102 with | (_, some (some _), 0) => true | _ => false) : Bool) = true) = true := by decide +kernel

/-- States that meet the hypotheses of PwmReloadsAndEdges, clause by clause. -/
theorem witness_PwmReloadsAndEdges :
    (meets 0 (R [(Reg.PWM_CH_CFG 95, 0x80000000), (Reg.PWM_CH_STAT 95, 0x10000000)]) fun d => d.pwmEn 95 = true ∧ d.pwmSrcList 95 = false ∧ d.pwmSrcPend 95 = false ∧
      (d.pch 95).sets = [] ∧ d.fltLow 95 = false ∧ d.pwmLock 95 = false ∧ d.shadowPend 95 = true) = true ∧
    (meets 0 (R [(Reg.PWM_CH_CFG 0, 0x84000000)]) fun d => d.pwmEn 0 = true ∧ d.pwmLock 0 = true ∧ d.shadowPend 0 = false ∧ d.pwmSrcList 0 = false ∧ d.pwmSrcPend 0 =
      false ∧ (d.pch 0).sets = [] ∧ d.fltLow 0 = false) = true ∧
    (meets 0 (fun d => (R [(Reg.PWM_CH_CFG 0, 0xD0000000), (Reg.PWM_CH_ACT_PER 0, 400000)] d).setPch 0 fun c => { c with begun := true }) fun d => (d.pch 0).begun = true
      ∧ (d.pch 0).peakDone = false ∧ d.pwmMode 0 = 2 ∧ d.bit (Reg.PWM_CH_CFG 0) 28 = true ∧ (d.pch 0).shPer = d.rd (Reg.PWM_CH_ACT_PER 0) ∧ d.pwmSrcList 0 = false ∧
      d.pwmSrcPend 0 = false ∧ (d.pch 0).sets = [] ∧ d.fltLow 0 = false) = true ∧
    (meets 8 (fun d => (R [(Reg.PWM_CH_CFG 0, 0x80000000), (Reg.PWM_CH_ACT_PER 0, 32), (Reg.PWM_CH_ACT_CMPU 0, 9)] d).setPch 0 fun c => { c with begun := true, dt := 1 })
      fun d => d.fltLow 0 = false ∧ d.pwmEn 0 = true ∧ (d.pch 0).begun = true ∧ d.pwmSrcList 0 = false ∧ d.pwmLock 0 = false ∧ (d.pch 0).minp = 0 ∧ (d.pch 0).deferred =
      none ∧ 0 < (d.pch 0).dt ∧ (d.pch 0).bound ≤ 8 ∧ 8 - (d.pch 0).bound < 8 * d.actPer 0 ∧ (d.pch 0).lastEdge = none ∧ d.pwmMode 0 = 0 ∧ 8 < (d.rd (Reg.PWM_CH_ACT_CMPU
      0)).toNat ∧ (d.pch 0).lastReload ≤ 8) = true ∧
    (meets 8 (fun d => d.setPch 0 fun c => { c with hiOn := some 8, loOn := some 9 }) fun d => (d.pch 0).hiOn = some 8 ∧ (d.pch 0).loOn = some 9 ∧ d.legLost 0 = false ∧
      d.chUse 0 = none ∧ (d.gch 0).relAt ≤ 8 ∧ (d.gch 0).gHi = false ∧ d.fld (Reg.GDP_CH_CFG 0) 13 0 ≠ 0) = true ∧
    (meets 8 (fun d => (R [(Reg.PWM_CH_CFG 0, 0x80000000), (Reg.PWM_CH_ACT_PER 0, 32), (Reg.PWM_CH_ACT_CMPU 0, 9)] d).setPch 0 fun c =>
      { c with begun := true, minp := 1, lastEdge := some 7 }) fun d => d.fltLow 0 = false ∧ d.pwmEn 0 = true ∧ (d.pch 0).begun = true ∧ d.pwmSrcList 0 = false ∧ d.pwmLock
      0 = false ∧ (d.pch 0).deferred = none ∧ d.pwmMode 0 = 0 ∧ (d.pch 0).bound ≤ 8 ∧ (d.pch 0).lastReload ≤ 8 ∧ 8 - (d.pch 0).bound < 8 * d.actPer 0 ∧ (d.pch 0).lastEdge =
      some 7 ∧ 8 < 7 + (d.pch 0).minp * uNs ∧ (d.pch 0).level = false ∧ (d.rd (Reg.PWM_CH_ACT_CMPU 0)).toNat = 9) = true ∧
    (meets 8 (fun d => (R [(Reg.PWM_CH_CFG 0, 0x80000000), (Reg.PWM_CH_ACT_PER 0, 32), (Reg.PWM_CH_ACT_CMPU 0, 0xFFFFFFFF)] d).setPch 0 fun c =>
      { c with begun := true, minp := 1, lastEdge := some 7 }) fun d => d.fltLow 0 = false ∧ d.pwmEn 0 = true ∧ (d.pch 0).begun = true ∧ d.pwmSrcList 0 = false ∧ d.pwmLock
      0 = false ∧ (d.pch 0).deferred = none ∧ d.pwmMode 0 = 0 ∧ (d.pch 0).bound ≤ 8 ∧ (d.pch 0).lastReload ≤ 8 ∧ 8 - (d.pch 0).bound < 8 * d.actPer 0 ∧ (d.pch 0).lastEdge =
      some 7 ∧ 8 < 7 + (d.pch 0).minp * uNs ∧ (d.pch 0).level = false ∧ (d.rd (Reg.PWM_CH_ACT_CMPU 0)).toNat = 0xFFFFFFFF) = true ∧
    (meets 8 (fun d => d.setPch 0 fun c => { c with loOn := some 8 }) fun d => (d.pch 0).loOn = some 8 ∧ d.fltLow 0 = false ∧ d.testing 0 0 = false) = true := by decide +kernel

/-- States that meet the hypotheses of PwmCommitsAndEnable, clause by clause. -/
theorem witness_PwmCommitsAndEnable :
    (meets 0 id fun d => d.pwmOwned 95 = false ∧ d.bit (Reg.PWM_CH_CFG 95) 27 = false ∧ tbit 2#32 0 = false ∧ tbit 2#32 1 = true) = true ∧
    (meets 0 (R [(Reg.PWM_CH_CFG 0, 0x08000000)]) fun d => d.pwmOwned 0 = false ∧ d.bit (Reg.PWM_CH_CFG 0) 27 = true) = true ∧
    (meets 0 (fun d =>
      { d with hrt := { d.hrt with setA := [95], graph := { d.hrt.graph with blks := [{ id := 1, typ := 0x4007, ins := [], outs := [], rate := 0, noShare := false, sheddable := false, trigger := 0xFFFF, pIdx := 0, nPar := 0, ops := [] }] } } })
      fun d => d.pwmOwned 95 = true) = true ∧
    (meets 0 (fun d => d.setPch 0 fun c => { c with elStage := List.replicate 8 0 }) fun d => 8 ≤ (d.pch 0).elStage.length ∧ (d.pch 0).elStage ≠ []) = true ∧
    (meets 0 (fun d => d.setPch 0 fun c => { c with elStage := List.replicate 7 0 }) fun d => (d.pch 0).elStage.length < 8) = true ∧
    (meets 32 (fun d => d.setPch 0 fun c => { c with sets := [{ present := 32, per := some 32, cmpu := none, cmpd := none }] }) fun d => (d.pch 0).sets =
      [{ present := 32, per := some 32, cmpu := none, cmpd := none }] ∧ d.pwmEn 0 = false) = true ∧
    (meets 32 (fun d => (R [(Reg.PWM_CH_CFG 0, 0x80000000)] d).setPch 0 fun c => { c with sets := [{ present := 32, per := some 32, cmpu := none, cmpd := none }] }) fun d
      => d.pwmEn 0 = true ∧ 32 / uNs ≠ d.nextReload 0 / uNs ∧ 32 / uNs ≠ (d.pch 0).lastReload / uNs ∧ d.pwmSrcList 0 = false ∧ d.pwmSrcPend 0 = false) = true ∧
    (meets 32 (fun d => d.setPch 0 fun c => { c with lists := [{ present := 32, words := [0x80001000] }] }) fun d => (d.pch 0).lists =
      [{ present := 32, words := [0x80001000] }] ∧ d.pwmEn 0 = false) = true ∧
    (meets 32 (fun d => (R [(Reg.PWM_CH_CFG 0, 0x80000000), (Reg.PWM_CH_STAT 0, 0x40000000)] d).setPch 0 fun c =>
      { c with lists := [{ present := 32, words := [0x80001000, 0x1001] }] }) fun d => d.pwmEn 0 = true ∧ d.fine 32 + 16 * 8 ≤ d.fine d.frm.t0 + natBits 0x80001000 30 0 ∧
      natBits 0x80001000 30 0 < natBits 0x1001 30 0 ∧ d.pwmSrcList 0 = true ∧ (d.pch 0).edges = []) = true ∧
    (meets 0 (R [(Reg.PWM_CH_CFG 0, 0x80000000)]) fun d => d.pwmEn 0 = true ∧ (d.rw (Reg.PWM_CH_CFG 0) 0xA0000000).fld (Reg.PWM_CH_CFG 0) 30 26 ≠ d.fld (Reg.PWM_CH_CFG 0)
      30 26) = true ∧
    (meets 0 id fun d => (d.rw (Reg.PWM_CH_CFG 0) 0xE0000000).pwmOk 0 = false) = true ∧
    (meets 0 id fun d => (d.rw (Reg.PWM_CH_CFG 0) 0x80000000).pwmOk 0 = true ∧ d.pwmEn 0 = false ∧ (d.rw (Reg.PWM_CH_CFG 0) 0x80000000).pwmEn 0 = true ∧ (d.rw
      (Reg.PWM_CH_CFG 0) 0x80000000).pwmLock 0 = false) = true ∧
    (meets 0 id fun d => (d.rw (Reg.PWM_CH_CFG 0) 0x84000000).pwmOk 0 = true ∧ (d.rw (Reg.PWM_CH_CFG 0) 0x84000000).pwmLock 0 = true) = true ∧
    (meets 0 (R [(Reg.PWM_CH_CFG 0, 0x80000000)]) fun d => (d.rw (Reg.PWM_CH_CFG 0) 0).pwmOk 0 = true ∧ (d.rw (Reg.PWM_CH_CFG 0) 0).fld (Reg.PWM_CH_CFG 0) 30 26 = d.fld
      (Reg.PWM_CH_CFG 0) 30 26 ∧ d.pwmEn 0 = true ∧ (d.rw (Reg.PWM_CH_CFG 0) 0).pwmEn 0 = false ∧ d.fltLow 0 = false) = true := by decide +kernel

/-- States that meet the hypotheses of FaultInputsAndBlanking, clause by clause. -/
theorem witness_FaultInputsAndBlanking :
    (meets 0 id fun d => (d.gch 95).pinLow = false) = true ∧
    (meets 800 (fun d => (R [(Reg.GDP_CH_CFG 95, 0x80000000)] d).setGch 95 fun g => { g with pinLow := true, winEnd := 801 }) fun d => d.fltEn 95 = true ∧ (d.gch
      95).pinLow = true ∧ d.fltLow 95 = false ∧ (d.gch 95).pinAt + (d.gch 95).filt * uNs ≤ 800 ∧ d.inWindow 800 95 = true ∧ (d.sdi 95).prot = false) = true ∧
    (meets 800 (fun d => (R [(Reg.GDP_CH_CFG 95, 0x80000000)] d).setGch 95 fun g => { g with pinLow := true, winEnd := 800 }) fun d => d.fltEn 95 = true ∧ d.inWindow 800
      95 = false ∧ (d.gch 95).gHi = false ∧ (d.gch 95).gLo = false) = true ∧
    (meets 800 (fun d => (R [(Reg.GDP_CH_CFG 0, 0x80000000), (Reg.GDP_BR_STAT 2, 0)] (loaded d)).setGch 0 fun g => { g with pinLow := true, gHi := true }) fun d =>
      d.fltEn 0 = true ∧ d.inWindow 800 0 = false ∧ (d.gch 0).gHi = true ∧ d.legLost 0 = false ∧ d.twn.pairHold = false ∧ d.img.hot = false ∧ d.chUse 0 = some (2, 0, 0) ∧
      d.quenched 2 = false ∧ ((List.range 96).all fun m => d.legLost m = false)) = true ∧
    (meets 800 (R [(Reg.GDP_CH_STAT 0, 0x10000000)]) fun d => (d.gch 0).pinLow = false ∧ d.fltLow 0 = true ∧ (d.gch 0).pinAt + (d.gch 0).filt * uNs ≤ 800) = true ∧
    (meets 8 (fun d => d.setGch 0 fun g => { g with winEnd := 9 }) fun d => 8 < (d.gch 0).winEnd) = true ∧
    (meets 8 (fun d => (R [(Reg.GDP_CH_STAT 0, 0x50000000)] d).setGch 0 fun g => { g with winEnd := 8 }) fun d => (d.gch 0).winEnd ≠ 0 ∧ (d.gch 0).winEnd ≤ 8 ∧ d.chUse 0
      = none ∧ d.bit (Reg.GDP_CH_STAT 0) 30 = true ∧ d.fltLow 0 = true ∧ d.legLost 0 = false ∧ d.twn.pairHold = false) = true ∧
    (meets 8 (fun d => (R [(Reg.GDP_CH_STAT 0, 0x60000000)] d).setGch 0 fun g => { g with winEnd := 8 }) fun d => d.bit (Reg.GDP_CH_STAT 0) 30 = true ∧ d.fltLow 0 = false
      ∧ d.bit (Reg.GDP_CH_STAT 0) 29 = true) = true ∧
    (meets 8 (fun d => (R [(Reg.GDP_CH_STAT 0, 0x40000000)] d).setGch 0 fun g => { g with winEnd := 8 }) fun d => d.bit (Reg.GDP_CH_STAT 0) 30 = true ∧ d.fltLow 0 = false
      ∧ d.bit (Reg.GDP_CH_STAT 0) 29 = false ∧ d.keep.alive = true ∧ d.keep.main = true ∧ d.keep.queue.length < 512) = true ∧
    (meets 8 (fun d =>
      { (R [(Reg.GDP_CH_CFG 0, 0x40000000)] d).setGch 0 (fun g => { g with winEnd := 8 }) with sdm := { d.sdm with ch := List.replicate 96 { SdiCh.init with prot := true } } })
      fun d => d.bit (Reg.GDP_CH_STAT 0) 30 = false ∧ (d.sdi 0).prot = true ∧ d.ocEn 0 = true) = true ∧
    (meets 0 (R [(Reg.GDP_CH_CFG 0, 0x40000000), (Reg.SDM_CH_PLIM 0, 0)]) fun d => d.chUse 0 = none ∧ d.inWindow 0 0 = false ∧ d.ocEn 0 = true) = true ∧
    (meets 800 (fun d => (R [(Reg.GDP_CH_CFG 0, 0x80000000), (Reg.GDP_CH_STAT 0, 0x80000000)] d).setGch 0 fun g => { g with pinLow := true }) fun d => (d.gch 0).pinLow =
      true ∧ d.fltEn 0 = true ∧ d.fltLow 0 = false ∧ (d.gch 0).pinAt + (d.gch 0).filt * uNs ≤ 800 ∧ d.legLost 0 = true ∧ (d.sdi 0).prot = false) = true ∧
    (meets 0 (fun d => d.setGch 0 fun g => { g with pinLow := true }) fun d => (d.gch 0).pinLow = true) = true ∧
    (meets 0 (R [(Reg.GDP_CH_CFG 95, 0x40000000), (Reg.SDM_CH_CFG 95, 0xC0000010), (Reg.SDM_CH_GAIN 95, 0x3F800000), (Reg.SDM_CH_PLIM 95, 0)]) fun d => d.chUse 95 = none
      ∧ d.sdiProt 0 95 (List.replicate 200 true) = true ∧ d.inWindow 0 95 = false ∧ d.opensBy (0 + 2 * uNs) 95 = false ∧ d.ocEn 95 = true ∧ d.legLost 95 = false ∧
      d.twn.pairHold = false) = true ∧
    (meets 0 (fun d => (R [(Reg.GDP_CH_CFG 95, 0x40000000), (Reg.SDM_CH_CFG 95, 0xC0000010), (Reg.SDM_CH_GAIN 95, 0x3F800000), (Reg.SDM_CH_PLIM 95, 0)] d).setGch 95 fun g
      => { g with winEnd := 17 }) fun d => d.sdiProt 0 95 (List.replicate 200 true) = true ∧ d.inWindow (0 + 2 * uNs) 95 = true) = true ∧
    (meets 0 (R [(Reg.SDM_CH_CFG 95, 0xC0000000), (Reg.SDM_SPARE, 0x805F)]) fun d => (d.sdi 95).maskEnd ≤ 0 ∧ d.bit Reg.SDM_SPARE 15 = true ∧ d.bit Reg.SDM_SPARE 31 =
      false ∧ d.fld Reg.SDM_SPARE 6 0 = 95 ∧ d.sdiEn 95 = true) = true := by decide +kernel

/-- States that meet the hypotheses of QuenchAndRelease, clause by clause. -/
theorem witness_QuenchAndRelease :
    (meets 0 id fun d => d.img.hot = false ∧ d.power ≠ 2 ∧ d.chUse 95 = none) = true ∧
    (meets 0 (R [(Reg.PWR_STAT, 2)]) fun d => d.power = 2 ∧ ((List.range 16).all fun g => d.bit Reg.GDP_TG_LATCH g = false) ∧ ((List.range 3).all fun p => ¬ d.brAllow 5 <
      d.brLost 5 p) ∧ d.quenched 5 = true ∧ d.gdp.diag = none) = true ∧
    (meets 8 (fun d => d.setGbr 5 fun r => { r with reqs := [(8, 6)] }) fun d => (d.gbr 5).reqs = [(8, 6)] ∧ ((List.range 96).all fun m => d.fltLow m = false) ∧
      d.quenched 5 = true) = true ∧
    (meets 8 (fun d => (R [(Reg.GDP_BR_STAT 5, 0)] d).setGbr 5 fun r => { r with reqs := [(8, 0)] }) fun d => (d.gbr 5).reqs = [(8, 0)] ∧ d.quenched 5 = false) = true ∧
    (meets 0 (fun d => R [(Reg.GDP_BR_STAT 2, 0)] (loaded d)) fun d => d.chUse 0 = some (2, 0, 0) ∧ d.quenched 2 = false) = true ∧
    (meets 0 (fun d => R [(Reg.GDP_CH_STAT 0, 0x80000000)] (loaded d)) fun d => d.chUse 0 = some (2, 0, 0) ∧ d.quenched 2 = true ∧ d.fltLow 0 = false ∧ d.power ≠ 2 ∧
      d.legLost 0 = true) = true ∧
    (meets 0 (fun d =>
      { R [(Reg.GDP_CH_STAT 0, 0x80000000), (Reg.GDP_CH_CFG 0, 0x40000000)] (loaded d) with sdm := { d.sdm with ch := List.replicate 96 { SdiCh.init with prot := true } } })
      fun d => d.chUse 0 = some (2, 0, 0) ∧ d.quenched 2 = true ∧ d.fltLow 0 = false ∧ d.power ≠ 2 ∧ d.legLost 0 = true ∧ (d.sdi 0).prot = true ∧ d.ocEn 0 = true ∧ d.brRule
      2 = 0 ∧ d.inWindow 0 0 = false ∧ d.twn.pairHold = false) = true ∧
    (meets 0 (fun d => loaded d) fun d => d.chUse 0 = some (2, 0, 0) ∧ d.quenched 2 = true ∧ d.fltLow 0 = false ∧ d.power ≠ 2 ∧ d.legLost 0 = false) = true := by decide +kernel

/-- States that meet the hypotheses of DiagnosticsAndTests, clause by clause. -/
theorem witness_DiagnosticsAndTests :
    (meets 0 id fun d => d.gdp.diag = none ∧ tbit 0#32 30 = false ∧ (d.rw Reg.GDP_DIAG_CTRL (setBit 0 31 true)).fld Reg.GDP_DIAG_CTRL 4 0 = 0) = true ∧
    (meets 0 (R [(Reg.GDP_DIAG_VDCMIN, 0), (Reg.GDP_DIAG_E 0, 0x00000A00)]) fun d => (d.rw Reg.GDP_DIAG_CTRL (setBit 1 31 true)).fld Reg.GDP_DIAG_CTRL 4 0 = 1 ∧ d.power ≠
      2 ∧ d.quenched 0 = true ∧ Fp.ge ((d.rw Reg.GDP_DIAG_CTRL (setBit 1 31 true)).adcNow 0) 0 = true ∧ 10 ≤ d.fld (Reg.GDP_DIAG_E 0) 15 8 ∧ d.fld (Reg.GDP_DIAG_E 0) 15 8 ≤
      200 ∧ d.fld (Reg.GDP_DIAG_E 0) 5 0 ≤ 55 ∧ ((List.range 96).all fun m => d.fltLow m = false)) = true ∧
    (meets (200 * uMs) (fun d => { d with gdp := { d.gdp with diag := some { stage := 0, count := 1, v0 := 0, vdc := 0, since := 0 } } }) fun d => d.gdp.diag = some
      { stage := 0, count := 1, v0 := 0, vdc := 0, since := 0 } ∧ 0 + d.fld Reg.GDP_DIAG_CFG 23 16 * uMs ≤ 200 * uMs) = true ∧
    (meets (70000 * uMs) (fun d => { d with gdp := { d.gdp with diag := some { stage := 2, count := 1, v0 := 0, vdc := 0, since := 0 } } }) fun d => 0 + d.fld
      Reg.GDP_DIAG_CFG 15 0 * uMs ≤ 70000 * uMs) = true ∧
    (meets 9 (fun d =>
      { d.setBank 0 (fun k => { k with results := List.replicate 16 { ch := 0, code := 5, exceeds := false, left := 8, sync := none } }) with gdp := { d.gdp with diag := some { stage := 1, count := 1, v0 := 0, vdc := 0, since := 7 } } })
      fun d => (d.mean16 (d.fld (Reg.GDP_DIAG_E 0) 5 0) 7).isSome ∧ (d.mean16 (d.fld Reg.GDP_DIAG_CFG 29 24) 7).isSome) = true ∧
    (meets 9 (fun d =>
      { (R [(Reg.GDP_DIAG_CTRL, 2)] d).setBank 0 (fun k => { k with results := List.replicate 16 { ch := 0, code := 5, exceeds := false, left := 8, sync := none } }) with gdp := { d.gdp with diag := some { stage := 3, count := 2, v0 := 0, vdc := 0, since := 7 } } })
      fun d => (d.mean16 (d.fld (Reg.GDP_DIAG_E 0) 5 0) 7).isSome ∧ d.fld Reg.GDP_DIAG_STAT 4 0 + 1 < 2) = true ∧
    (meets 0 (R [(Reg.PWR_STAT, 2)]) fun d => d.power = 2) = true ∧
    (meets 0 id fun d => d.power ≠ 2 ∧ d.gdp.test = none ∧ d.gdp.diag = none ∧ (d.rw Reg.GDP_TEST_CTRL (setBit 95 31 true)).bit Reg.GDP_TEST_CTRL 24 = false ∧ (d.rw
      Reg.GDP_TEST_CTRL (setBit 95 31 true)).fld Reg.GDP_TEST_CTRL 6 0 = 95 ∧ d.pwmEn 95 = false ∧ d.chUse 95 = none) = true ∧
    (meets 0 (R [(Reg.CMP_CH_CFG 47, 0x80000101), (Reg.CMP_CH_THR 47, 0x00100000)]) fun d => (d.rw Reg.GDP_TEST_CTRL (setBit 0x0100002F 31 true)).bit Reg.GDP_TEST_CTRL 24
      = true ∧ d.cmpEn 47 = true ∧ d.cmpHi 47 + 64 ≤ 8191 ∧ -8192 ≤ d.cmpLo 47 - 64) = true ∧
    (meets 8 (fun d => { d with gdp := { d.gdp with test := some (1, 47, 8) } }) fun d => d.gdp.test = some (1, 47, 8)) = true ∧
    (meets 8 (fun d => { d with gdp := { d.gdp with test := some (0, 95, 8) } }) fun d => d.gdp.test = some (0, 95, 8)) = true ∧
    (meets 9 (fun d =>
      { d.setBank 0 (fun k => { k with results := List.replicate 16 { ch := 0, code := 5, exceeds := false, left := 8, sync := none } }) with gdp := { d.gdp with diag := some { stage := 3, count := 1, v0 := 0, vdc := 0, since := 7 } } })
      fun d => (d.mean16 (d.fld (Reg.GDP_DIAG_E 0) 5 0) 7).isSome ∧ 1 ≤ d.fld Reg.GDP_DIAG_STAT 4 0 + 1 ∧ d.fld Reg.GDP_DIAG_STAT 4 0 < 24 ∧ ((List.range 96).all fun m =>
      d.fltLow m = false)) = true ∧
    (meets 0 (fun d => { d with gdp := { d.gdp with diag := some { stage := 3, count := 1, v0 := 0, vdc := 0, since := 7 } } }) fun d => d.gdp.diag ≠ none ∧ tbit 0#32 30
      = false ∧ ((List.range 96).all fun m => d.fltLow m = false)) = true ∧
    (meets 7 (fun d => { d with gdp := { d.gdp with test := some (0, 95, 8) } }) fun d => d.gdp.test = some (0, 95, 8) ∧ ¬ (8 ≤ 7)) = true := by decide +kernel

/-- States that meet the hypotheses of DeviceTimeAndTriggers, clause by clause. -/
theorem witness_DeviceTimeAndTriggers :
    (meets 0 id fun d => d.bit Reg.TIM_CTRL 0 = false ∧ ¬ ((natBits 5 7 0 * 2 ^ 32 + d.time.fracStaged.toNat) * 1000 < 4999 * 2 ^ 32 ∨ 5001 * 2 ^ 32 < (natBits 5 7 0 * 2
      ^ 32 + d.time.fracStaged.toNat) * 1000)) = true ∧
    (meets 0 (R [(Reg.TIM_CTRL, 1)]) fun d => d.bit Reg.TIM_CTRL 0 = true) = true ∧
    (meets 0 (R [(Reg.TIM_STAT, 4)]) fun d => d.bit Reg.TIM_STAT 2 = true) = true ∧
    (meets 0 (fun d => { R [(Reg.TIM_CTRL, 1), (Reg.TIM_STAT, 4)] d with time := { d.time with byHold := true } }) fun d => d.bit Reg.TIM_CTRL 0 = true ∧ d.time.byHold =
      true) = true ∧
    (meets uMs (R [(Reg.TIM_HOLD, 0x00010000)]) fun d => d.fld Reg.TIM_HOLD 31 16 = 1 ∧ d.bit Reg.TIM_STAT 2 = false ∧ d.time.lastCommit + 1 * uMs ≤ uMs) = true ∧
    (meets 0 id fun d => d.bit (Reg.TIM_TRG_CFG 3) 31 = false ∧ (d.rw (Reg.TIM_TRG_CFG 3) (setBit 0 31 true)).bit (Reg.TIM_TRG_CFG 3) 31 = true ∧ d.trgPeriod 3 = 0) =
      true ∧
    (meets 0 (R [(Reg.TIM_TRG_PERIOD 3, 1000), (Reg.TIM_TRG_START_LO 3, 100)]) fun d => d.trgPeriod 3 ≠ 0) = true ∧
    (meets 0 (R [(Reg.TIM_TRG_START_LO 3, 100)]) fun d => d.trgPeriod 3 = 0 ∧ d.ns (0 / uNs * uNs + 4 * uNs) ≤ d.trgStart 3) = true ∧
    (meets 800 (fun d => { d with time := { d.time with base := 2 ^ 40 } }) fun d => d.trgPeriod 3 = 0 ∧ d.trgStart 3 < d.ns (800 / uNs * uNs + 4 * uNs)) = true ∧
    (meets 0 (R [(Reg.TIM_TRG_CFG 0, 0xB0000000), (Reg.TIM_TRG_WIDTH 0, 1)]) fun d => d.bit (Reg.TIM_TRG_CFG 0) 31 = true ∧ nth 0 d.time.trgNext 0 ≤ d.ns 0 ∧ d.fld
      (Reg.TIM_TRG_CFG 0) 30 29 = 1 ∧ (d.rd (Reg.TIM_TRG_WIDTH 0)).toNat ≠ 0 ∧ d.bit (Reg.TIM_TRG_CFG 0) 28 = true) = true ∧
    (meets 0 (R [(Reg.TIM_CAP_CFG 3, 0xA0000000)]) fun d => d.bit (Reg.TIM_CAP_CFG 3) 31 = true ∧ d.bit (Reg.TIM_CAP_CFG 3) 29 = true ∧ nth [] d.time.caps 3 = []) = true ∧
    (meets 0 (fun d => { R [(Reg.TIM_CAP_CFG 3, 0xC0000000)] d with time := { d.time with caps := List.replicate 4 (List.replicate 4 (1, true)) } }) fun d => d.bit
      (Reg.TIM_CAP_CFG 3) 30 = true ∧ 4 ≤ (nth [] d.time.caps 3).length ∧ (nth [] d.time.caps 3).drop 1 = (1, true) :: [(1, true), (1, true)]) = true := by decide +kernel

/-- States that meet the hypotheses of LaneStagesAndCounters, clause by clause. -/
theorem witness_LaneStagesAndCounters :
    (meets 0 (R [(Reg.LNK_LN_CFG 1, 0x80000000), (Reg.CLK_STAT, 0x08000000)]) fun d => d.stage 1 = 0 ∧ d.laneCarries 1 = true ∧ (d.lane 1).pulseAt = none) = true ∧
    (meets (2 * uMs) (R [(Reg.TWN_LANE, 0x10)]) fun d => d.stage 1 = 1 ∧ (d.twnLane 1).stageAt + 2 * uMs ≤ 2 * uMs) = true ∧
    (meets (10 * uMs) (R [(Reg.TWN_LANE, 3)]) fun d => d.stage 0 = 3 ∧ (d.twnLane 0).stageAt + 10 * uMs ≤ 10 * uMs) = true ∧
    (meets 0 (R [(Reg.TWN_LANE, 2)]) fun d => d.stage 0 = 2) = true ∧
    (meets (100 * uMs) (R [(Reg.TWN_LANE, 5)]) fun d => d.stage 0 = 5 ∧ (d.twnLane 0).capsAt + 100 * uMs ≤ 100 * uMs) = true ∧
    (meets 0 (R [(Reg.TWN_LANE, 4)]) fun d => d.stage 0 = 4) = true ∧
    (meets 0 (R [(Reg.LNK_LN_CFG 3, 0x60000000)]) fun d => d.bit (Reg.LNK_LN_CFG 3) 30 = true ∧ d.fld (Reg.LNK_LN_CFG 3) 29 28 ≠ 0) = true ∧
    (meets 0 (R [(Reg.LNK_LN_STAT 3, 0x10000000)]) fun d => d.bit (Reg.LNK_LN_STAT 3) 28 = true ∧ d.rd (Reg.LNK_LN_PRBS_ERR 3) = 0) = true ∧
    (meets 0 (R [(Reg.LNK_LN_CFG 2, 0x80000000)]) fun d => bitsOf 0x80000000#32 29 28 = bitsOf (d.rd (Reg.LNK_LN_CFG 2)) 29 28 ∧ tbit 0xC0000000#32 31 = true ∧ tbit
      0xC0000000#32 30 = true ∧ tbit (d.rd (Reg.LNK_LN_CFG 2)) 31 = true) = true ∧
    (meets 0 id fun d => bitsOf 0x10000000#32 29 28 ≠ bitsOf (d.rd (Reg.LNK_LN_CFG 2)) 29 28 ∧ bitsOf 0x10000000#32 29 28 = 1 ∧ d.bit (Reg.ETH_P_CTRL 0) 31 = false ∧
      d.bit (Reg.ETH_P_CTRL 0) 30 = false) = true ∧
    (meets 0 (R [(Reg.ETH_P_CTRL 1, 0x40000000)]) fun d => d.bit (Reg.ETH_P_CTRL 1) 30 = true) = true ∧
    (meets 0 (R [(Reg.LNK_LN_CFG 0, 0x04000000)]) fun d => tbit 0#32 26 ≠ tbit (d.rd (Reg.LNK_LN_CFG 0)) 26) = true ∧
    (meets (100 * uUs - 1) (fun d => (R [(Reg.LNK_LN_CFG 1, 0x80000000), (Reg.CLK_STAT, 0x08000000)] d).setLane 1 fun q => { q with pulseAt := some 0 }) fun d => d.stage
      1 = 0 ∧ d.laneCarries 1 = true ∧ (d.lane 1).pulseAt = some 0 ∧ 100 * uUs - 1 < 0 + 100 * uUs) = true ∧
    (meets (100 * uUs) (R [(Reg.TWN_LANE, 3)]) fun d => d.stage 0 = 3 ∧ (d.twnLane 0).capsAt + 100 * uUs ≤ 100 * uUs) = true ∧
    (meets 0 (R [(Reg.LNK_LN_CFG 3, 0x40000000)]) fun d => d.bit (Reg.LNK_LN_CFG 3) 30 = true) = true ∧
    (meets 0 (R [(Reg.LNK_LN_CFG 1, 0xC0000000)]) fun d => bitsOf 0x40000000#32 29 28 = bitsOf (d.rd (Reg.LNK_LN_CFG 1)) 29 28 ∧ tbit 0x40000000#32 26 = tbit (d.rd
      (Reg.LNK_LN_CFG 1)) 26 ∧ tbit 0x40000000#32 31 = false) = true := by decide +kernel

/-- States that meet the hypotheses of EthernetReception, clause by clause. -/
theorem witness_EthernetReception :
    (meetsM [] id fun _ d => d.bit (Reg.ETH_P_CTRL 1) 31 = false) = true ∧
    (meetsM [] rings fun _ d => d.bit (Reg.ETH_P_CTRL 0) 31 = true ∧ d.bit (Reg.ETH_P_STAT 0) 31 = true ∧ 64 ≤ bcast.length ∧ d.bit (Reg.ETH_P_CTRL 0) 28 = false ∧
      d.ethAccept 0 bcast = true) = true ∧
    (meetsM [] (fun d => R [(Reg.ETH_P_CTRL 0, 0xD0000000)] (rings d)) fun _ d => d.bit (Reg.ETH_P_CTRL 0) 28 = true ∧ pauseQuanta pauseFrame = some 2 ∧ 64 ≤
      pauseFrame.length) = true ∧
    (meetsM [] rings fun _ d => d.ethAccept 0 (List.replicate 64 2) = false) = true ∧
    (meetsM [] (fun d => R [(Reg.ETH_P_RXR_CTRL 0 1, 0)] (rings d)) fun _ d => isPtp bcast = false ∧ d.bit (ringRegs 0 false 1).ctrl 0 = false) = true ∧
    (meetsM [] rings fun m d => d.bit (ringRegs 0 false 1).ctrl 0 = true ∧ (rxTake m d (ringRegs 0 false 1) 4096 0 64).1 = []) = true ∧
    (meetsM desc rings fun m d => d.bit (ringRegs 0 false 1).ctrl 1 = false ∧ (rxTake m d (ringRegs 0 false 1) 4096 (d.rd (ringRegs 0 false 1).head).toNat (bcast.take
      (d.fld (Reg.ETH_P_MAXLEN 0) 13 0)).length).1 = [(0, 0x08001000, 64)] ∧ (List.range 64).all (fun j => isRam (0x08001000 + j)) ∧ (List.range 16).all (fun j => isRam
      (d.descAddr (ringRegs 0 false 1) 0 + j)) ∧ d.descAddr (ringRegs 0 false 1) 0 + 16 ≤ 0x08001000) = true ∧
    (meetsM desc (fun d => R [(Reg.ETH_P_RXR_LEN 0 1, 3), (Reg.ETH_P_RXR_TAIL 0 1, 2)] (rings d)) fun m d => (rxTake m d (ringRegs 0 false 1) 4096 0 65).2 = true ∧
      (rxTake m d (ringRegs 0 false 1) 4096 0 65).1 = [(0, 0x08001000, 64)]) = true := by decide +kernel

/-- States that meet the hypotheses of EthernetTransmissionAndRings, clause by clause. -/
theorem witness_EthernetTransmissionAndRings :
    (meetsM [] id fun _ d => d.bit (Reg.ETH_P_CTRL 0) 30 = false ∧ (d.port 0).tx = none) = true ∧
    (meetsM desc rings fun m d => d.bit (Reg.ETH_P_CTRL 0) 30 = true ∧ d.bit (Reg.ETH_P_STAT 0) 31 = true ∧ (d.port 0).tx = none ∧ (d.port 0).pauseEnd ≤ 0 ∧ d.bit
      (ringRegs 0 true 0).ctrl 0 = false ∧ d.bit (ringRegs 0 true 1).ctrl 0 = true ∧ d.bit (ringRegs 0 true 1).ctrl 1 = false ∧ sent0 (txTake m d (ringRegs 0 true 1) 4096
      0)) = true ∧
    (meetsM [] rings fun m d => match txTake m d (ringRegs 0 true 1) 4096 0 with | .error _ => true | _ => false) = true ∧
    (meetsM desc (fun d => R [(Reg.ETH_P_TXR_BASE_LO 0 0, 0x08000000), (Reg.ETH_P_TXR_LEN 0 0, 2), (Reg.ETH_P_TXR_TAIL 0 0, 1), (Reg.ETH_P_TXR_CTRL 0 0, 1)] (rings d))
      fun m d => d.bit (ringRegs 0 true 0).ctrl 0 = true ∧ sent0 (txTake m d (ringRegs 0 true 0) 4096 0)) = true ∧
    (meetsM desc (fun d => (rings d).setPort 0 fun q =>
      { q with tx := some { ring := 1, first := 0, count := 1, bytes := bcast, tsReq := true, int := true, start := 0, bad := false } }) fun _ d => (d.port 0).tx = some
      { ring := 1, first := 0, count := 1, bytes := bcast, tsReq := true, int := true, start := 0, bad := false } ∧ (List.range 16).all fun j => isRam (d.descAddr (ringRegs
      0 true 1) 0 + j)) = true ∧
    (meetsM [] (fun d => R [(Reg.ETH_P_CTRL 0, 4)] d) fun _ d => d.bit (Reg.ETH_P_STAT 0) 31 ≠ true ∧ d.bit (Reg.ETH_P_CTRL 0) 2 = true ∧ (d.port 0).attn = false) = true ∧
    (meetsM [] (fun d => R [(Reg.ETH_P_TXR_LEN 1 1, 2), (Reg.ETH_P_TXR_CTRL 1 1, 1)] d) fun _ d => (1#32).toNat < (d.rd (ringRegs 1 true 1).len).toNat ∧ (d.rd (ringRegs 1
      true 1).len).toNat ≤ (2#32).toNat ∧ d.bit (ringRegs 1 true 1).ctrl 0 = true ∧ (d.port 1).tx = none) = true ∧
    (meetsM desc (fun d => (R [(Reg.CLK_STAT, 0xD8000000)] (rings d)).setPort 0 fun q =>
      { q with tx := some { ring := 1, first := 0, count := 1, bytes := bcast, tsReq := true, int := true, start := 0, bad := true } }) fun _ d => (d.port 0).tx.map (fun f
      => f.bad) = some true ∧ (d.port 0).pauseDue = false ∧ d.laneCarries 2 = true) = true ∧
    (meetsM desc (fun d => { rings d with cpu := { d.cpu with bad := [(0x08001000, List.replicate 8 0)] } }) fun m d => txBad m d (ringRegs 0 true 1) [0] = some
      0x08001000 ∧ (d.port 0).tx = none ∧ sent0 (txTake m d (ringRegs 0 true 1) 4096 0)) = true ∧
    (meetsM desc (fun d => (rings d).setPort 0 fun q => { q with pauseEnd := 1 }) fun _ d => ¬ (d.port 0).pauseEnd ≤ 0) = true ∧
    (meetsM desc (fun d => (rings d).setPort 0 fun q =>
      { q with tx := some { ring := 1, first := 0, count := 1, bytes := bcast, tsReq := true, int := true, start := 0, bad := false } }) fun _ d => d.bit (ringRegs 0 true
      1).ctrl 0 = true ∧ (d.port 0).tx.map (fun f => f.ring) = some 1) = true := by decide +kernel

/-- States that meet the hypotheses of SafetySelfTests, clause by clause. -/
theorem witness_SafetySelfTests :
    (sat 0 (fun d => { d with saf := { d.saf with vioF := false } }) fun d => d.saf.vioF = false) = true ∧
    (sat (12 * uMs) id fun d => d.saf.vioF = true ∧ d.saf.selfTested = false ∧ d.saf.onAt + 12 * uMs ≤ 12 * uMs ∧ d.saf.lastScan + 600 * uUs ≤ 12 * uMs) = true ∧
    (sat 0 (saf 1 []) fun d => d.saf.vioF = true ∧ d.fld Reg.SAF_STAT 2 0 = 1 ∧ 0 < d.saf.lastScan + 600 * uUs) = true ∧
    (sat 0 id fun d => d.fld Reg.SAF_STAT 2 0 ≠ 1) = true ∧
    (sat uS (fun d => (saf 1 [(2, 0x01F40100), (0x30, 0x800000C8)] d).setSaf fun q =>
      { q with out := [{ on := true, switchedAt := 0, pulseEnd := none, lastPulse := 0 }] }) fun d => d.fld Reg.SAF_STAT 2 0 = 1 ∧ d.outUsed 0 = true ∧ (d.safOut
      0).lastPulse + d.testS ≤ uS ∧ (d.safOut 0).on = true ∧ (d.safOut 0).pulseEnd = none ∧ (d.safOut 0).switchedAt + d.tRb 0 ≤ uS ∧ d.bit Reg.SAF_FAULT 4 = false) = true ∧
    (sat uS (saf 1 [(2, 0x01F40100), (0x33, 0x800000C8)]) fun d => d.outUsed 3 = true ∧ (d.safOut 3).lastPulse + d.testS ≤ uS ∧ (d.safOut 3).on = false) = true ∧
    (sat 8 (fun d => d.setSaf fun q => { q with out := List.replicate 4 { on := false, switchedAt := 0, pulseEnd := some 8, lastPulse := 0 } }) fun d => (d.safOut
      3).pulseEnd = some 8) = true ∧
    (sat (8 * 3600 * uS) (saf 1 []) fun d => d.saf.vioF = true ∧ d.fld Reg.SAF_STAT 2 0 = 1 ∧ d.saf.bgAt + 8 * 3600 * uS ≤ 8 * 3600 * uS) = true ∧
    (sat (8 * 3600 * uS - 1) (saf 1 []) fun d => d.saf.vioF = true ∧ ¬ d.saf.bgAt + 8 * 3600 * uS ≤ 8 * 3600 * uS - 1 ∧ d.saf.injAt + uS ≤ 8 * 3600 * uS - 1) = true ∧
    (sat (10 * uMs) id fun d => d.saf.vioF = true ∧ d.saf.winAt + 10 * uMs ≤ 10 * uMs) = true ∧
    (sat (10 * uMs - 1) id fun d => d.saf.vioF = true ∧ ¬ d.saf.winAt + 10 * uMs ≤ 10 * uMs - 1 ∧ d.saf.onAt + 12 * uMs > 10 * uMs - 1) = true ∧
    (sat uMs (saf 1 []) fun d => d.saf.vioF = true ∧ d.fld Reg.SAF_STAT 2 0 = 1 ∧ d.saf.lastScan + 600 * uUs ≤ uMs) = true ∧
    (sat 0 (fun d => d.setSaf fun q => { q with out := List.replicate 4 { on := false, switchedAt := 0, pulseEnd := some 8, lastPulse := 0 } }) fun d => (d.safOut
      3).pulseEnd = some 8 ∧ ¬ 8 ≤ 0) = true ∧
    (sat uS (saf 1 [(0x33, 0x800000C8)]) fun d => d.saf.vioF = true ∧ d.outUsed 3 = true ∧ (d.safOut 3).switchedAt + d.tRb 3 ≤ uS ∧ d.bit Reg.SAF_FAULT 7 = false ∧ true ≠
      (d.safOut 3).on) = true := by decide +kernel

/-- States that meet the hypotheses of SafetyInputsAndScan, clause by clause. -/
theorem witness_SafetyInputsAndScan :
    (sat 0 (saf 1 [(0x17, 0x00640001)]) fun d => d.saf.vioF = true ∧ d.pairUsed 7 = true ∧ d.pairReset 7 = false ∧ d.pairAnti 7 = false ∧ (d.sinPair 7).disagreeAt = none
      ∧ (d.sinPair 7).a = false) = true ∧
    (sat 0 (fun d => (saf 0x801 [(0x13, 0x00640001)] d).setSaf fun q => { q with pair := List.replicate 8 { SinPair.init with a := true, bothDemand := true } }) fun d =>
      d.bit Reg.SAF_STAT 11 = true ∧ d.pairUsed 3 = true ∧ (d.sinPair 3).bothDemand = true ∧ (d.sinPair 3).demandAt = none) = true ∧
    (sat (100 * uMs + 1) (fun d => (saf 1 [(0x10, 0x00640001)] d).setSaf fun q => { q with pair := [{ SinPair.init with disagreeAt := some 0 }] }) fun d => d.pairUsed 0 =
      true ∧ 0 + d.pairDisc 0 < 100 * uMs + 1 ∧ (d.sinPair 0).disagreeAt = some 0 ∧ d.bit Reg.SAF_STAT 8 = false) = true ∧
    (sat 0 (saf 1 [(0x10, 0x00640001), (0x27, 1)]) fun d => d.fld Reg.SAF_STAT 2 0 = 1 ∧ d.saf.next = none ∧ (d.sfIn 7).testBit 0 = true ∧ d.pairDemand 0 = true) = true ∧
    (sat 0 (saf 0xFF000001 []) fun d => d.saf.next = none ∧ d.demanded 7 = true ∧ (d.sinPair (d.sfRst 7)).resetReq = false) = true ∧
    (sat uMs (fun d => (saf 0x80000001 [(0x27, 0x00010100)] d).setFn 7 fun q => { q with demandAt := some 0 }) fun d => d.fld Reg.SAF_STAT 2 0 = 1 ∧ d.demanded 7 = true ∧
      (d.safFn 7).demandAt = some 0 ∧ 0 + d.sfDelay 7 ≤ uMs ∧ (d.sfOut 7).testBit 0 = true) = true ∧
    (sat uS (saf 1 [(0x10, 0x00640001)]) fun d => d.saf.vioF = true ∧ 0 + d.tFilt ≤ uS ∧ d.saf.lastScan + 500 * uUs ≤ uS) = true ∧
    (sat uS id fun d => ¬ uS + d.tFilt ≤ uS) = true ∧
    (sat (500 * uUs) (saf 1 []) fun d => d.saf.vioF = true ∧ d.saf.lastScan + 500 * uUs ≤ 500 * uUs ∧ (500 * uUs - d.saf.lastScan) % (500 * uUs) = 0) = true ∧
    (sat (500 * uUs - 1) (saf 1 []) fun d => ¬ d.saf.lastScan + 500 * uUs ≤ 500 * uUs - 1 ∧ (500 * uUs - 1 - d.saf.lastScan) % (500 * uUs) ≠ 0) = true := by decide +kernel

/-- States that meet the hypotheses of SafetyFieldChanges, clause by clause. -/
theorem witness_SafetyFieldChanges :
    (meets 0 (R [(Reg.SAF_PWLEN, 7)]) fun d => d.saf.vioF = true ∧ d.fld Reg.SAF_PWLEN 5 0 < 8) = true ∧
    (meets 0 (R [(Reg.SAF_PWLEN, 33)]) fun d => 32 < d.fld Reg.SAF_PWLEN 5 0) = true ∧
    (meets 0 (R [(Reg.SAF_PWLEN, 8), (Reg.SAF_STAT, 0x20)]) fun d => 8 ≤ d.fld Reg.SAF_PWLEN 5 0 ∧ d.fld Reg.SAF_PWLEN 5 0 ≤ 32 ∧ d.bit Reg.SAF_STAT 5 = true) = true ∧
    (meets 0 (R [(Reg.SAF_PWLEN, 32), (Reg.SAF_STAT, 0x10)]) fun d => d.fld Reg.SAF_PWLEN 5 0 ≤ 32 ∧ d.bit Reg.SAF_STAT 5 = false ∧ d.bit Reg.SAF_STAT 4 = true) = true ∧
    (meets 0 (R [(Reg.SAF_PWLEN, 32)]) fun d => d.fld Reg.SAF_PWLEN 5 0 = 32 ∧ d.bit Reg.SAF_STAT 5 = false ∧ d.bit Reg.SAF_STAT 4 = false ∧ d.saf.hashEnd = none ∧ d.bit
      Reg.SAF_STAT 7 = false) = true ∧
    (meets 8 (fun d => (saf 0x10 [] d).setSaf fun q => { q with hashEnd := some 8, hashPw := List.replicate 8 0x41 }) fun d => d.saf.hashEnd = some 8 ∧ pbkdf2
      d.saf.hashPw ((d.saf.copy.drop 0x10).take 16) (leAt d.saf.copy 4 4) = (d.saf.copy.drop 0x20).take 48) = true ∧
    (meets 8 (fun d => (saf 0x10 [] d).setSaf fun q => { q with hashEnd := some 8, hashPw := List.replicate 8 0x42 }) fun d => d.saf.hashEnd = some 8 ∧ pbkdf2
      d.saf.hashPw ((d.saf.copy.drop 0x10).take 16) (leAt d.saf.copy 4 4) ≠ (d.saf.copy.drop 0x20).take 48) = true ∧
    (meets 0 (fun d => R [(Reg.SAF_ITEM_NUM, 3)] (saf 0x80 [] d)) fun d => d.bit Reg.SAF_STAT 7 = true ∧ safKnown (d.fld Reg.SAF_ITEM_NUM 15 0) = false) = true ∧
    (meets 0 (fun d => R [(Reg.SAF_ITEM_NUM, 1), (Reg.SAF_ITEM_VAL, 249)] (saf 0x80 [] d)) fun d => safKnown (d.fld Reg.SAF_ITEM_NUM 15 0) = true ∧ safRange (bitsOf
      (itemOf d.safStagedItems 2) 31 16) 1 (d.rd Reg.SAF_ITEM_VAL) = false) = true ∧
    (meets 0 (fun d => R [(Reg.SAF_ITEM_NUM, 1), (Reg.SAF_ITEM_VAL, 250)] (saf 0x80 [] d)) fun d => safRange (bitsOf (itemOf d.safStagedItems 2) 31 16) 1 (d.rd
      Reg.SAF_ITEM_VAL) = true ∧ d.rd Reg.SAF_ITEM_VAL &&& safReserved 1 = 0 ∧ d.safStagedItems.length < 512) = true ∧
    (meets 0 (saf 0x80 []) fun d => d.bit Reg.SAF_STAT 7 = true ∧ d.fld Reg.PWR_STAT 2 0 ≠ 2 ∧ d.fld Reg.SAF_STAT 2 0 ≠ 2 ∧ safItemsOk d.safStagedItems = true ∧
      safItemsClear d.safStagedItems = true ∧ d.saf.staged = []) = true ∧
    (meets 0 (fun d => (saf 0x80 [] d).setSaf fun q => { q with staged := [{ num := 1, val := 250, author := 0 }] }) fun d => safItemsOk d.safStagedItems = true ∧
      safItemsClear d.safStagedItems = true ∧ d.saf.staged.filter (fun q => itemOf (safItems (d.saf.next.getD d.saf.copy)) q.num != q.val) ≠ []) = true ∧
    (meets 0 (fun d => (saf 0x80 [] d).setSaf fun q => { q with staged := [{ num := 1, val := 249, author := 0 }] }) fun d => safItemsOk d.safStagedItems = false) = true ∧
    (meets 0 (saf 0x82 []) fun d => d.bit Reg.SAF_STAT 7 = true ∧ d.fld Reg.SAF_STAT 2 0 = 2) = true ∧
    (meets 8 (fun d => d.setSaf fun q => { q with lockoutEnd := some 8 }) fun d => d.saf.lockoutEnd = some 8) = true ∧
    (meets (600 * uS) (saf 0x80 []) fun d => d.bit Reg.SAF_STAT 7 = true ∧ d.saf.lastStage + 600 * uS ≤ 600 * uS) = true ∧
    (meets 0 (fun d => { d with saf := { d.saf with vioF := false } }) fun d => d.saf.vioF = false) = true ∧
    (meets 0 (R [(Reg.SAF_STAT, 0x80), (Reg.SAF_ITEM_NUM, 3)]) fun d => d.bit Reg.SAF_STAT 7 = true ∧ d.saf.vioF = true ∧ safKnown (d.fld Reg.SAF_ITEM_NUM 15 0) = false)
      = true := by decide +kernel

/-- States that meet the hypotheses of ClockMonitorAndRestart, clause by clause. -/
theorem witness_ClockMonitorAndRestart :
    (sat 0 (R [(Reg.CLK_STAT, 0)]) fun d => d.sys.porn = true ∧ d.clk.stopped = false ∧ d.bit Reg.CLK_STAT 30 = false ∧ d.bit Reg.CLK_STAT 31 = false ∧ d.bit Reg.CLK_STAT
      28 = false ∧ d.sys.refWait = none) = true ∧
    (sat 0 (R [(Reg.CLK_STAT, 0x40000000)]) fun d => d.bit Reg.CLK_STAT 30 = true ∧ d.bit Reg.CLK_STAT 31 = false) = true ∧
    (sat 0 (fun d => { R [(Reg.CLK_STAT, 0xD0000000)] d with clk := { d.clk with started := true } }) fun d => d.bit Reg.CLK_STAT 30 = true ∧ d.bit Reg.CLK_STAT 31 = true
      ∧ d.clk.started = true ∧ d.bit Reg.CLK_STAT 29 = false ∧ d.bit Reg.CLK_STAT 28 = true) = true ∧
    (sat 0 (R [(Reg.CLK_STAT, 0xA0000000)]) fun d => d.bit Reg.CLK_STAT 31 = true ∧ d.bit Reg.CLK_STAT 29 = true) = true ∧
    (sat 0 (fun d => { d with sys := { d.sys with refWait := some 5 } }) fun d => d.sys.refWait = some 5 ∧ d.keep.main = true) = true ∧
    (sat uMs (fun d => { d with clk := { d.clk with stopped := true, canLockAt := some 0 } }) fun d => d.clk.stopped = true ∧ d.sys.porn = true ∧ d.clk.canLockAt = some 0
      ∧ 0 + uMs ≤ uMs ∧ d.keep.main = true) = true ∧
    (sat uMs (fun d => { R [(Reg.CLK_STAT, 0)] d with clk := { d.clk with refFell := some 0, sroFell := some 0 } }) fun d => goodFor d.clk.refFell uMs = true ∧ goodFor
      d.clk.sroFell uMs = true ∧ d.sys.refWait = none ∧ d.clk.stopped = false) = true ∧
    (sat (uMs - 1) (fun d => { R [(Reg.CLK_STAT, 0)] d with clk := { d.clk with refFell := some 0, sroFell := some 0 } }) fun d => goodFor d.clk.refFell (uMs - 1) = false
      ∧ goodFor d.clk.sroFell (uMs - 1) = false) = true ∧
    (sat 0 (fun d => { d with clk := { d.clk with stopped := true } }) fun d => d.clk.stopped = true ∧ goodFor d.clk.refFell 0 = true ∧ goodFor d.clk.sroFell 0 = true) =
      true ∧
    (sat (uMs - 1) (fun d => { d with clk := { d.clk with stopped := true, canLockAt := some 0 } }) fun d => d.clk.stopped = true ∧ d.sys.porn = true ∧ ¬ 0 + uMs ≤ uMs -
      1) = true ∧
    (sat 0 (fun d => { d with keep := { d.keep with main := false } }) fun d => d.keep.main = false) = true ∧
    (sat 0 (fun d => { R [(Reg.CLK_STAT, 0xA0000000)] d with clk := { d.clk with started := true } }) fun d => d.bit Reg.CLK_STAT 31 = true ∧ d.bit Reg.CLK_STAT 29 = true
      ∧ d.keep.main = true) = true := by decide +kernel

/-- States that meet the hypotheses of PllBellowsAndDomains, clause by clause. -/
theorem witness_PllBellowsAndDomains :
    (meets (200 * uUs) (fun d => { R [(Reg.CLK_STAT, 0)] d with clk := { d.clk with started := true } }) fun d => d.clk.started = true ∧ d.bit Reg.CLK_STAT 28 = false ∧
      d.clk.startAt + 200 * uUs ≤ 200 * uUs) = true ∧
    (meets 0 id fun d => d.clk.blw = none ∧ d.clk.started = false) = true ∧
    (meets 0 (fun d =>
      { R [(Reg.CLK_PLL_STAT, 3999901)] d with clk := { d.clk with blw := some { target := 0, owner := 0, segs := [(4000000, 0x64#32)], seg := 0, held := 0 } } }) fun d =>
      d.clk.blw ≠ none ∧ d.fld Reg.CLK_PLL_STAT 22 0 < 4000000 ∧ Nat.min 4000000 (d.fld Reg.CLK_PLL_STAT 22 0 + bitsOf 0x64#32 15 0) = 4000000 ∧ bitsOf 0x64#32 31 16 = 0) =
      true ∧
    (meets 0 (fun d =>
      { R [(Reg.CLK_PLL_STAT, 3999899)] d with clk := { d.clk with blw := some { target := 0, owner := 1, segs := [(4000000, 0x64#32), (4000100, 0x64#32)], seg := 0, held := 0 } } })
      fun d => Nat.min 4000000 (d.fld Reg.CLK_PLL_STAT 22 0 + bitsOf 0x64#32 15 0) ≠ 4000000) = true ∧
    (meets 0 (fun d =>
      { R [(Reg.CLK_PLL_STAT, 4000000)] d with clk := { d.clk with blw := some { target := 0, owner := 2, segs := [(4000000, 0x10064#32)], seg := 0, held := 0 } } }) fun d
      => d.fld Reg.CLK_PLL_STAT 22 0 = 4000000 ∧ 0 < bitsOf 0x10064#32 31 16) = true ∧
    (meets 0 (R [(Reg.CLK_BLW_SEG_END 0, 50000)]) fun d => (d.rw Reg.CLK_BLW_CTRL (setBit (setBit 0x20000001 31 true) 30 false)).fld Reg.CLK_BLW_CTRL 29 29 = 1 ∧ (d.rw
      Reg.CLK_BLW_CTRL (setBit (setBit 0x20000001 31 true) 30 false)).fld Reg.CLK_BLW_CTRL 4 0 = 1 ∧ d.fld (Reg.CLK_BLW_SEG_END 0) 22 0 = 50000 ∧ d.fld Reg.TMP_STAT 2 0 =
      0) = true ∧
    (meets 0 id fun d => (d.rw Reg.CLK_BLW_CTRL (setBit (setBit 0x20000011 31 true) 30 false)).fld Reg.CLK_BLW_CTRL 4 0 = 17) = true ∧
    (meets 0 (R [(Reg.CLK_STAT, 0x08000000)]) fun d => d.bit Reg.CLK_STAT 27 = true ∧ d.bit Reg.CLK_STAT 30 = false ∧ d.bit Reg.CLK_STAT 29 = false) = true ∧
    (meets 0 (R [(Reg.CLK_STAT, 0x60000000)]) fun d => d.bit Reg.CLK_STAT 27 = false ∧ d.bit Reg.CLK_STAT 29 = true ∧ d.bit Reg.CLK_STAT 30 = true) = true ∧
    (meets 0 (R [(Reg.CLK_STAT, 0x20000000)]) fun d => d.bit Reg.CLK_STAT 29 = true ∧ d.bit Reg.CLK_STAT 30 = false) = true ∧
    (meets 0 (R [(Reg.FRM_STAT, 8)]) fun d => d.bit Reg.FRM_STAT 3 = true) = true ∧
    (meets 0 (R [(Reg.CLK_STAT, 0x10000000)]) fun d => d.bit Reg.FRM_STAT 3 = false ∧ ((List.range 96).all fun n => d.bit (Reg.PWM_CH_CFG n) 31 = false) ∧ bitsOf 0x09#32
      31 30 = 0 ∧ d.bit Reg.CLK_STAT 28 = true ∧ bitsOf 0x09#32 7 0 ≠ 0 ∧ (d.rw (Reg.CLK_DOM_CFG 0) 0x09).rd (Reg.CLK_DOM_CFG 0) ≠ d.rd (Reg.CLK_DOM_CFG 0) ∧ (d.rw
      (Reg.CLK_DOM_CFG 0) (d.rd (Reg.CLK_DOM_CFG 0))).rd (Reg.CLK_DOM_CFG 0) = d.rd (Reg.CLK_DOM_CFG 0)) = true ∧
    (meets 0 (R [(Reg.CLK_GATE, 0x7FFF)]) fun d => ((List.range 15).all fun j => j == 0 || tbit 0x7FFE#32 j == d.bit Reg.CLK_GATE j) ∧ tbit 0x7FFE#32 0 = false ∧ d.bit
      Reg.CLK_GATE 5 = true ∧ d.gateUsed 2 = true ∧ gateChildren 2 = []) = true ∧
    (sat 0 (R [(Reg.CLK_GATE, 0)]) fun d => tbit 0x20#32 5 = true ∧ gateParent 5 = some 0 ∧ d.bit Reg.CLK_GATE 0 = false) = true ∧
    (meets 0 (R [(Reg.CLK_GATE, 0x7FFF)]) fun d => tbit 0x7FDF#32 5 = false ∧ gateChildren 5 = [] ∧ d.gateUsed 5 = false) = true ∧
    (meets (uUs - 1) (fun d => { d with clk := { d.clk with blwAt := some 0, blw := some { target := 0, owner := 1, segs := [], seg := 0, held := 0 } } }) fun d =>
      d.clk.blwAt = some 0 ∧ ¬ 0 + uUs ≤ uUs - 1) = true ∧
    (meets uUs (fun d => { d with clk := { d.clk with blwAt := some 0, blw := some { target := 1, owner := 2, segs := [], seg := 0, held := 0 } } }) fun d => d.clk.blwAt
      = some 0 ∧ 0 + uUs ≤ uUs ∧ d.clk.blw = some { target := 1, owner := 2, segs := [], seg := 0, held := 0 }) = true ∧
    (meets 0 (fun d => { d with clk := { d.clk with cpuKhz := 720000, blw := some { target := 1, owner := 1, segs := [(700000, 0x64#32)], seg := 0, held := 0 } } }) fun d
      => d.blwKhz 1 = 720000 ∧ Nat.max 700000 (720000 - bitsOf 0x64#32 15 0) ≠ 700000) = true ∧
    (meets 0 (R [(Reg.CLK_STAT, 0x50000000)]) fun d => bitsOf 0x80000009#32 31 30 = 2 ∧ d.bit Reg.CLK_STAT 30 = true ∧ bitsOf 0x80000009#32 7 0 ≠ 0 ∧ (d.rw
      (Reg.CLK_DOM_CFG 2) 0x80000009).rd (Reg.CLK_DOM_CFG 2) ≠ d.rd (Reg.CLK_DOM_CFG 2) ∧ (d.rw (Reg.CLK_DOM_CFG 3) 0x80000009).rd (Reg.CLK_DOM_CFG 3) ≠ d.rd
      (Reg.CLK_DOM_CFG 3) ∧ d.clocked 3 = true ∧ d.bit Reg.CLK_GATE 2 = true) = true ∧
    (sat 8 (fun d =>
      { d with clk := { d.clk with switching := [none, none, none, some 8, none] }, time := { d.time with pend := some { at_ := never, ofs := 0, inc := 1 } } }) fun d =>
      nth none d.clk.switching 3 = some 8 ∧ d.bit Reg.CLK_GATE 3 = true ∧ d.time.pend = some { at_ := never, ofs := 0, inc := 1 }) = true ∧
    (sat 7 (fun d => { d with clk := { d.clk with switching := [none, none, none, some 8, none] } }) fun d => nth none d.clk.switching 3 = some 8 ∧ nth none
      d.clk.switching 0 = none) = true ∧
    (sat 0 (fun d => { R [(Reg.CLK_GATE, 0x7FF7)] d with time := { d.time with pend := some { at_ := never, ofs := 0, inc := 1 } } }) fun d => ((List.range 15).all fun j
      => j == 3 || tbit 0x7FFF#32 j == d.bit Reg.CLK_GATE j) = true ∧ d.bit Reg.CLK_GATE 3 = false ∧ gateParent 3 = none ∧ d.time.pend = some
      { at_ := never, ofs := 0, inc := 1 } ∧ nth none d.clk.switching 3 = none) = true ∧
    (decide ((at0 (R [(Reg.CLK_GATE, 0x7FFE)])).dev.runsIn 0 = false ∧ (at0 (R [(Reg.CLK_GATE, 0x7FFE)])).dev.runsIn 5 = false ∧ (at0 (R [(Reg.CLK_GATE,
      0x3FFF)])).dev.runsIn 14 = false)) = true ∧
    (let f := fun d : Dev => { d with clk := { d.clk with switching := [some 8, some 8, none, some 8, some 8] } }; (List.range 15).all fun g => (at0 f).dev.runsIn g ==
      (gateRoot g == 2)) = true := by decide +kernel

/-- States that meet the hypotheses of Temper, clause by clause. -/
theorem witness_Temper :
    (meets 0 (R [(Reg.SYS_BOOT, 6)]) fun d => 6 ≤ d.fld Reg.SYS_BOOT 3 0 ∧ d.fld Reg.TMP_STAT 2 0 < 2 ∧ d.tmpUsed 15 = true ∧ d.tmpBroken 0 = false ∧ (d.sens 0).hist =
      []) = true ∧
    (meets 0 (R [(Reg.SYS_BOOT, 6), (Reg.TMP_STAT, 2)]) fun d => 6 ≤ d.fld Reg.SYS_BOOT 3 0 ∧ d.fld Reg.TMP_STAT 2 0 = 2 ∧ 0 < d.tmp.since + d.stopMs * uMs) = true ∧
    (meets (65535 * uMs) (R [(Reg.SYS_BOOT, 6), (Reg.TMP_STAT, 2)]) fun d => 6 ≤ d.fld Reg.SYS_BOOT 3 0 ∧ d.fld Reg.TMP_STAT 2 0 = 2 ∧ d.tmp.since + d.stopMs * uMs ≤
      65535 * uMs) = true ∧
    (meets 0 (R [(Reg.SYS_BOOT, 6), (Reg.TMP_STAT, 3)]) fun d => 6 ≤ d.fld Reg.SYS_BOOT 3 0 ∧ d.fld Reg.TMP_STAT 2 0 = 3 ∧ (List.range 24).all fun i => !d.tmpUsed i ||
      (decide (d.tmpT i < d.tmpWarn i - d.tmpHyst) && !d.tmpBroken i)) = true ∧
    (meets 0 (R [(Reg.SYS_BOOT, 6), (Reg.TMP_S_DATA 3, 0x80)]) fun d => 6 ≤ d.fld Reg.SYS_BOOT 3 0 ∧ d.tmpUsed 3 = true ∧ d.tmpBroken 3 = true) = true ∧
    (meets 0 (R [(Reg.SYS_BOOT, 6)]) fun d => 6 ≤ d.fld Reg.SYS_BOOT 3 0 ∧ d.tmp.last = none ∧ d.fld Reg.TMP_STAT 2 0 < 2) = true ∧
    (meets (100 * uUs) (fun d => { R [(Reg.SYS_BOOT, 6), (Reg.TMP_STAT, 8)] d with tmp := { d.tmp with last := some 0 } }) fun d => 6 ≤ d.fld Reg.SYS_BOOT 3 0 ∧
      d.tmp.last = some 0 ∧ d.bit Reg.TMP_STAT 3 = true ∧ 0 + 100 * uUs ≤ 100 * uUs) = true ∧
    (meets (uMs - 1) (fun d => { R [(Reg.SYS_BOOT, 6)] d with tmp := { d.tmp with last := some 0 } }) fun d => d.tmp.last = some 0 ∧ d.bit Reg.TMP_STAT 3 = false ∧ ¬ 0 +
      uMs ≤ uMs - 1) = true := by decide +kernel

/-- States that meet the hypotheses of KeepSupplies, clause by clause. -/
theorem witness_KeepSupplies :
    (sat 0 id fun d => d.keep.main = true ∧ d.keep.alive = true ∧ d.keep.queue.length < 512) = true ∧
    (sat 0 (fun d => { R [(Reg.LOG_CTRL, 1)] d with keep := { d.keep with unfl := [(0, 0)] } }) fun d => d.keep.main = true ∧ d.bit Reg.LOG_CTRL 0 = true ∧ d.keep.unfl ≠
      []) = true ∧
    (sat 0 (fun d => { d with keep := { d.keep with main := false } }) fun d => d.keep.main = false ∧ d.keep.alive = true ∧ d.keep.harvSince = none ∧ d.keep.queue.length
      < 512) = true ∧
    (sat 0 (fun d => { d with keep := { d.keep with main := false, alive := false } }) fun d => d.keep.main = false ∧ d.keep.alive = false) = true ∧
    (sat 8 (fun d => { R [(Reg.PWR_WAKE_LO, 1)] d with keep := { d.keep with main := false }, sec := { d.sec with psuEn := false } }) fun d => d.sec.psuEn = false ∧
      d.rd64 Reg.PWR_WAKE_LO Reg.PWR_WAKE_HI ≠ 0 ∧ d.rd64 Reg.PWR_WAKE_LO Reg.PWR_WAKE_HI ≤ d.keep.kt + (8 - d.keep.ktAt) / uNs) = true ∧
    (sat 7 (fun d => { R [(Reg.PWR_WAKE_LO, 1)] d with keep := { d.keep with main := false }, sec := { d.sec with psuEn := false } }) fun d => d.keep.main = false ∧
      d.keep.kt + (7 - d.keep.ktAt) / uNs < d.rd64 Reg.PWR_WAKE_LO Reg.PWR_WAKE_HI) = true ∧
    (sat 0 (fun d => { d with keep := { d.keep with main := false, harvSince := some 0 } }) fun d => d.keep.main = false ∧ d.keep.alive = true ∧ d.keep.harvSince.isNone =
      false) = true := by decide +kernel

/-- States that meet the hypotheses of TroubleLog, clause by clause. -/
theorem witness_TroubleLog :
    (meets 0 id fun d => d.keep.alive = true ∧ d.keep.queue = [] ∧ assocGet (d.fld Reg.LOG_RIDX 12 0) d.keep.ring = none ∧ d.keep.harvSince = none ∧ d.time.inc = 0) =
      true ∧
    (meets 0 (fun d => { d with keep := { d.keep with queue := [{ time := 1, seq := 2, src := 3, code := 4, data := [] }] } }) fun d => d.keep.queue ≠ [] ∧
      d.keep.unfl.any (fun u => u.1 == d.fld Reg.LOG_WIDX 12 0) = false) = true ∧
    (meets 0 (fun d => { d with keep := { d.keep with queue := [{ time := 1, seq := 2, src := 3, code := 4, data := [] }], unfl := [(0, 0)] } }) fun d => d.keep.queue ≠
      [] ∧ d.keep.unfl.any (fun u => u.1 == d.fld Reg.LOG_WIDX 12 0) = true ∧ d.bit Reg.LOG_STAT 1 = false) = true ∧
    (meets 0 (R [(Reg.LOG_FW_CODE, 0xE7FF)]) fun d => d.fld Reg.LOG_FW_CODE 15 0 < 0xE800) = true ∧
    (meets 0 (R [(Reg.LOG_FW_CODE, 0xE800)]) fun d => 0xE800 ≤ d.fld Reg.LOG_FW_CODE 15 0 ∧ d.fld Reg.LOG_FW_CODE 15 0 ≤ 0xEBFF ∧ d.keep.queue.length < 512) = true ∧
    (meets 0 (R [(Reg.LOG_FW_CODE, 0xEC00)]) fun d => 0xEBFF < d.fld Reg.LOG_FW_CODE 15 0) = true ∧
    (meets 0 (fun d => { R [(Reg.LOG_RIDX, 8191)] d with keep := { d.keep with ring := [(8191, { time := 1, seq := 2, src := 3, code := 4, data := [] })] } }) fun d =>
      assocGet (d.fld Reg.LOG_RIDX 12 0) d.keep.ring = some { time := 1, seq := 2, src := 3, code := 4, data := [] }) = true ∧
    (sat 0 (fun d => { R [(Reg.LOG_STAT, 0)] d with keep := { d.keep with main := false } }) fun d => d.keep.alive = true ∧ d.keep.main = false ∧ d.bit Reg.LOG_STAT 30 =
      false) = true ∧
    (sat 0 (fun d => { d with keep := { d.keep with harvSince := some 0 } }) fun d => d.keep.harvSince = some 0) = true ∧
    (meets 0 (fun d => { d with time := { d.time with inc := 5 * 2 ^ 32 } }) fun d => d.time.inc ≠ 0) = true ∧
    (meets uMs (fun d => { d with time := { d.time with inc := 5 * 2 ^ 32 } }) fun d => d.time.inc ≠ 0 ∧ d.keep.ktAt + uMs ≤ uMs) = true ∧
    (meets (uMs - 1) (fun d => { d with time := { d.time with inc := 5 * 2 ^ 32 } }) fun d => ¬ d.keep.ktAt + uMs ≤ uMs - 1) = true ∧
    (meets 15 (fun d => { d with keep := { d.keep with wroteAt := some 0, queue := [{ time := 1, seq := 2, src := 3, code := 4, data := [] }] } }) fun d =>
      d.keep.wroteAt.map (· / uFc) = some (15 / uFc) ∧ d.keep.queue ≠ []) = true ∧
    (meets 16 (fun d => { d with keep := { d.keep with wroteAt := some 0, queue := [{ time := 1, seq := 2, src := 3, code := 4, data := [] }] } }) fun d =>
      d.keep.wroteAt.map (· / uFc) ≠ some (16 / uFc) ∧ d.keep.queue ≠ []) = true := by decide +kernel

/-- States that meet the hypotheses of JournalBursts, clause by clause. -/
theorem witness_JournalBursts :
    (sat 0 id fun d => d.keep.alive = true ∧ d.keep.unfl = [] ∧ d.keep.burst = none ∧ d.keep.retryAt = none) = true ∧
    (sat 0 (fun d => { R [(Reg.LOG_CTRL, 1)] d with keep := { d.keep with unfl := [(0, 0)], flushReq := true } }) fun d => d.bit Reg.LOG_CTRL 0 = true ∧ d.keep.unfl ≠ []
      ∧ d.keep.flushReq = true ∧ d.keep.main = true ∧ d.keep.burst = none) = true ∧
    (sat 0 (fun d => { R [(Reg.LOG_CTRL, 1)] d with keep := { d.keep with unfl := List.replicate 126 (0, 0), main := false } }) fun d => 126 ≤ d.keep.unfl.length ∧
      d.keep.main = false ∧ ¬ ((25 * d.fld Reg.LOG_ECFG 23 20 * d.fld Reg.LOG_ECFG 15 0 : Nat) : Int) ≤ (d.fld Reg.LOG_ECFG 31 24 : Int) * ((d.fld Reg.LOG_STORE 15 0 : Int)
      * (d.fld Reg.LOG_STORE 15 0 : Int) - 810000)) = true ∧
    (sat 8 (fun d => { R [(Reg.LOG_CTRL, 1), (Reg.LOG_STORE, 5000), (Reg.LOG_CFG, 0)] d with keep := { d.keep with unfl := [(0, 8)], main := false, retryAt := some 8 } })
      fun d => d.keep.unfl.head? = some (0, 8) ∧ 8 + d.fld Reg.LOG_CFG 15 0 * uS ≤ 8 ∧ d.keep.main = false ∧ d.keep.retryAt = some 8 ∧ ((25 * d.fld Reg.LOG_ECFG 23 20 *
      d.fld Reg.LOG_ECFG 15 0 : Nat) : Int) ≤ (d.fld Reg.LOG_ECFG 31 24 : Int) * ((d.fld Reg.LOG_STORE 15 0 : Int) * (d.fld Reg.LOG_STORE 15 0 : Int) - 810000)) = true ∧
    (sat 0 (fun d => { d with keep := { d.keep with burst := some { slots := [0], bytes := [], lost := 0 }, main := false, verifyRun := 2 } }) fun d => d.keep.burst =
      some { slots := [0], bytes := [], lost := 0 } ∧ 2 ≤ d.keep.verifyRun ∧ d.keep.main = false ∧ 0 < d.fld Reg.LOG_VCFG 31 16) = true ∧
    (sat (600 * uS) id fun d => d.keep.main = true ∧ d.keep.mainSince + 600 * uS ≤ 600 * uS ∧ 0 + 300 < d.fld Reg.LOG_VCFG 15 0 ∧ d.keep.storeLow = false) = true ∧
    (sat 0 id fun d => d.storeDue 0 = true ∧ d.keep.storeAt = none ∧ ¬ (d.keep.burst.isSome = true ∧ d.keep.main = false)) = true ∧
    (sat (100 * uMs - 1) (fun d => { d with keep := { d.keep with storeAt := some 0 } }) fun d => d.storeDue (100 * uMs - 1) = false ∧ d.keep.main = true) = true ∧
    (sat uMs (fun d => { d with keep := { d.keep with storeAt := some 0, main := false, burst := some { slots := [0], bytes := [1], lost := 0 } } }) fun d => d.storeDue
      uMs = true ∧ d.keep.burst.isSome = true ∧ d.keep.main = false ∧ 0 < d.fld Reg.LOG_VCFG 31 16) = true ∧
    (sat (uMs - 1) (fun d => { d with keep := { d.keep with storeAt := some 0, main := false, burst := some { slots := [0], bytes := [1], lost := 0 } } }) fun d =>
      d.storeDue (uMs - 1) = false) = true ∧
    (sat 0 (fun d => { R [(Reg.LOG_CTRL, 1), (Reg.LOG_STORE, 5000)] d with keep := { d.keep with unfl := [(0, 0)], flushReq := true, main := false } }) fun d => ((25 *
      d.fld Reg.LOG_ECFG 23 20 * d.fld Reg.LOG_ECFG 15 0 : Nat) : Int) ≤ (d.fld Reg.LOG_ECFG 31 24 : Int) * ((d.fld Reg.LOG_STORE 15 0 : Int) * (d.fld Reg.LOG_STORE 15 0 :
      Int) - 810000) ∧ d.keep.retryAt = none ∧ d.keep.burst = none) = true := by decide +kernel

/-- States that meet the hypotheses of Recorder, clause by clause. -/
theorem witness_Recorder :
    (meets 0 id fun d => d.rec_.waiting = [] ∧ tbit (d.rd Reg.REC_CTRL) 31 = false ∧ d.fld Reg.REC_STAT 31 30 ≠ 3) = true ∧
    (meets 0 (fun d => { R [(Reg.FRM_COUNT, 2)] d with rec_ := { d.rec_ with waiting := [(0, 0, 0, [])] } }) fun d => d.rec_.waiting.filter (fun q => decide (2 ≤ frmSince
      d.frame q.1)) ≠ [] ∧ d.rec_.waiting.filter (fun q => decide (frmSince d.frame q.1 < 2)) = []) = true ∧
    (meets 0 (fun d =>
      { R [(Reg.FRM_COUNT, 1), (Reg.REC_STAT, 0x40000000), (Reg.REC_SIZE, 1), (Reg.REC_LAYOUT, 0x00400000)] d with rec_ := { d.rec_ with waiting := [(0, 0, 0, [])] } }) fun
      d => d.rec_.waiting.filter (fun q => decide (2 ≤ frmSince d.frame q.1)) = [] ∧ d.fld Reg.REC_STAT 31 30 = 1 ∧ d.recCap ≠ 0) = true ∧
    (meets 0 (fun d => { R [(Reg.REC_STAT, 0x80000000), (Reg.REC_SIZE, 1), (Reg.REC_LAYOUT, 0x00400000)] d with rec_ := { d.rec_ with waiting := [(0, 0, 0, [])] } }) fun
      d => d.fld Reg.REC_STAT 31 30 = 2 ∧ frmSince 0 (d.rd Reg.REC_CAP_FRM).toNat < 2 ^ 31 ∧ d.rec_.postLeft = 0) = true ∧
    (meets 0 (R [(Reg.REC_PRE, 10), (Reg.REC_POST, 10), (Reg.REC_BASE_HI, 8), (Reg.REC_BASE_LO, 0), (Reg.REC_SIZE, 7168), (Reg.REC_LAYOUT, 0x00400000), (Reg.DDR_STAT,
      0x80000008)]) fun d => (d.rd Reg.REC_PRE).toNat + (d.rd Reg.REC_POST).toNat + 1 ≤ d.recCap ∧ d.recBase % 2 ^ 20 = 0 ∧ 1 ≤ d.fld Reg.REC_SIZE 12 0 ∧ d.fld Reg.REC_SIZE
      12 0 ≤ 7168 ∧ d.bit Reg.DDR_STAT 31 = true ∧ 0x800000000 ≤ d.recBase ∧ d.recBase + d.fld Reg.REC_SIZE 12 0 * 2 ^ 20 ≤ 0x800000000 + d.fld Reg.DDR_STAT 3 0 * 2 ^ 30) =
      true ∧
    (meets 0 (R [(Reg.REC_SIZE, 0)]) fun d => ¬ 1 ≤ d.fld Reg.REC_SIZE 12 0) = true ∧
    (meets 0 (R [(Reg.REC_CTRL, 0x80000000), (Reg.REC_STAT, 0xC0000000)]) fun d => tbit (d.rd Reg.REC_CTRL) 31 = true ∧ d.fld Reg.REC_STAT 31 30 = 3) = true := by decide +kernel

/-- States that meet the hypotheses of LifeCycleAndKeys, clause by clause. -/
theorem witness_LifeCycleAndKeys :
    (meets 0 id fun d => bitsOf 0x00000001#32 31 24 ≠ 0xA5 ∧ d.sec.blow = none) = true ∧
    (meets 0 (R [(Reg.SEC_LC, 0), (Reg.SEC_KEY_STAT, 8)]) fun d => bitsOf 0xA5000001#32 31 24 = 0xA5 ∧ d.fld Reg.PWR_STAT 2 0 ≠ 2 ∧ d.fld Reg.PWR_STAT 2 0 ≠ 4 ∧ d.bit
      Reg.SEC_CNT 15 = false ∧ bitsOf 0xA5000001#32 1 0 = 1 ∧ d.fld Reg.SEC_LC 1 0 = 0 ∧ d.bit Reg.SEC_KEY_STAT 3 = true ∧ d.bit Reg.SEC_KEY_STAT 7 = false) = true ∧
    (meets 0 (R [(Reg.SEC_LC, 1)]) fun d => d.fld Reg.SEC_LC 1 0 = 1 ∧ bitsOf 0xA5000002#32 1 0 = 2) = true ∧
    (meets 0 (fun d => { R [(Reg.SEC_LC, 1)] d with sec := { d.sec with kstage := wordsOf P384.gx ++ wordsOf P384.gy } }) fun d => d.fld Reg.SEC_LC 1 0 ≤ 1 ∧ d.bit
      Reg.SEC_KEY_STAT 3 = false ∧ d.stagedKey = (P384.gx, P384.gy) ∧ P384.onCurve d.stagedKey.1 d.stagedKey.2 = true) = true ∧
    (meets 0 id fun d => P384.onCurve d.stagedKey.1 d.stagedKey.2 = false) = true ∧
    (meets 0 (R [(Reg.SEC_LC, 2), (Reg.SEC_KEY_STAT, 9)]) fun d => d.fld Reg.SEC_LC 1 0 ≠ 0 ∧ d.fld Reg.SEC_LC 1 0 ≠ 3 ∧ d.bit Reg.SEC_KEY_STAT 0 = true ∧ d.bit
      Reg.SEC_KEY_STAT 3 = true) = true ∧
    (meets 0 (R [(Reg.SEC_LC, 2), (Reg.SEC_KEY_STAT, 8)]) fun d => d.bit Reg.SEC_KEY_STAT 3 = true ∧ ((List.range 3).all fun i => d.bit Reg.SEC_KEY_STAT i = false)) =
      true ∧
    (meets 0 (R [(Reg.IMG_SECVER, 1), (Reg.SEC_CNT, 0)]) fun d => d.fld Reg.SEC_CNT 6 0 < d.fld Reg.IMG_SECVER 6 0 ∧ d.fld Reg.SEC_FWVER 6 0 ≤ d.fld Reg.SEC_CNT 22 16) =
      true ∧
    (meets 0 (R [(Reg.SEC_FWVER, 5)]) fun d => d.fld Reg.SEC_CNT 22 16 < d.fld Reg.SEC_FWVER 6 0) = true ∧
    (meets 0 (fun d => { R [(Reg.SEC_CNT, 0x8000)] d with sec := { d.sec with blow := some (1, 5, 0) } }) fun d => d.bit Reg.SEC_CNT 15 = true ∧ d.sec.blow = some (1, 5,
      0)) = true ∧
    (decide ((0#32) = State.reset.otp.shadow 0 ∧ (1#32) ≠ State.reset.otp.shadow 2)) = true ∧
    (meets (3600 * uS) (fun d => { d with sec := { d.sec with otpAt := some 0 } }) fun d => d.sec.otpAt = some 0 ∧ 0 + 3600 * uS ≤ 3600 * uS) = true ∧
    (meets (3600 * uS - 1) (fun d => { d with sec := { d.sec with otpAt := some 0 } }) fun d => d.sec.otpAt = some 0 ∧ ¬ 0 + 3600 * uS ≤ 3600 * uS - 1) = true := by decide +kernel

/-- States that meet the hypotheses of PowerStateCommands, clause by clause. -/
theorem witness_PowerStateCommands :
    (meets 0 id fun d => d.pair ≠ 1 ∧ d.pair ≠ 2 ∧ d.armCause = 1 ∧ d.fld Reg.PWR_STAT 2 0 ≠ 2) = true ∧
    (meets 0 (R [(Reg.TWN_STAT, 0x40000000), (Reg.IMG_STAT, 0x10), (Reg.FRM_STAT, 8), (Reg.SEC_LC, 2), (Reg.PWR_STAT, 1)]) fun d => d.armCause = 0 ∧ d.fld Reg.PWR_STAT 2
      0 = 1) = true ∧
    (meets 0 (R [(Reg.TWN_STAT, 0x20000000), (Reg.IMG_STAT, 0x10), (Reg.FRM_STAT, 8), (Reg.SEC_LC, 1), (Reg.PWR_STAT, 2)]) fun d => d.armCause = 0 ∧ d.fld Reg.PWR_STAT 2
      0 = 2) = true ∧
    (meets 0 (R [(Reg.PWR_STAT, 4)]) fun d => d.fld Reg.PWR_STAT 2 0 = 4) = true ∧
    (meets 0 (R [(Reg.PWR_STAT, 1)]) fun d => d.fld Reg.PWR_STAT 2 0 = 1 ∧ d.owner = false ∧ d.clk.started = false) = true ∧
    (meets 0 (fun d => { R [(Reg.PWR_STAT, 0)] d with clk := { d.clk with started := true } }) fun d => d.fld Reg.PWR_STAT 2 0 = 0 ∧ d.owner = false ∧ d.clk.started =
      true) = true := by decide +kernel

/-- States that meet the hypotheses of DebugAccess, clause by clause. -/
theorem witness_DebugAccess :
    (meets 0 id fun d => d.sec.lockout = none ∧ d.dbgDecide 0 = 0 ∧ d.bit Reg.DBG_STAT 28 = false ∧ d.sec.chalUsed = true ∧ d.sec.verifyAt = none ∧ d.sec.chalExp = none)
      = true ∧
    (meets 8 (fun d => { d with sec := { d.sec with lockout := some 8, chalExp := some 8, chalUsed := false } }) fun d => d.sec.lockout = some 8 ∧ d.sec.lockout.isSome =
      true ∧ d.sec.chalExp = some 8 ∧ d.bit Reg.DBG_STAT 28 = false) = true ∧
    (meets 0 (R [(Reg.SEC_LC, 2), (Reg.PWR_STAT, 1)]) fun d => d.sec.lockout = none ∧ d.dbgDecide 1 ≠ 0 ∧ d.fld Reg.SEC_LC 1 0 = 2 ∧ (List.replicate 32 (0 : Byte)).length
      = 32) = true ∧
    (meets 0 (R [(Reg.SEC_LC, 1), (Reg.PWR_STAT, 1)]) fun d => d.dbgDecide 2 = 1 ∧ d.fld Reg.SEC_LC 1 0 ≠ 2) = true ∧
    (meets 0 (R [(Reg.DBG_STAT, 0x10000000)]) fun d => d.bit Reg.DBG_STAT 28 = true) = true ∧
    (meets 7 (fun d => { d with sec := { d.sec with chalExp := some 8, chalUsed := false } }) fun d => d.bit Reg.DBG_STAT 28 = false ∧ d.sec.chalUsed = false ∧
      d.sec.chalExp = some 8) = true ∧
    (meets 0 (fun d => { R [(Reg.SEC_KEY_STAT, 1)] d with sec := { d.sec with verifyAt := some 0 } }) fun d => d.sec.verifyAt = some 0 ∧ d.bit Reg.SEC_KEY_STAT 0 = true ∧
      d.bit Reg.SEC_KEY_STAT 4 = false ∧ d.dbgSigOk (P384.gx, P384.gy) = false) = true ∧
    (meets 0 (fun d =>
      { R [(Reg.SEC_KEY_STAT, 1), (Reg.PWR_STAT, 1)] d with sec := { d.sec with verifyAt := some 0, reqLevel := 2, resp := wordsOf sigR ++ wordsOf sigS } }) fun d =>
      d.dbgSigOk (P384.gx, P384.gy) = true ∧ d.dbgDecide d.sec.reqLevel = 1) = true ∧
    (meets 0 (fun d => { d with sec := { d.sec with lockout := some 8 } }) fun d => d.sec.lockout = some 8 ∧ 0 < 8) = true ∧
    (meets 8 (fun d => { d with sec := { d.sec with chalExp := some 8, chalUsed := false } }) fun d => d.sec.chalExp = some 8 ∧ d.sec.lockout = none) = true := by decide +kernel

/-- States that meet the hypotheses of ProcessorPairs, clause by clause. -/
theorem witness_ProcessorPairs :
    (meets 0 id fun d => d.bit Reg.SYS_CPU_STAT 0 = true ∧ d.keep.alive = true ∧ d.keep.queue.length < 512 ∧ d.cpu.warmAt = none ∧ d.bit (Reg.SYS_WDT 0) 31 = false) =
      true ∧
    (meets (1000 * uMs) (R [(Reg.SYS_WDT 0, 0x800003E8)]) fun d => d.bit Reg.SYS_CPU_STAT 0 = true ∧ d.bit (Reg.SYS_WDT 0) 31 = true ∧ (d.cpuPair 0).wdtFrom + d.fld
      (Reg.SYS_WDT 0) 15 0 * uMs ≤ 1000 * uMs) = true ∧
    (meets (500 * uMs) (R [(Reg.SYS_WDT 0, 0x800003E8)]) fun d => d.bit Reg.SYS_CPU_STAT 0 = true ∧ d.bit (Reg.SYS_WDT 0) 31 = true ∧ (d.cpuPair 0).wdtHalf = false ∧ 2 *
      (d.cpuPair 0).wdtFrom + d.fld (Reg.SYS_WDT 0) 15 0 * uMs ≤ 2 * (500 * uMs)) = true ∧
    (meets 7 (fun d => { R [(Reg.SYS_CPU_STAT, 0)] d with cpu := { d.cpu with warmAt := some 8 } }) fun d => d.bit Reg.SYS_CPU_STAT 0 = false ∧ d.cpu.warmAt = some 8) =
      true ∧
    (meets 0 (R [(Reg.SYS_CPU_STAT, 0x100)]) fun d => d.bit Reg.SYS_CPU_STAT 8 = true ∧ d.bit Reg.SYS_CPU_STAT 0 = false) = true ∧
    (meets 8 (fun d => { R [(Reg.SYS_CPU_STAT, 0)] d with cpu := { d.cpu with warmAt := some 8 } }) fun d => d.bit Reg.SYS_CPU_STAT 0 = false ∧ d.cpu.warmAt = some 8 ∧
      d.fld Reg.SEC_LC 1 0 = 0) = true ∧
    (let s := fwState (R [(Reg.SYS_CPU_STAT, 0), (Reg.SEC_LC, 1)]); let d := (s.arrive 0).dev; s.dev.runs && s.mem.wf && d.fld Reg.SEC_LC 1 0 == 1 && d.bit
      Reg.SYS_CPU_STAT 0 == false && d.fld Reg.SYS_STRAP 4 3 == 0 && d.fwCode s.otp s.mem 0 == 0) = true ∧
    (meets 0 (R [(Reg.SYS_CPU_STAT, 0), (Reg.SEC_LC, 1)]) fun d => d.fld Reg.SEC_LC 1 0 = 1 ∧ d.bit Reg.SYS_CPU_STAT 0 = false ∧ d.fwCode Otp.init [] 0 ≠ 0 ∧ d.fwCode
      Otp.init [] 1 ≠ 0) = true := by decide +kernel

/-- States that meet the hypotheses of InterruptsAndTimers, clause by clause. -/
theorem witness_InterruptsAndTimers :
    (meets 0 id fun d => d.cpu.ipend = []) = true ∧
    (meets 0 (fun d => { d with cpu := { d.cpu with ipend := [271], prio := [(271, 1)], enab := [(8, 0x8000)] } }) fun d => 271 ∈ d.cpu.ipend ∧ 271 ∉ d.cpu.iclaim ∧
      ((assocGet 8 d.cpu.enab).getD 0).testBit 15 = true ∧ nth 0 d.cpu.thr 0 < (assocGet 271 d.cpu.prio).getD 0) = true ∧
    (meets 0 (fun d => { d with cpu := { d.cpu with enab := [(8, 0x8000)] } }) fun d => ((assocGet 8 d.cpu.enab).getD 0).testBit 15 = true) = true ∧
    (meets 0 id fun d => ((assocGet 8 d.cpu.enab).getD 0).testBit 15 = false) = true := by decide +kernel

/-- States that meet the hypotheses of MemoryErrorsAndXspi, clause by clause. -/
theorem witness_MemoryErrorsAndXspi :
    (decide ((⟨0x08000000, true⟩ : MemError).correctable = true ∧ (⟨0x800000000, false⟩ : MemError).correctable = false ∧ State.reset.mem.wf = true ∧ State.reset.dev.runs
      = true)) = true ∧
    (meets 0 (R [(Reg.XSP_CMD, 0x80000000)]) fun d => d.bit Reg.XSP_CMD 31 = true) = true ∧
    (meets 0 id fun d => d.bit Reg.XSP_CMD 31 = false ∧ d.cpu.xsp = none ∧ d.bit Reg.DDR_STAT 31 = false) = true ∧
    (meets (5 * uS) (fun d => { R [(Reg.XSP_CMD, 0x80000000), (Reg.LOG_CTRL, 1)] d with cpu := { d.cpu with xsp := some 0 } }) fun d => d.cpu.xsp = some 0 ∧ d.bit
      Reg.LOG_CTRL 0 = true) = true ∧
    (meets (5 * uS - 1) (fun d => { R [(Reg.XSP_CMD, 0x80000000)] d with cpu := { d.cpu with xsp := some 0 } }) fun d => d.cpu.xsp = some 0) = true ∧
    (meets 0 (R [(Reg.DDR_STAT, 0x80000000)]) fun d => d.bit Reg.DDR_STAT 31 = true) = true ∧
    (meets (5 * uS - 1) (fun d => { R [(Reg.XSP_CMD, 0x80000000)] d with cpu := { d.cpu with xsp := some 0 } }) fun d => d.cpu.xsp = some 0 ∧ 5 * uS - 1 < 0 + 5 * uS ∧
      d.bit Reg.XSP_CMD 29 = false ∧ d.bit Reg.LOG_CTRL 0 = false) = true := by decide +kernel

/-- States that meet the hypotheses of PornAndBootRom, clause by clause. -/
theorem witness_PornAndBootRom :
    (sat 0 (fun d => { d with sys := { d.sys with porn := false } }) fun d => d.sys.porn = false ∧ d.keep.main = true) = true ∧
    (sat 0 (R [(Reg.SAF_STAT, 0xFF000002)]) fun d => d.sys.porn = true ∧ d.safState = 2) = true ∧
    (sat 0 id fun d => d.sys.porn = true ∧ d.safState ≠ 2 ∧ d.fld Reg.SYS_BOOT 3 0 = 0 ∧ d.bit Reg.CLK_STAT 30 = false ∧ d.sys.refWait = none) = true ∧
    (sat 0 (R [(Reg.CLK_STAT, 0x40000000)]) fun d => d.keep.main = true ∧ d.fld Reg.SYS_BOOT 3 0 = 0 ∧ d.bit Reg.CLK_STAT 30 = true) = true ∧
    (sat 0 (fun d => { d with keep := { d.keep with main := false } }) fun d => d.keep.main = false) = true ∧
    (sat 0 (R [(Reg.SYS_BOOT, 8)]) fun d => d.sys.porn = true ∧ d.fld Reg.SYS_BOOT 3 0 ≠ 0 ∧ d.fld Reg.SYS_BOOT 3 0 ≠ 6) = true ∧
    (meets (20 * uMs - 1) (fun d => { d with sys := { d.sys with refWait := some (20 * uMs) } }) fun d => d.sys.refWait = some (20 * uMs)) = true ∧
    (meets (20 * uMs) (fun d => { R [(Reg.CLK_STAT, 0x80000000)] d with sys := { d.sys with refWait := some (20 * uMs) } }) fun d => d.sys.refWait = some (20 * uMs) ∧
      d.bit Reg.CLK_STAT 30 = false ∧ d.bit Reg.CLK_STAT 31 = true) = true ∧
    (meets 0 (R [(Reg.SYS_BOOT, 6)]) fun d => d.fld Reg.SYS_BOOT 3 0 = 6 ∧ d.fld Reg.SEC_LC 1 0 = 0) = true ∧
    (meets 0 (R [(Reg.SYS_BOOT, 6), (Reg.SEC_LC, 2), (Reg.SYS_STRAP, 16)]) fun d => d.fld Reg.SYS_BOOT 3 0 = 6 ∧ d.fld Reg.SEC_LC 1 0 = 2 ∧ d.fld Reg.SYS_STRAP 4 3 = 2) =
      true ∧
    (decide (State.reset.otp.retPend = false)) = true ∧
    (sat (2 * uMs) (fun d => { d with sys := { d.sys with porn := false } }) fun d => d.keep.main = true ∧ d.sys.porn = false ∧ d.keep.mainSince + 2 * uMs ≤ 2 * uMs) =
      true ∧
    (sat (2 * uMs - 1) (fun d => { d with sys := { d.sys with porn := false } }) fun d => d.sys.porn = false ∧ ¬ d.keep.mainSince + 2 * uMs ≤ 2 * uMs - 1) = true := by decide +kernel

/-- States that meet the hypotheses of SecureBootAndRecovery, clause by clause. -/
theorem witness_SecureBootAndRecovery :
    (meets 0 (fun d => { d with sys := { d.sys with recovery := true } }) fun d => d.sys.recovery = true ∧ d.sys.uartLast = none ∧ trustCode
      { kind := 2, commit := none, sent := 256, keys := d.trustKeys Otp.init, cnt := d.fld Reg.SEC_CNT 22 16 } (List.replicate 256 0) ≠ 0) = true ∧
    (meets uS (fun d => { d with sys := { d.sys with recovery := true, uartLast := some 0 } }) fun d => d.sys.recovery = true ∧ d.sys.uartLast = some 0 ∧ 0 + uS ≤ uS) =
      true ∧
    (meets (uS - 1) (fun d => { d with sys := { d.sys with recovery := true, uartLast := some 0 } }) fun d => d.sys.uartLast = some 0 ∧ ¬ 0 + uS ≤ uS - 1) = true ∧
    (meets 0 id fun d => d.sys.recovery = false) = true ∧
    (let s := fwState (fun d => { d with sys := { d.sys with recovery := true } }); let d := (s.arrive 0).dev; s.dev.runs && s.mem.wf && d.sys.recovery && trustCode
      { kind := 2, commit := none, sent := 400, keys := d.trustKeys s.otp, cnt := d.fld Reg.SEC_CNT 22 16 } fwBytes == 0 && fwBytes.length == 400) = true ∧
    (meets 0 (R [(Reg.SYS_BOOT, 6), (Reg.SEC_LC, 1)]) fun d => d.fld Reg.SYS_BOOT 3 0 = 6 ∧ d.fld Reg.SEC_LC 1 0 = 1 ∧ d.fld Reg.SYS_STRAP 4 3 = 0 ∧ d.fwCode Otp.init []
      0 ≠ 0 ∧ d.fwCode Otp.init [] 1 ≠ 0) = true := by decide +kernel

/-- States that meet the hypotheses of TwinMessagesAreTakenOnce, clause by clause. -/
theorem witness_TwinMessagesAreTakenOnce :
    (meets 0 id fun d => d.stage 0 ≠ 4 ∧ d.stage 0 < 3 ∧ d.stage 1 < 3) = true ∧
    (meets 0 (R [(Reg.TWN_LANE, 3)]) fun d => d.stage 0 = 3 ∧ (d.twnLane 0).capsRx = false ∧ d.fld Reg.TWN_STAT 23 21 = 0 ∧ (capsOf 1 1).major = 1 ∧ (capsOf 1 1).role ≠
      b2n (d.bit Reg.TWN_STAT 27) ∧ (capsOf 1 1).framePeriodFc = d.P) = true ∧
    (meets 0 (R [(Reg.TWN_LANE, 3)]) fun d => d.stage 0 = 3 ∧ (capsOf 2 1).major ≠ 1) = true ∧
    (meets 0 (R [(Reg.TWN_LANE, 3)]) fun d => (capsOf 1 0).role = b2n (d.bit Reg.TWN_STAT 27)) = true ∧
    (meets 0 (R [(Reg.TWN_LANE, 3), (Reg.FRM_PERIOD, 4000)]) fun d => (capsOf 1 1).role ≠ b2n (d.bit Reg.TWN_STAT 27) ∧ (capsOf 1 1).framePeriodFc ≠ d.P) = true ∧
    (meets 0 (fun d => twn (fun t => { t with lane := [{ TwnLane.init with capsRx := true, ackRx := true }, TwnLane.init] }) (R [(Reg.TWN_LANE, 3)] d)) fun d => d.stage 0
      = 3 ∧ (d.twnLane 0).capsRx = true ∧ (d.twnLane 0).ackRx = true ∧ d.stage 1 ≠ 4) = true ∧
    (meets 0 (R [(Reg.TWN_LANE, 4), (Reg.TWN_STAT, 0x20000000)]) fun d => d.stage 0 = 4 ∧ d.twn.seqs = [] ∧ d.twn.pairHold = false ∧ d.twn.takeoverHold = false ∧ d.pair =
      1 ∧ (beatOf 3).pair = 3) = true ∧
    (meets 0 (R [(Reg.TWN_LANE, 4), (Reg.TWN_STAT, 0x40000000)]) fun d => d.stage 0 = 4 ∧ d.twn.pairHold = false ∧ d.pair = 2 ∧ (beatOf 1).pair ≠ 3 ∧ (beatOf 1).pair ≠ 4)
      = true ∧
    (meets 0 (R [(Reg.TWN_LANE, 4)]) fun d => d.stage 0 = 4 ∧ d.twn.pairHold = false ∧ d.pair ≠ 1 ∧ d.pair ≠ 2) = true ∧
    (meets 0 (fun d => twn (fun t => { t with seqs := [0] }) (R [(Reg.TWN_LANE, 4)] d)) fun d => d.stage 0 = 4 ∧ d.twn.seqs = [0] ∧ 2 ^ 24 % 2 ^ 24 ∈ d.twn.seqs ∧ (2 ^ 24
      - 1) % 2 ^ 24 ∉ d.twn.seqs) = true ∧
    (meets 0 (R [(Reg.TWN_LANE, 4), (Reg.LNK_LN_CFG 0, 0xD0000000)]) fun d => d.stage 0 = 4 ∧ d.fld (Reg.LNK_LN_CFG 0) 29 28 ≠ 0) = true ∧
    (meets 0 (R [(Reg.TWN_LANE, 5)]) fun d => d.stage 0 = 5 ∧ d.fld (Reg.LNK_LN_CFG 0) 29 28 = 0 ∧ (capsOf 1 1).role ≠ b2n (d.bit Reg.TWN_STAT 27)) = true ∧
    (meets 0 (fun d => twn (fun t => { t with paired := true }) (R [(Reg.TWN_LANE, 4)] d)) fun d => d.stage 0 = 4 ∧ d.twn.paired = true ∧ d.twn.seqs = []) = true := by decide +kernel

/-- States that meet the hypotheses of TwinMirroring, clause by clause. -/
theorem witness_TwinMirroring :
    (meets 0 (R [(Reg.TWN_LANE, 4)]) fun d => d.stage 0 = 4 ∧ d.twn.seqs = [] ∧ d.pair = 0 ∧ d.hrt.graph.blks.length < 8192 ∧ d.twn.mirrored = [] ∧ d.twn.paired = false ∧
      frmLe ((d.ownFrm 0 + 3) % 2 ^ 32) d.frame = false ∧ d.fld (Reg.LNK_LN_CFG 0) 29 28 = 0) = true ∧
    (meets 0 (R [(Reg.TWN_LANE, 4), (Reg.TWN_STAT, 0x40000000)]) fun d => d.stage 0 = 4 ∧ d.pair = 2) = true ∧
    (meets 0 (R [(Reg.TWN_LANE, 4), (Reg.FRM_COUNT, 3)]) fun d => d.stage 0 = 4 ∧ frmLe ((d.ownFrm 0 + 3) % 2 ^ 32) d.frame = true) = true ∧
    (meets 0 (fun d => twn (fun t => { t with mirrored := [0] }) (graphOf [{ blk 1 0x1001 [] [] with nPar := 4 }] (List.replicate 4 0) (R [(Reg.TWN_LANE, 4)] d))) fun d
      => d.stage 0 = 4 ∧ d.pair = 0 ∧ d.twn.mirrored = [0] ∧ (d.blkAt 0).id = 1 ∧ 3 < (d.blkAt 0).nPar ∧ ((List.range 16).all fun i => d.bit Reg.LP_SWAP_STAT i = false) =
      true ∧ d.fld (Reg.LNK_LN_CFG 0) 29 28 = 0) = true ∧
    (meets 0 (fun d => twn (fun t => { t with paired := true }) (R [(Reg.TWN_LANE, 4)] d)) fun d => d.stage 0 = 4 ∧ d.twn.paired = true ∧ frmLe (d.frame + 1) (d.ownFrm 1)
      = true ∧ d.frm.colDone = false ∧ d.ownFrm 0 = d.frame) = true ∧
    (meets 0 (fun d => twn (fun t => { t with paired := true, results := [(0, 95, 1, 1)], xCount := List.replicate 96 254 })
      { R [(Reg.TWN_LANE, 4)] d with frm := { d.frm with colDone := true } }) fun d => d.stage 0 = 4 ∧ d.twn.paired = true ∧ frmLe (d.frame + 1) (d.ownFrm 0) = false ∧
      d.frm.colDone = true ∧ (d.twn.results.find? (fun q => q.1 == 0 && q.2.1 == 95)).isSome = true ∧ d.fld Reg.TWN_CFG 15 8 ≤ Nat.min (nth 0 d.twn.xCount 95 + 1) 255 ∧ nth
      false d.twn.xMark 95 = false) = true ∧
    (meets 0 (fun d => twn (fun t => { t with mirrored := [0] }) (graphOf [{ blk 1 0x2009 [] [] with nPar := 4 }] (List.replicate 4 0) (R [(Reg.TWN_LANE, 4)] d))) fun d
      => d.stage 0 = 4 ∧ d.pair = 0 ∧ d.twn.mirrored = [0] ∧ (d.blkAt 0).typ = 0x2009 ∧ frmLe ((d.ownFrm 0 + 3) % 2 ^ 32) d.frame = false) = true := by decide +kernel

/-- States that meet the hypotheses of TwinHandover, clause by clause. -/
theorem witness_TwinHandover :
    (meets 0 (R [(Reg.TWN_LANE, 4)]) fun d => d.stage 0 = 4 ∧ d.twn.seqs = [] ∧ d.pair = 0 ∧ d.twn.handover = none ∧ d.img.hot = false ∧ d.img.fullWaits = false) = true ∧
    (meets 0 (fun d => twn (fun t => { t with sweepDone := true }) (R [(Reg.TWN_LANE, 4), (Reg.TWN_STAT, 0x60000000), (Reg.TWN_CFG, 0x80080800)] d)) fun d => d.stage 0 =
      4 ∧ d.pair = 3 ∧ d.twn.sweepDone = true ∧ d.crossFull = false ∧ d.allLocked = true) = true ∧
    (meets 0 (fun d => twn (fun t => { t with sweepDone := true }) (R [(Reg.TWN_LANE, 4), (Reg.TWN_STAT, 0x60000000), (Reg.TWN_CFG, 0)] d)) fun d => d.pair = 3 ∧
      d.twn.sweepDone = true ∧ d.crossFull = true) = true ∧
    (meets 0 (fun d => twn (fun t => { t with handover := some { txFrm := 2, cause := 0, accepted := false, taker := false } }) (R [(Reg.TWN_LANE, 4), (Reg.TWN_STAT,
      0x40000000)] d)) fun d => d.stage 0 = 4 ∧ d.img.fullWaits = false ∧ d.twn.handover = some { txFrm := 2, cause := 0, accepted := false, taker := false } ∧ d.ownFrm 2 =
      2 ∧ d.frame = frmSince 2 2 ∧ d.pair = 2) = true ∧
    (meets 0 (fun d => twn (fun t => { t with handover := some { txFrm := 3, cause := 0, accepted := false, taker := true } }) (R [(Reg.TWN_LANE, 4)] d)) fun d => d.stage
      0 = 4 ∧ d.img.fullWaits = false ∧ d.twn.handover.isSome = true) = true ∧
    (meets 0 (fun d => twn (fun t => { t with peer := some (beatOf 3) }) (R [(Reg.TWN_LANE, 4), (Reg.TWN_STAT, 0x40000000)] d)) fun d => d.img.hot = false ∧ d.pair = 2 ∧
      d.peerPair = 3 ∧ d.twn.handover = none ∧ d.activeLanes ≠ 0) = true ∧
    (meets 0 (fun d => twn (fun t => { t with peer := some (beatOf 3), handover := some { txFrm := 3, cause := 0, accepted := false, taker := false } }) (R
      [(Reg.TWN_LANE, 4), (Reg.TWN_STAT, 0x40000000)] d)) fun d => d.img.hot = false ∧ d.pair = 2 ∧ d.peerPair = 3 ∧ d.twn.handover ≠ none) = true ∧
    (meets 0 (R [(Reg.TWN_LANE, 0x40), (Reg.TWN_STAT, 0x30000000)]) fun d => d.pair ≠ 0 ∧ d.owner = true ∧ d.activeLanes ≠ 0) = true ∧
    (meets 0 (R [(Reg.CLK_STAT, 0xD8000000), (Reg.TWN_LANE, 4), (Reg.TWN_STAT, 0x40000000)]) fun d => d.stage 0 = 4 ∧ d.pair = 2 ∧ d.twn.seqs = [] ∧ d.fld (Reg.LNK_LN_CFG
      0) 29 28 = 0 ∧ d.carryMask d.activeLanes ≠ 0) = true := by decide +kernel

/-- States that meet the hypotheses of TwinOwnership, clause by clause. -/
theorem witness_TwinOwnership :
    (meets 800 (R [(Reg.FRM_STAT, 8), (Reg.TWN_STAT, 0x30000000)]) fun d => d.bit Reg.FRM_STAT 3 = true ∧ d.fcOf 800 = 50 ∧ true ≠ d.twn.own ∧ d.owner = true) = true ∧
    (meets 0 (R [(Reg.TWN_STAT, 0x30000000)]) fun d => d.bit Reg.FRM_STAT 3 = false ∧ d.owner = true ∧ ¬ d.frm.lastT0 + d.P * uFc + uUs ≤ 0 ∧ d.pair ≠ 4 ∧ d.twn.tx = none
      ∧ d.twn.handover = none) = true ∧
    (meets (5000 * uFc + uUs) (R [(Reg.TWN_STAT, 0x30000000)]) fun d => d.frm.lastT0 + d.P * uFc + uUs ≤ 5000 * uFc + uUs ∧ d.owner = true) = true ∧
    (meets (5 * uUs) (fun d => twn (fun t => { t with tx := some 0 }) (R [(Reg.TWN_STAT, 0x30000000)] d)) fun d => d.twn.tx = some 0 ∧ d.owner = true ∧ 5 * uUs ≤ 0 + 5 *
      uUs) = true ∧
    (meets (5 * uUs + 1) (fun d => twn (fun t => { t with tx := some 0 }) (R [(Reg.TWN_STAT, 0x30000000)] d)) fun d => d.twn.tx = some 0 ∧ d.pair ≠ 4 ∧ d.twn.handover =
      none ∧ d.owner = true) = true ∧
    (meets 0 (fun d => twn (fun t => { t with handover := some { txFrm := 1, cause := 0, accepted := true, taker := false } })
      { R [(Reg.TWN_STAT, 0x50000000)] d with frm := { d.frm with nextT0 := 4 * uUs } }) fun d => d.twn.handover = some
      { txFrm := 1, cause := 0, accepted := true, taker := false } ∧ d.pair = 2 ∧ d.owner = true ∧ 1 = (d.frame + 1) % 2 ^ 32 ∧ d.frm.nextT0 ≤ 0 + 4 * uUs) = true ∧
    (meets (2 * uUs) (fun d => twn (fun t => { t with tx := some 0, takeoverHold := true }) (R [(Reg.TWN_STAT, 0x80000000)] d)) fun d => d.pair = 4 ∧ d.twn.takeoverHold =
      true ∧ d.twn.tx = some 0) = true ∧
    (meets (2 * uUs - 1) (fun d => twn (fun t => { t with tx := some 0, takeoverHold := true }) (R [(Reg.TWN_STAT, 0x80000000)] d)) fun d => d.twn.tx = some 0 ∧ ¬ 0 + 2 *
      uUs ≤ 2 * uUs - 1 ∧ d.pair ≠ 1) = true ∧
    (meets (2 * 5000 * uFc) (fun d => twn (fun t => { t with tx := some 0, takeoverHold := true, peer := some (beatOf 1) }) (R [(Reg.TWN_STAT, 0x30000000)] d)) fun d =>
      d.pair = 1 ∧ d.twn.takeoverHold = true ∧ d.twn.tx = some 0 ∧ 0 + 2 * d.P * uFc ≤ 2 * 5000 * uFc ∧ d.twn.peer.isSome = true) = true ∧
    (meets (2 * 5000 * uFc) (fun d => twn (fun t => { t with tx := some 0, takeoverHold := true, ownerRep := some (2, 0) }) (R [(Reg.TWN_STAT, 0x30000000)] d)) fun d =>
      d.pair = 1 ∧ d.twn.takeoverHold = true ∧ d.twn.tx = some 0 ∧ d.twn.ownerRep = some (2, 0)) = true := by decide +kernel

/-- States that meet the hypotheses of FrameBegins, clause by clause. -/
theorem witness_FrameBegins :
    (decide (State.reset.dev.runs = true ∧ State.reset.dev.t0Due = none)) = true ∧
    (decide ((at0 fun d => { d with frm := { d.frm with firstT0 := some 8 } }).dev.t0Due = some 8 ∧ 0 < State.reset.dev.P)) = true ∧
    (decide ((at0 fun d => { R [(Reg.FRM_STAT, 8)] d with frm := { d.frm with nextT0 := 80000 } }).dev.t0Due = some 80000)) = true ∧
    (decide ((at0 fun d => { R [(Reg.FRM_STAT, 8), (Reg.FRM_CTRL, 0)] d with frm := { d.frm with nextT0 := 80000 } }).dev.t0Due = some 80000)) = true := by decide +kernel

/-- States that meet the hypotheses of FrameIsCounted, clause by clause. -/
theorem witness_FrameIsCounted :
    (decide ((at0 fun d => { d with frm := { d.frm with firstT0 := some 8 } }).dev.t0Due = some 8 ∧ State.reset.dev.runs = true)) = true ∧
    (decide ((at0 fun d => { R [(Reg.FRM_STAT, 8), (Reg.FRM_COUNT, 0xFFFFFFFF)] d with frm := { d.frm with nextT0 := 80000 } }).dev.t0Due = some 80000 ∧ (R
      [(Reg.FRM_COUNT, 0xFFFFFFFF)] State.reset.dev).frame = 2 ^ 32 - 1)) = true := by decide +kernel

/-- States that meet the hypotheses of InputsAreDelivered, clause by clause. -/
theorem witness_InputsAreDelivered :
    (meets (900 * 16) id fun d => d.running = false) = true ∧
    (meets (900 * 16) (R [(Reg.FRM_STAT, 8)]) fun d => d.running = true ∧ d.frm.acqDone = false ∧ d.activeLanes = 0) = true ∧
    (meets (900 * 16) (fun d => { R [(Reg.FRM_STAT, 8)] d with frm := { d.frm with acqDone := true } }) fun d => d.running = true ∧ d.frm.acqDone = true) = true ∧
    (meets (900 * 16) (fun d => graphOf [{ blk 1 0x4003 [] [3] with nPar := 1 }] [47] (R [(Reg.FRM_STAT, 8)] d)) fun d => d.running = true ∧ d.frm.acqDone = false ∧
      isInput (d.blkAt 0).typ = true ∧ d.blkRuns 0 = true ∧ d.inputBlks 0x4003 (some 47) = [0] ∧ (d.blkAt 0).outs[0]? = some 3 ∧ 3 < d.hrt.sig.length ∧ 3 <
      d.hrt.copy.length) = true := by decide +kernel

/-- States that meet the hypotheses of CollectEnds, clause by clause. -/
theorem witness_CollectEnds :
    (meets 0 id fun d => d.running = false) = true ∧
    (meets 0 (fun d => { R [(Reg.FRM_STAT, 8)] d with frm := { d.frm with colDone := true } }) fun d => d.running = true ∧ d.frm.colDone = true) = true ∧
    (meets 0 (fun d => { R [(Reg.FRM_STAT, 8)] d with hrt := { d.hrt with posts := [packet 0] } }) fun d => d.running = true ∧ d.frm.colDone = false ∧ d.hrt.posts ≠ []) =
      true := by decide +kernel

/-- States that meet the hypotheses of TasksStart, clause by clause. -/
theorem witness_TasksStart :
    (meets (900 * 16) id fun d => d.running = false ∧ (d.engAt 0).todo = []) = true ∧
    (meets (900 * 16) (fun d => twoTasks (R [(Reg.FRM_STAT, 8), (Reg.HRT_ENG_STAT 0, 2)] d)) fun d => d.running = true ∧ d.frm.colDone = false ∧ d.fcOf (900 * 16) = 900 ∧
      d.engState 0 = 2 ∧ (d.hrt.eng.all fun q => q.run.isNone) = true ∧ (d.engAt 0).todo = [1] ∧ 900 + 600 + d.taskCost d.gf 1 < d.P ∧ d.missing d.gf (900 * 16) 1 = some
      (1, 0)) = true ∧
    (meets (4911 * 16) (fun d => twoTasks (R [(Reg.FRM_STAT, 8), (Reg.HRT_ENG_STAT 0, 1)] d)) fun d => d.running = true ∧ d.fcOf (4911 * 16) + 88 < d.P ∧ d.engState 0 = 1
      ∧ (d.engAt 0).todo = [1] ∧ d.P ≤ 4911 + 600 + d.taskCost d.gf 1 ∧ d.missing d.gf (4911 * 16) 1 = some (1, 0) ∧ d.taskBlks 1 = [1] ∧ d.isTarget 0 = false) = true ∧
    (meets (4911 * 16) (fun d => let d := twoTasks (R [(Reg.FRM_STAT, 8), (Reg.HRT_ENG_STAT 0, 1)] d); { d with hrt := { d.hrt with comm := [(0, 4911 * 16)] } }) fun d =>
      d.running = true ∧ d.engState 0 = 1 ∧ d.P ≤ 4911 + 600 + d.taskCost d.gf 1 ∧ d.missing d.gf (4911 * 16) 1 = none ∧ d.taskBlks 1 = [1]) = true := by decide +kernel

/-- States that meet the hypotheses of TasksFinish, clause by clause. -/
theorem witness_TasksFinish :
    (meets 0 id fun d => (d.engAt 0).run = none) = true ∧
    (meets 7 (fun d => let d := twoTasks d; { d with hrt := { d.hrt with eng := [{ Eng.init with run := some (runOf []) }] } }) fun d => (d.engAt 0).run = some (runOf [])
      ∧ 7 < (runOf []).endAt) = true ∧
    (meets 8 (fun d => let d := twoTasks d; { d with hrt := { d.hrt with eng := [{ Eng.init with run := some (runOf [{ dst := .sig 0, val := 1 }]) }] } }) fun d =>
      (d.engAt 0).run.isSome = true ∧ (runOf []).todo = [] ∧ (runOf []).endAt ≤ 8 ∧ ((List.range 64).all fun k => k == 0 || (d.engAt k).run.isNone) = true ∧ 0 ∈ (d.taskAt
      0).blks ∧ 0 < d.hrt.rt.length) = true := by decide +kernel

/-- States that meet the hypotheses of CollectorAndBlockSwitches, clause by clause. -/
theorem witness_CollectorAndBlockSwitches :
    (meets 0 id fun d => d.running = false) = true ∧
    (meets (4911 * 16) (fun d => { R [(Reg.FRM_STAT, 8)] d with hrt := { d.hrt with posts := [packet (4911 * 16)] } }) fun d => d.running = true ∧ d.frm.colDone = false ∧
      d.fcOf (4911 * 16) + 89 ≤ d.P ∧ d.hrt.colAt ≤ d.fcAt 4911 ∧ (d.hrt.eng.all fun q => q.run.isNone) = true ∧ d.hrt.posts = [packet (4911 * 16)] ∧ (packet (4911 *
      16)).elig ≤ d.fcAt 4911) = true ∧
    (meets (4912 * 16) (R [(Reg.FRM_STAT, 8)]) fun d => d.running = true ∧ d.P < d.fcOf (4912 * 16) + 89) = true ∧
    (meets 0 (fun d => { R [(Reg.FRM_STAT, 8)] d with hrt := { d.hrt with posts := [packet 16] } }) fun d => d.running = true ∧ d.frm.colDone = false ∧ d.hrt.posts =
      [packet 16] ∧ d.fcAt 0 < 16) = true ∧
    (meets 0 (fun d => graphOf [blk 1 0x0004 [] []] [] (R [(Reg.HRT_BLKID, 1)] d)) fun d => (d.rd Reg.HRT_BLKID).toNat = 1 ∧ (d.blkAt 0).id = 1 ∧ d.hrt.graph.blks.length
      = 1 ∧ (d.rtAt 0).mode = 1) = true ∧
    (meets 0 (fun d => let d := graphOf [blk 1 0x0004 [] []] [] (R [(Reg.HRT_BLKID, 1)] d); { d with hrt := { d.hrt with rt := [{ BlkRt.fresh 0 with mode := 4 }] } }) fun
      d => (d.blkAt 0).id = 1 ∧ (d.rtAt 0).mode = 4) = true ∧
    (meets 0 (fun d => let d := graphOf [blk 1 0x0004 [] []] [] (R [(Reg.HRT_BLKID, 1)] d); { d with hrt := { d.hrt with rt := [{ BlkRt.fresh 0 with mode := 3 }] } }) fun
      d => (d.blkAt 0).id = 1 ∧ (d.rtAt 0).mode = 3) = true ∧
    (meets 0 (fun d => let d := graphOf [blk 1 0x0004 [] []] [] (R [(Reg.HRT_BLKID, 1)] d); { d with hrt := { d.hrt with rt := [{ BlkRt.fresh 0 with mode := 2 }] } }) fun
      d => (d.blkAt 0).id = 1 ∧ (d.rtAt 0).mode = 2) = true ∧
    (meets 0 (R [(Reg.HRT_BLKID, 1)]) fun d => d.hrt.graph.blks = []) = true := by decide +kernel

/-- States that meet the hypotheses of SelfTestRequestsAndRotation, clause by clause. -/
theorem witness_SelfTestRequestsAndRotation :
    (meets 0 (R [(Reg.HRT_ENG_STAT 63, 5)]) fun d => d.engState 63 = 5) = true ∧
    (meets 0 id fun d => d.engState 63 ≠ 5 ∧ d.engState 63 ≠ 1 ∧ d.plc.queue = [] ∧ d.plc.testDue = [] ∧ d.plc.test = none ∧ d.bit Reg.PLC_CTRL 0 = false ∧ 3 ≤ (d.engsIn
      [0]).length ∧ d.plc.rotEnd = none ∧ d.bit Reg.PLC_CTRL 1 = true) = true ∧
    (meets 0 (fun d => { d with plc := { d.plc with test := some (1, 8), queue := List.replicate 7 { eng := 2, reserved := false, fw := true } } }) fun d => d.engState 0
      ≠ 5 ∧ d.plc.test ≠ none ∧ d.plc.queue.length = 7) = true ∧
    (meets 0 (fun d => { d with plc := { d.plc with test := some (1, 8), queue := List.replicate 8 { eng := 2, reserved := false, fw := true } } }) fun d => d.engState 0
      ≠ 5 ∧ d.plc.test ≠ none ∧ d.plc.queue.length = 8) = true ∧
    (meets 0 (R [(Reg.PLC_CTRL, 0)]) fun d => d.bit Reg.PLC_CTRL 1 = false) = true ∧
    (meets 0 (fun d => { d with plc := { d.plc with rotEnd := some 8 } }) fun d => d.bit Reg.PLC_CTRL 1 = true ∧ d.plc.rotEnd = some 8) = true ∧
    (meets 8 (fun d => { R [(Reg.HRT_ENG_STAT 0, 4)] d with plc := { d.plc with rotEnd := some 8 } }) fun d => d.plc.rotEnd = some 8 ∧ (d.plc.rotLast + 1 + 0) % 64 = 0 ∧
      d.engState 0 = 4 ∧ d.engState 1 ≠ 4 ∧ d.engState 1 ≠ 5) = true ∧
    (meets 8 (fun d => { R ((List.range 64).map fun e => (Reg.HRT_ENG_STAT e, 5)) d with plc := { d.plc with rotEnd := some 8 } }) fun d => d.plc.rotEnd = some 8 ∧
      ((List.range 64).all fun e => d.engState e == 5) = true) = true ∧
    (meets 0 (R [(Reg.HRT_ENG_STAT 63, 2)]) fun d => d.engState 63 = 2) = true ∧
    (meets 0 (fun d => { d with plc := { d.plc with queue := [{ eng := 63, reserved := true, fw := false }] } }) fun d => d.engState 63 ≠ 5 ∧ d.engState 63 ≠ 2 ∧
      (d.plc.queue ++ d.plc.testDue).any (fun q => q.eng == 63) = true) = true := by decide +kernel

/-- States that meet the hypotheses of SelfTestsRun, clause by clause. -/
theorem witness_SelfTestsRun :
    (meets 0 (fun d => { d with plc := { d.plc with testDue := [{ eng := 63, reserved := false, fw := false }] } }) fun d => d.plc.testDue.head? = some
      { eng := 63, reserved := false, fw := false } ∧ d.plc.test = none ∧ d.bit Reg.PLC_CTRL 0 = false ∧ 3 ≤ (d.engsIn [0]).length ∧ d.engState 63 = 0) = true ∧
    (meets 0 (fun d => { R [(Reg.HRT_ENG_STAT 0, 6)] d with plc := { d.plc with queue := [{ eng := 0, reserved := false, fw := true }] } }) fun d => d.plc.testDue = [] ∧
      (d.plc.queue.filter (fun q => !q.reserved)).head? = some { eng := 0, reserved := false, fw := true } ∧ d.engState 0 = 6 ∧ 2 ≤ (d.engsIn [0]).length) = true ∧
    (meets 0 id fun d => d.plc.testDue = [] ∧ d.plc.queue = [] ∧ d.plc.test = none) = true ∧
    (meets 7 (fun d => { d with plc := { d.plc with test := some (63, 8) } }) fun d => d.plc.test = some (63, 8)) = true ∧
    (meets 8 (fun d => { R [(Reg.HRT_ENG_STAT 63, 3)] d with plc := { d.plc with test := some (63, 8) } }) fun d => d.plc.test = some (63, 8) ∧ d.anv.reqs = []) = true ∧
    (meets 0 (fun d => { d with plc := { d.plc with testDue := [{ eng := 63, reserved := false, fw := false }] } }) fun d => d.plc.testDue.head?.map (fun q => q.eng) =
      some 63 ∧ (d.plc.migs.all fun m => m.reason != 2) = true) = true := by decide +kernel

/-- States that meet the hypotheses of ParametersAndSwaps, clause by clause. -/
theorem witness_ParametersAndSwaps :
    (meets 0 id fun d => d.parCause 0 [(0, 5)] 0 = 6 ∧ d.follows = true) = true ∧
    (meets 0 (fun d => graphOf [{ blk 1 0x1001 [] [] with nPar := 7 }] [0, 0, 0, 0, 0, 0xBF800000, 0x3F800000] (R [(Reg.TWN_STAT, 0x30000000), (Reg.LP_PSEL, 0x80000002)]
      d)) fun d => d.parCause 1 [(2, 0)] 2 = 0 ∧ d.follows = false ∧ d.mirroring = false ∧ d.fld Reg.LP_PSEL 31 31 = 1) = true ∧
    (meets 0 (fun d => graphOf [{ blk 1 0x1001 [] [] with nPar := 7 }] [0, 0, 0, 0, 0, 0xBF800000, 0x3F800000] (R [(Reg.LP_PSEL, 0x80000002)] d)) fun d => d.parCause 1
      [(2, 0)] 2 = 7) = true ∧
    (meets 0 (fun d => graphOf [{ blk 1 0x1001 [] [] with nPar := 7 }] [0, 0, 0, 0, 0, 0xBF800000, 0x3F800000] (R [(Reg.TWN_STAT, 0x30000000), (Reg.LP_PSEL, 0x80000002)]
      d)) fun d => d.parCause 1 [(2, 0x7F800000)] 2 = 5) = true := by decide +kernel

/-- States that meet the hypotheses of LoadsAreRequested, clause by clause. -/
theorem witness_LoadsAreRequested :
    (meets 0 id fun d => d.imgState = 0 ∧ d.sys.bootOver = false) = true ∧
    (meets 0 (fun d => { d with sys := { d.sys with bootOver := true } }) fun d => d.imgState = 0 ∧ d.img.fullWaits = false ∧ d.sys.bootOver = true ∧ d.pair = 0 ∧ d.power
      ≠ 2 ∧ d.img.hot = false) = true ∧
    (meets 0 (fun d => { R [(Reg.PWR_STAT, 2)] d with sys := { d.sys with bootOver := true } }) fun d => d.imgState = 0 ∧ d.pair ≠ 2 ∧ d.power = 2) = true ∧
    (meets 0 (fun d => { R [(Reg.TWN_STAT, 0x60000000)] d with sys := { d.sys with bootOver := true } }) fun d => d.imgState = 0 ∧ d.pair = 3 ∧ d.power ≠ 2) = true ∧
    (meets 0 (fun d => twn (fun t => { t with peer := some (beatOf 3) })
      { R [(Reg.TWN_STAT, 0x50000000), (Reg.TWN_LANE, 4)] d with sys := { d.sys with bootOver := true } }) fun d => d.imgState = 0 ∧ d.pair = 2 ∧ d.peerPair = 3) = true ∧
    (meets 0 (fun d => { R [(Reg.IMG_STAT, 2)] d with img := { d.img with hot := true } }) fun d => d.img.hot = true ∧ d.imgState = 2) = true ∧
    (meets 0 (R [(Reg.IMG_STAT, 1)]) fun d => d.img.hot = false ∧ d.imgState = 1) = true := by decide +kernel

/-- States that meet the hypotheses of FullLoadEnds, clause by clause. -/
theorem witness_FullLoadEnds :
    (meets 0 id fun d => d.imgState ≠ 1) = true ∧
    (meets 0 (R [(Reg.IMG_STAT, 1)]) fun d => d.imgState = 1 ∧ d.img.hot = false ∧ trustCode (d.trustOf Otp.init [] d.img.slot 1) (Memory.container [] d.img.slot 1) ≠ 0)
      = true := by decide +kernel

/-- States that meet the hypotheses of HotUpdates, clause by clause. -/
theorem witness_HotUpdates :
    (meets 0 id fun d => d.imgState ≠ 1 ∧ d.imgState ≠ 2) = true ∧
    (meets 0 (fun d => { R [(Reg.IMG_STAT, 1)] d with img := { d.img with hot := true } }) fun d => d.imgState = 1 ∧ d.img.hot = true ∧ trustCode (d.trustOf Otp.init []
      d.img.slot 1) (Memory.container [] d.img.slot 1) ≠ 0) = true ∧
    (meets 0 (fun d => { R [(Reg.IMG_STAT, 2)] d with img := { d.img with hot := true, next := some img } }) fun d => d.imgState = 2 ∧ d.img.hot = true ∧ d.img.nextPlace
      = none ∧ d.img.next = some img ∧ (d.hotPlacement img).isSome = true) = true ∧
    (meets 0 (fun d =>
      { R ((Reg.IMG_STAT, 2) :: (List.range 64).map fun e => (Reg.HRT_ENG_STAT e, 5)) d with img := { d.img with hot := true, next := some { img with graph := { rates := [(1, 0)], sigs := [{ typ := 0, rate := 0, cls := 0, tap := false, init := 0 }], blks := [blk 1 0x0007 [0] [0]] } } } })
      fun d => d.imgState = 2 ∧ d.img.hot = true ∧ d.img.nextPlace = none ∧ d.img.next.map d.hotPlacement = some none) = true ∧
    (meets 0 (fun d => { R [(Reg.IMG_STAT, 2)] d with img := { d.img with hot := true } }) fun d => d.imgState = 2 ∧ d.img.next = none) = true := by decide +kernel

/-- States that meet the hypotheses of RegisterWrites, clause by clause. -/
theorem witness_RegisterWrites :
    (meets 0 id fun d => regSpec? (Reg.ANV_SRC_CFG 0) ≠ none ∧ regSpec? 0x1012FFFC = none ∧ Reg.ANV_SRC_CFG 0 / 0x10000 ∈ [0x1002, 0x1010, 0x1012, 0x1013, 0x101F, 0x1034]
      ∧ d.bit Reg.ANV_CTRL 0 = false ∧ d.loaded = false) = true ∧
    (meets 0 (R [(Reg.IMG_STAT, 0x10)]) fun d => d.loaded = true) = true ∧
    (decide (State.reset.mem.wf = true)) = true ∧
    (meets 0 (fun d => { R [(Reg.IMG_STAT, 0x100)] d with hwSet := [(Reg.IMG_STAT, 8)] }) fun d => d.hwSet.contains (Reg.IMG_STAT, 8) = true ∧ (regSpec? Reg.IMG_STAT).map
      (fun r => r.w1c.getLsbD 8) = some true ∧ Reg.IMG_STAT / 0x10000 ∈ [0x1002, 0x1010, 0x1012, 0x1013, 0x101F, 0x1034]) = true := by decide +kernel

/-- States that meet the hypotheses of EveryStepKeepsTheMemoryCanonical, clause by clause. -/
theorem witness_EveryStepKeepsTheMemoryCanonical :
    (decide (State.reset.mem.wf = true)) = true := by decide +kernel

/-- States that meet the hypotheses of FusesOnlyGrow, clause by clause. -/
theorem witness_FusesOnlyGrow :
    (match step { State.reset with pending := [.clrLat 0] } with | .next s' => decide (s'.pending = []) | _ => false) = true := by decide +kernel

/-- States that meet the hypotheses of BlocksRun, clause by clause. -/
theorem witness_BlocksRun :
    (let e : BlkEnv := { env with ins := [0x7F800000, 0], rec_ := { blk 1 0x1001 [0, 1, 1, 1] [2, 3] with nPar := 7 } }; (fpIns e.rec_ e.a).contains 0 && Fp.isFinite (e.x
      0) == false) = true ∧
    (let e : BlkEnv := { env with ins := [0x40000000], a := [0x3F800000, 0x3F800000] }; e.rec_.typ == 0x0004 && Fp.isFinite (e.x 0) && Fp.isFinite (e.pa 0) && Fp.isFinite
      (e.pa 1) && Fp.le (e.pa 0) (e.pa 1)) = true ∧
    (let e : BlkEnv := { env with ins := [5], rec_ := blk 1 0x0007 [0] [1] }; e.rec_.typ == 0x0007) = true ∧
    (let m : Fml := { stack := List.replicate 15 0, st := [], outs := [] }; decide (m.stack.length ≤ 16) && progOk 1 0 0 m.stack.length ([(1, 0)] ++ [])) = true := by decide +kernel

/-! ## A signed image -/

/-- The bytes of an image container before the empty change log of its SAFETY section: all 96 channels on bridge 0, one block TEMPER_IN, no parameters. -/
def imHead : List Byte :=
  [89, 76, 82, 70, 0, 1, 0, 1, 1, 0, 0, 150, 161, 161, 5, 0, 192, 35, 0, 0, 0, 0, 0, 0, 1] ++ List.replicate 23 0 ++ [1, 0, 0, 0, 0, 1, 0, 0,
    80, 1, 0, 0, 127, 68, 204, 223, 2, 0, 0, 0, 80, 2, 0, 0, 104, 0, 0, 0, 210, 142, 170, 225, 3, 0, 0, 0, 192, 2, 0, 0, 16, 0, 0, 0, 85, 75,
    187, 236, 4, 0, 0, 0, 208, 2, 0, 0, 96, 32, 0, 0, 202, 140, 106, 111, 5, 0, 0, 0, 48, 35, 0, 0, 4, 0, 0, 0, 28, 223, 68, 33] ++
    List.replicate 124 0 ++ [154, 120, 71, 77, 136, 19] ++ List.replicate 14 0 ++ [100] ++ List.replicate 15 0 ++
    ((List.range 96).flatMap fun i => [0, BitVec.ofNat 8 (i / 32 * 64 + i % 32)]) ++
    List.replicate 112 0 ++ [3, 0, 0, 0, 1, 0, 0, 0, 1, 0, 0, 0, 0, 0, 0, 0, 1, 0, 0, 0, 0, 0, 0, 0, 0, 0, 1] ++ List.replicate 15 0 ++ [1] ++
    List.replicate 15 0 ++ [1] ++ List.replicate 13 0 ++ [1, 0, 0, 0, 10, 64, 0, 3, 0, 0, 255, 255, 0, 0, 0, 0, 0, 0, 32, 0, 0, 0, 0, 0, 0, 0,
    1, 0, 2] ++ List.replicate 27 0 ++ [1, 0, 0, 0, 16, 39]

/-- The bytes behind it, with the trailer: the signature is made with the private key 1. -/
def imTail : List Byte :=
  List.replicate 106 0 ++ [89, 83, 73, 71, 1, 0, 0, 0, 170, 135, 202, 34, 190, 139, 5, 55, 142, 177, 199, 30, 243, 32, 173, 116, 110, 29, 59,
    98, 139, 167, 155, 152, 89, 247, 65, 224, 130, 84, 42, 56, 85, 2, 242, 93, 191, 85, 41, 108, 58, 84, 94, 56, 114, 118, 10, 183, 62, 23, 253,
    34, 103, 92, 40, 216, 76, 119, 209, 165, 244, 8, 18, 199, 103, 107, 44, 142, 199, 87, 62, 159, 199, 3, 40, 3, 250, 1, 198, 89, 182, 233, 41,
    163, 19, 28, 41, 173, 46, 239, 12, 132, 27, 209, 240, 217] ++ List.replicate 24 0

/-- An eighth of the empty change log. -/
def im0 : List Byte := List.replicate 1024 0

/-- The container. -/
def imBytes : List Byte := imHead ++ (im0 ++ im0 ++ im0 ++ im0 ++ im0 ++ im0 ++ im0 ++ im0) ++ imTail

/-- Its commit record. -/
def imCommit : List Byte :=
  [65, 90, 67, 77, 1, 1, 0, 0, 192, 35, 0, 0, 0, 0, 0, 0, 0, 0, 0, 0, 199, 245, 197, 109, 0, 0, 0, 0, 67, 141, 69, 87]

/-- The firmware and the image in slot 0. -/
def imMem : Memory :=
  (cells 0x20000000 fwBytes ++ cells 0x203FF000 fwCommit ++ cells 0x20400000 imBytes ++ cells 0x20FFF000 imCommit).filter fun p => p.2 != 0xFF

/-- The state after reset with that memory, with the generator as key 0, and with the device changed. -/
def imState (f : Dev → Dev) : State := { fwState f with mem := imMem }

theorem crc_all_0 : imHead.foldl crcByte 0xFFFFFFFF#32 = 1460595491#32 := by decide +kernel

theorem crc_all_1 : im0.foldl crcByte 1460595491#32 = 1132995766#32 := by decide +kernel

theorem crc_all_2 : im0.foldl crcByte 1132995766#32 = 215721572#32 := by decide +kernel

theorem crc_all_3 : im0.foldl crcByte 215721572#32 = 384655351#32 := by decide +kernel

theorem crc_all_4 : im0.foldl crcByte 384655351#32 = 457399878#32 := by decide +kernel

theorem crc_all_5 : im0.foldl crcByte 457399878#32 = 133235606#32 := by decide +kernel

theorem crc_all_6 : im0.foldl crcByte 133235606#32 = 1115078738#32 := by decide +kernel

theorem crc_all_7 : im0.foldl crcByte 1115078738#32 = 3988151680#32 := by decide +kernel

theorem crc_all_8 : im0.foldl crcByte 3988151680#32 = 2298100548#32 := by decide +kernel

theorem crc_all_9 : imTail.foldl crcByte 2298100548#32 = 2453277240#32 := by decide +kernel

theorem crc_all : crc32 (imHead ++ (im0 ++ im0 ++ im0 ++ im0 ++ im0 ++ im0 ++ im0 ++ im0) ++ imTail) = 1841690055#32 := by
  simp only [crc32, List.foldl_append, crc_all_0, crc_all_1, crc_all_2, crc_all_3, crc_all_4, crc_all_5, crc_all_6, crc_all_7, crc_all_8, crc_all_9]
  decide

theorem crc_saf_0 : (imHead.drop 720).foldl crcByte 0xFFFFFFFF#32 = 1789471427#32 := by decide +kernel

theorem crc_saf_1 : im0.foldl crcByte 1789471427#32 = 403108718#32 := by decide +kernel

theorem crc_saf_2 : im0.foldl crcByte 403108718#32 = 1788210127#32 := by decide +kernel

theorem crc_saf_3 : im0.foldl crcByte 1788210127#32 = 3733932155#32 := by decide +kernel

theorem crc_saf_4 : im0.foldl crcByte 3733932155#32 = 698021477#32 := by decide +kernel

theorem crc_saf_5 : im0.foldl crcByte 698021477#32 = 3291332420#32 := by decide +kernel

theorem crc_saf_6 : im0.foldl crcByte 3291332420#32 = 1074589039#32 := by decide +kernel

theorem crc_saf_7 : im0.foldl crcByte 1074589039#32 = 1547535847#32 := by decide +kernel

theorem crc_saf_8 : im0.foldl crcByte 1547535847#32 = 3002285745#32 := by decide +kernel

theorem crc_saf_9 : (imTail.take 90).foldl crcByte 3002285745#32 = 2425713461#32 := by decide +kernel

theorem crc_saf : crc32 ((imHead.drop 720) ++ (im0 ++ im0 ++ im0 ++ im0 ++ im0 ++ im0 ++ im0 ++ im0) ++ (imTail.take 90)) = 1869253834#32 := by
  simp only [crc32, List.foldl_append, crc_saf_0, crc_saf_1, crc_saf_2, crc_saf_3, crc_saf_4, crc_saf_5, crc_saf_6, crc_saf_7, crc_saf_8, crc_saf_9]
  decide

theorem im_take : imBytes.take 9152 = imBytes := by decide +kernel

theorem im_crc : (crc32 (imBytes.take (leAt imBytes 0x10 4))).toNat = leAt imCommit 0x14 4 := by
  rw [show leAt imBytes 0x10 4 = 9152 by decide +kernel, im_take, imBytes, crc_all]
  decide +kernel

theorem im_saf : (imBytes.drop 720).take 8288 = imHead.drop 720 ++ (im0 ++ im0 ++ im0 ++ im0 ++ im0 ++ im0 ++ im0 ++ im0) ++ imTail.take 90 := by
  decide +kernel

theorem im_dir : (dirOf imBytes).filter (fun d => (sectionTypes 1).contains d.typ) = [{ typ := 1, sfl := 0, off := 256, len := 336, crc := 3754706047 }, { typ := 2, sfl := 0, off := 592, len := 104, crc := 3786051282 }, { typ := 3, sfl := 0, off := 704, len := 16, crc := 3971697493 }, { typ := 4, sfl := 0, off := 720, len := 8288, crc := 1869253834 }, { typ := 5, sfl := 0, off := 9008, len := 4, crc := 558161692 }] := by
  decide +kernel

theorem im_crcs : crcsOk 1 imBytes = true := by
  unfold crcsOk
  rw [im_dir]
  simp only [List.all_cons, List.all_nil, Bool.and_true, im_saf, crc_saf]
  decide +kernel

theorem im_sig : sigOk imBytes 9152 (some (P384.gx, P384.gy)) = true := by decide +kernel

/-- The graph of the container. -/
def imGraph : Graph :=
  let sig : SigRec := { typ := 0, rate := 0, cls := 1, tap := false, init := 0 }
  { rates := [(1, 0)], sigs := [sig, sig, sig], blks := [{ blk 1 0x400A [] [0, 1, 2] with rate := 0 }] }

theorem im_facts : (imageOf imBytes).graph = imGraph ∧ (imageOf imBytes).setA = [] ∧ (imageOf imBytes).setB = [] ∧ (imageOf imBytes).periodFc = 5000 := by decide +kernel

/-- The one task of that graph: it runs on no engine. -/
def imTask : Task := { blks := [0], rate := 0, trig := 0xFFFF, noShare := true, eng := 64 }

/-- No task is assigned. -/
def imAsg : Asg := { eng := [64], on := List.replicate 64 [], commit := [], fin := [] }

/-- With no task on an engine every limit holds. -/
theorem im_eval : (imGraph.facts [] 5000).evalOrders [imTask] [] (List.replicate 64 []) = some imAsg := by decide +kernel

theorem im_eval_homes : (imGraph.facts [] 5000).evalOrders [imTask] ((imGraph.facts [] 5000).homes [imTask] [64]) (List.replicate 64 []) = some imAsg := by
  decide +kernel

/-- The graph of one TEMPER_IN block has a placement where block ROM gives that block no more state words than a device can checkpoint. -/
theorem im_place (h : Config.stateWords 0x400A 0 ≤ 262144) (sp : List Nat) (u : Nat) :
    ((imGraph.facts [] 5000).place [imTask] 0 (List.replicate 64 []) [] sp u).isSome = true := by
  have h1 : ((List.range [imTask].length).filter (fun i => decide (0 ≤ i) && !(nth Task.none_ [imTask] i).blks.any (imGraph.facts [] 5000).input)) = [] := by
    decide +kernel
  have h2 : (imGraph.facts [] 5000).bulkOk ((imGraph.facts [] 5000).homes [imTask] [64]) = true := by decide +kernel
  have h3 : sumOf ((imGraph.facts [] 5000).g.blks.map stateWordsOf) ≤ 262144 := by
    rw [show (imGraph.facts [] 5000).g.blks.map stateWordsOf = [Config.stateWords 0x400A 0] from rfl]
    simpa [sumOf] using h
  have h4 : imAsg.eng = [64] ∧ imAsg.on = List.replicate 64 [] := ⟨rfl, rfl⟩
  simp only [GF.place, h1, im_eval, Option.bind_some, List.length_nil, GF.assign, List.isEmpty_nil, if_true, h4.1, h4.2, im_eval_homes, h2, h3, and_self,
    Option.isSome_some]

theorem im_form : (imGraph.facts [] 5000).form [] = [imTask] := by decide +kernel

/-- The container's image can be placed on any engines where DDR is trained. -/
theorem im_placed (d : Dev) (es : List Nat) (hc : d.bit Reg.DDR_STAT 31 = true) (h : Config.stateWords 0x400A 0 ≤ 262144) :
    (d.placement (imageOf imBytes) es).isNone = false := by
  obtain ⟨g, a, _, p⟩ := im_facts
  have hp := im_place h es es.length
  simp only [Dev.placement, g, a, p, hc, GF.placeAll, im_form, Bool.not_true, Bool.and_false, Bool.false_eq_true, if_false]
  cases hq : (imGraph.facts [] 5000).place [imTask] 0 (List.replicate 64 []) [] es es.length with
  | none => rw [hq] at hp; cases hp
  | some q => rfl

/-- The checks of the container's image after the trust checks, on a device on which they do not fail, end in the question whether it can be placed. -/
theorem im_code (d : Dev) (hd : (d.stageImage 0 (imageOf imBytes)).imgCfgOk (imageOf imBytes).regs = true) (hc : d.bit Reg.DDR_STAT 31 = true)
    (h : Config.stateWords 0x400A 0 ≤ 262144) : ∀ es, d.imageCode 0 imBytes (some es) = 0 := by
  intro es
  have h1 : structOk (sectionCut imBytes 1) = true := by decide +kernel
  have h2 : graphOk (sectionCut imBytes 2) imGraph [] 5000 = true := by decide +kernel
  have h3 : paramOk imGraph (leAt (sectionCut imBytes 3) 4 1) 5000 [] [] = true := by decide +kernel
  have h4 : safetyOk (sectionCut imBytes 4) = true := by decide +kernel
  have h5 : (decide ((sectionCut imBytes 5).length < 4) || !metaOk (leAt (sectionCut imBytes 5) 0 4) ((sectionCut imBytes 5).drop 4)) = false := by decide +kernel
  have h6 : (imGraph.blks.all ((d.stageImage 0 (imageOf imBytes)).pwmBlkOk (imageOf imBytes))) = true := by simp [imGraph, blk, Dev.pwmBlkOk]
  have h7 := im_placed d es hc h
  obtain ⟨g, a, b, p⟩ := im_facts
  simp only [Dev.imageCode, h1, hd, g, a, b, p, h2, h6, h7, h3, h4, h5, Bool.and_self, Bool.not_true, Bool.false_eq_true, if_false]

/-- What the checks of that container compare it with. -/
def imTrust : Trust := { kind := 1, commit := some imCommit, sent := 0, keys := [some (P384.gx, P384.gy), none, none, none], cnt := 0 }

theorem im_trust : trustCode imTrust imBytes = 0 := by
  have h1 : commitOk 1 imCommit = true := by decide +kernel
  have h2 : isText imBytes 0 [0x59, 0x4C, 0x52, 0x46] = true := by decide +kernel
  have h3 : (leAt imBytes 0xFC 4 != (crc32 (imBytes.take 0xFC)).toNat) = false := by decide +kernel
  have h4 : (leAt imBytes 5 1 != 1 || leAt imBytes 0x1C 2 != 0 || leAt imBytes 6 2 != 256 || leAt imBytes 8 1 != 1) = false := by decide +kernel
  have h5 : (leAt imBytes 0xA 2 != 0x9600 || decide (0xA1 < leAt imBytes 0xC 1) || decide (leAt imBytes 0xD 1 < 0xA1)) = false := by decide +kernel
  have h6 : lenStepOk imTrust imBytes = true := by
    simp only [lenStepOk, imTrust, im_crc]
    decide +kernel
  have h8 : leAt imBytes 0x10 4 = 9152 ∧ leAt imBytes 9 1 = 0 := by decide +kernel
  have h9 : dirOk 1 imBytes = true := by decide +kernel
  have h10 : reservedOk 1 imBytes = true := by decide +kernel
  have hk : nth none imTrust.keys 0 = some (P384.gx, P384.gy) := rfl
  have h11 : headCode imTrust imBytes = 0 := by
    simp only [headCode, h6, h8.1, h8.2, hk, im_sig, h2, h3, Bool.not_true, Bool.false_eq_true, if_false]
    simp only [imTrust, h1, h4, h5, Bool.not_true, Bool.false_eq_true, if_false]
    decide +kernel
  simp only [trustCode, h11, show imTrust.kind = 1 from rfl, h9, im_crcs, h10, ne_eq, not_true_eq_false, Bool.not_true, Bool.false_eq_true, if_false]

/-- The memory of the two containers is canonical, and the checks find this image in it. -/
theorem im_mem : imMem.wf = true ∧ imMem.container 0 1 = imBytes ∧ imMem.commitRec 0 1 = imCommit := by decide +kernel

/-- The checks of slot 0 on a device with key 0 and IMG_SECVER's counter at 0. -/
theorem im_trusted (d : Dev) (o : Otp) (hk : d.trustKeys o = imTrust.keys) (hc : d.fld Reg.SEC_CNT 6 0 = 0) :
    trustCode (d.trustOf o imMem 0 1) (imMem.container 0 1) = 0 := by
  rw [show d.trustOf o imMem 0 1 = imTrust by simp only [Dev.trustOf, imTrust, im_mem.2.2, hk, hc, if_true], im_mem.2.1]
  exact im_trust

/-- A full load of slot 0 under check; `ddr` is DDR_STAT. -/
def fullState (ddr pwr : Nat) : State := imState (R [(Reg.IMG_STAT, 1), (Reg.DDR_STAT, ddr), (Reg.PWR_STAT, pwr)])

/-- A hot update of slot 0 under check. -/
def hotState (ddr : Nat) (f : Dev → Dev) : State := imState fun d => f { R [(Reg.IMG_STAT, 0x11), (Reg.DDR_STAT, ddr)] d with img := { d.img with hot := true } }

/-- A device that runs this image with the blocks `l`. -/
def runsIm (l : List BlkRec) (d : Dev) : Dev :=
  { d with
    img := { d.img with run := some (imageOf imBytes) }, saf := { d.saf with copy := (imageOf imBytes).safety }
    hrt := { d.hrt with graph := { imGraph with blks := l } } }

/-- A trusted image that cannot be placed: DDR is not trained. -/
theorem witness_FullLoadEnds_refused :
    let s := fullState 0 1
    let d := (s.arrive 0).dev
    s.dev.runs = true ∧ d.imgState = 1 ∧ d.img.hot = false ∧ trustCode (d.trustOf s.otp s.mem d.img.slot 1) (s.mem.container d.img.slot 1) = 0 ∧
      d.imageCode 0 (s.mem.container d.img.slot 1) (some d.img.trial) ≠ 0 := by
  refine ⟨by decide +kernel, by decide +kernel, by decide +kernel, im_trusted _ _ (by decide +kernel) (by decide +kernel), ?_⟩
  rw [show (fullState 0 1).mem = imMem from rfl, show ((fullState 0 1).arrive 0).dev.img.slot = 0 from rfl, im_mem.2.1]
  decide +kernel

/-- A trusted image that is accepted. Block ROM's state words of TEMPER_IN are a free value (log entry 41): the witness holds wherever it is at most what
R79 allows. -/
theorem witness_FullLoadEnds_accepted (h : Config.stateWords 0x400A 0 ≤ 262144) : ∀ pwr ∈ [1, 2],
    let s := fullState 0x80000000 pwr
    let d := (s.arrive 0).dev
    s.dev.runs = true ∧ d.imgState = 1 ∧ d.img.hot = false ∧ trustCode (d.trustOf s.otp s.mem d.img.slot 1) (s.mem.container d.img.slot 1) = 0 ∧
      d.imageCode 0 (s.mem.container d.img.slot 1) (some d.img.trial) = 0 ∧ d.power = pwr ∧
      (let im := imageOf (s.mem.container d.img.slot 1);
        ((d.loadSteps 0 im).placement im (d.loadSteps 0 im).usable).isNone = false) := by
  intro pwr hp
  have hm : (fullState 0x80000000 pwr).mem = imMem := rfl
  have hs : ((fullState 0x80000000 pwr).arrive 0).dev.img.slot = 0 := rfl
  have hi : imMem.container 0 1 = imBytes := im_mem.2.1
  simp only [List.mem_cons, List.not_mem_nil, or_false] at hp
  rcases hp with rfl | rfl
  · refine ⟨by decide +kernel, by decide +kernel, by decide +kernel, im_trusted _ _ (by decide +kernel) (by decide +kernel), ?_, by decide +kernel, ?_⟩ <;> rw [hm, hs, hi]
    · exact im_code _ (by decide +kernel) (by decide +kernel) h _
    · exact im_placed _ _ (by decide +kernel) h
  · refine ⟨by decide +kernel, by decide +kernel, by decide +kernel, im_trusted _ _ (by decide +kernel) (by decide +kernel), ?_, by decide +kernel, ?_⟩ <;> rw [hm, hs, hi]
    · exact im_code _ (by decide +kernel) (by decide +kernel) h _
    · exact im_placed _ _ (by decide +kernel) h

/-- A trusted hot update that cannot be placed, and one that is not compatible: no image runs. -/
theorem witness_HotUpdates_refused :
    let s := hotState 0 id
    let d := (s.arrive 0).dev
    s.dev.runs = true ∧ d.imgState = 1 ∧ d.img.hot = true ∧ trustCode (d.trustOf s.otp s.mem d.img.slot 1) (s.mem.container d.img.slot 1) = 0 ∧
      d.imageCode 0 (s.mem.container d.img.slot 1) (some d.img.trial) ≠ 0 := by
  refine ⟨by decide +kernel, by decide +kernel, by decide +kernel, im_trusted _ _ (by decide +kernel) (by decide +kernel), ?_⟩
  rw [show (hotState 0 id).mem = imMem from rfl, show ((hotState 0 id).arrive 0).dev.img.slot = 0 from rfl, im_mem.2.1]
  decide +kernel

/-- Trusted hot updates with correct contents: not compatible; compatible with another graph than the running one; compatible with the same graph. -/
theorem witness_HotUpdates_accepted (h : Config.stateWords 0x400A 0 ≤ 262144) :
    ∀ p ∈ [(id, false, false), (runsIm [], true, false), (runsIm imGraph.blks, true, true)],
    let s := hotState 0x80000000 p.1
    let d := (s.arrive 0).dev
    let im := imageOf (s.mem.container d.img.slot 1)
    s.dev.runs = true ∧ d.imgState = 1 ∧ d.img.hot = true ∧ trustCode (d.trustOf s.otp s.mem d.img.slot 1) (s.mem.container d.img.slot 1) = 0 ∧
      d.imageCode 0 (s.mem.container d.img.slot 1) (some d.img.trial) = 0 ∧ d.hotOk im = p.2.1 ∧ (im.graph = d.hrt.graph ↔ p.2.2 = true) := by
  have hi : imMem.container 0 1 = imBytes := im_mem.2.1
  intro p hp
  have hm : (hotState 0x80000000 p.1).mem = imMem := rfl
  simp only [List.mem_cons, List.not_mem_nil, or_false] at hp
  rcases hp with rfl | rfl | rfl
  all_goals
    refine ⟨by decide +kernel, by decide +kernel, by decide +kernel, ?_, ?_, ?_, ?_⟩
    · exact im_trusted _ _ (by decide +kernel) (by decide +kernel)
    · exact hi ▸ im_code _ (by decide +kernel) (by decide +kernel) h _
    · exact hi ▸ (by decide +kernel)
    · exact hi ▸ (by decide +kernel)

/-- Slot 0 holds firmware and an image that pass every check of start-up. -/
theorem witness_SecureBootAndRecovery_slot :
    let s := imState (R [(Reg.SYS_BOOT, 6), (Reg.SEC_LC, 1)])
    let d := (s.arrive 0).dev
    s.dev.runs = true ∧ s.mem.wf = true ∧ d.fld Reg.SYS_BOOT 3 0 = 6 ∧ d.fld Reg.SEC_LC 1 0 = 1 ∧ d.fld Reg.SYS_STRAP 4 3 = 0 ∧
      d.fwCode s.otp s.mem 0 = 0 ∧ d.bootImageCode 0 s.otp s.mem 0 = 0 := by
  refine ⟨by decide +kernel, im_mem.1, by decide +kernel, by decide +kernel, by decide +kernel, by decide +kernel, ?_⟩
  have h1 := im_trusted ((imState (R [(Reg.SYS_BOOT, 6), (Reg.SEC_LC, 1)])).arrive 0).dev (imState (R [(Reg.SYS_BOOT, 6), (Reg.SEC_LC, 1)])).otp
    (by decide +kernel) (by decide +kernel)
  unfold Dev.bootImageCode
  simp only [show (imState (R [(Reg.SYS_BOOT, 6), (Reg.SEC_LC, 1)])).mem = imMem from rfl]
  rw [h1]
  simp only [ne_eq, not_true_eq_false, if_false]
  rw [im_mem.2.1]
  decide +kernel

end Sys2Proof.Tests
end

section
/-! The reference time of the frame generator (R30): what a T0 keeps of the frame generator, and O3.

Every block acts at a T0, but only the frame generator itself changes its state there: one lemma for each function under `Dev.frameT0`.
Where a function writes a register, its proof rewrites with the laws of the write as equations (`-implicitDefEqProofs`): by definition alone the
kernel would compare the register files, and compute the reset value of the register's address. -/

namespace Sys2Proof.Machine

variable (d : Dev)

/-! ### Choices and folds -/

@[simp] theorem Dev.frm_ite (c : Prop) [Decidable c] (a b : Dev) : (if c then a else b).frm = if c then a.frm else b.frm :=
  apply_ite Dev.frm c a b

/-- The device of a choice that may fail, or another: what both keep is kept. -/
theorem Dev.frm_getD {o : Option Dev} {d a : Dev} (ho : ∀ e, o = some e → e.frm = d.frm) (ha : a.frm = d.frm) : (o.getD a).frm = d.frm := by
  cases o with
  | none => exact ha
  | some e => exact ho e rfl

/-- A fold of steps that each keep the frame generator keeps it. -/
@[simp] theorem Dev.foldl_frm {α : Type} (f : Dev → α → Dev) (hf : ∀ d a, (f d a).frm = d.frm) (l : List α) : (l.foldl f d).frm = d.frm := by
  induction l generalizing d with
  | nil => rfl
  | cons a l ih => rw [List.foldl_cons, ih, hf]

/-- The same with the result of a step named, so that the kernel meets the step's conditions outside of a projection and does not compute them. -/
theorem Dev.foldl_frm_of_eq {α : Type} (f : Dev → α → Dev) (hf : ∀ d a e, f d a = e → e.frm = d.frm) (l : List α) :
    (l.foldl f d).frm = d.frm :=
  d.foldl_frm f (fun d a => hf d a _ rfl) l

/-- The same for a fold that carries a number beside the device. -/
theorem Dev.foldl_pair_frm {α : Type} (f : Nat × Dev → α → Nat × Dev) (hf : ∀ p a, (f p a).2.frm = p.2.frm) (l : List α) (p : Nat × Dev) :
    (l.foldl f p).2.frm = p.2.frm := by
  induction l generalizing p with
  | nil => rfl
  | cons a l ih => rw [List.foldl_cons, ih, hf]

/-! ### Gate drive, bridges and the quench patterns -/

@[simp] theorem Dev.setGch_frm (n : Nat) (f : GdpCh → GdpCh) : (d.setGch n f).frm = d.frm := rfl
@[simp] theorem Dev.gateOff_frm (x n : Nat) : (d.gateOff x n).frm = d.frm := by simp [Dev.gateOff]
@[simp] theorem Dev.setGbr_frm (b : Nat) (f : GdpBr → GdpBr) : (d.setGbr b f).frm = d.frm := rfl
@[simp] theorem Dev.imgReject_frm (x code : Nat) : (d.imgReject x code).frm = d.frm := by simp [Dev.imgReject]
@[simp] theorem Dev.hotAbort_frm (x : Nat) : (d.hotAbort x).frm = d.frm := by simp [Dev.hotAbort]
@[simp] theorem Dev.quenchReq_frm (x at_ b cause : Nat) : (d.quenchReq x at_ b cause).frm = d.frm := by simp [Dev.quenchReq]

@[simp] theorem Dev.legFault_frm (x n cause : Nat) : (d.legFault x n cause).frm = d.frm := by
  unfold Dev.legFault
  split
  · rfl
  · extract_lets +onlyGivenNames st e f
    have hf : f.frm = d.frm := by simp -implicitDefEqProofs [f, e]
    cases f.chUse n with
    | none => simp -implicitDefEqProofs [hf]
    | some u => simp -implicitDefEqProofs [hf]

@[simp] theorem Dev.gate_frm (x n : Nat) : (d.gate x n).frm = d.frm := by simp [Dev.gate]
@[simp] theorem Dev.patStart_frm (x b n : Nat) : (d.patStart x b n).frm = d.frm := by simp [Dev.patStart]
@[simp] theorem Dev.setHold_frm (h : Bool) : (d.setHold h).frm = d.frm := by simp -implicitDefEqProofs [Dev.setHold]
@[simp] theorem Dev.stepNote_frm : d.stepNote.frm = d.frm := by simp [Dev.stepNote]
@[simp] theorem Dev.readyNote_frm (x : Nat) : (d.readyNote x).frm = d.frm := by simp [Dev.readyNote]
@[simp] theorem Dev.diagEnd_frm (x run : Nat) (aborted : Bool) : (d.diagEnd x run aborted).frm = d.frm := by simp -implicitDefEqProofs [Dev.diagEnd]
@[simp] theorem Dev.diagStop_frm (x : Nat) : (d.diagStop x).frm = d.frm := by simp [Dev.diagStop]
@[simp] theorem Dev.release_frm (t0 b : Nat) : (d.release t0 b).frm = d.frm := by simp [Dev.release]
@[simp] theorem Dev.quenchEnter_frm (x b cause : Nat) : (d.quenchEnter x b cause).frm = d.frm := by simp [Dev.quenchEnter]
@[simp] theorem Dev.quenchPresent_frm (x b : Nat) : (d.quenchPresent x b).frm = d.frm := by simp [Dev.quenchPresent]

@[simp] theorem Dev.gdpT0_frm (t0 : Nat) : (d.gdpT0 t0).frm = d.frm := by
  simp only [Dev.gdpT0]
  rw [Dev.foldl_frm, Dev.foldl_frm]
  · exact fun d b => d.quenchPresent_frm t0 b
  · intro d b
    cases (d.gbr b).clear with
    | none => rfl
    | some c => simp

@[simp] theorem Dev.firstT0_frm (x : Nat) : (d.firstT0 x).frm = d.frm := by simp [Dev.firstT0]

/-! ### Engines, placement and the collector -/

@[simp] theorem Dev.setPlc_frm (f : PlcSt → PlcSt) : (d.setPlc f).frm = d.frm := rfl
@[simp] theorem Dev.setEng_frm (e : Nat) (f : Eng → Eng) : (d.setEng e f).frm = d.frm := rfl
@[simp] theorem Dev.setPlace_frm (f : Placement → Placement) : (d.setPlace f).frm = d.frm := rfl
@[simp] theorem Dev.setRt_frm (j : Nat) (f : BlkRt → BlkRt) : (d.setRt j f).frm = d.frm := rfl
@[simp] theorem Dev.reserveShort_frm (x : Nat) : (d.reserveShort x).frm = d.frm := by simp [Dev.reserveShort]
@[simp] theorem Dev.plcStat_frm (x : Nat) : (d.plcStat x).frm = d.frm := by simp -implicitDefEqProofs [Dev.plcStat]
@[simp] theorem Dev.engTo_frm (x e s : Nat) : (d.engTo x e s).frm = d.frm := by simp [Dev.engTo]
@[simp] theorem Dev.planRegs_frm : d.planRegs.frm = d.frm := by simp -implicitDefEqProofs [Dev.planRegs]
@[simp] theorem Dev.moveLoad_frm (from_ to_ : Nat) : (d.moveLoad from_ to_).frm = d.frm := by simp [Dev.moveLoad]
@[simp] theorem Dev.takeShadow_frm (t : Nat) : (d.takeShadow t).frm = d.frm := by simp [Dev.takeShadow]
@[simp] theorem Dev.hrtT0_frm : d.hrtT0.frm = d.frm := by simp -implicitDefEqProofs [Dev.hrtT0]
@[simp] theorem Dev.ratesT0_frm : d.ratesT0.frm = d.frm := rfl

@[simp] theorem Dev.hrtDue_frm (held : List Nat) : (d.hrtDue held).frm = d.frm := by
  simp only [Dev.hrtDue]
  refine Dev.foldl_frm d _ (fun d e => ?_) _
  split
  · cases d.plc.migs.find? (fun m => m.tgt == e) with
    | none => simp
    | some m => by_cases hm : m.stage = 2 <;> simp [hm]
  · rfl

/-! ### Self-tests and migrations -/

@[simp] theorem Dev.dropReqs_frm (x e : Nat) (keep : TestReq → Bool) : (d.dropReqs x e keep).frm = d.frm := by simp [Dev.dropReqs]
@[simp] theorem Dev.dropReq_frm (x e : Nat) : (d.dropReq x e).frm = d.frm := by simp [Dev.dropReq]
@[simp] theorem Dev.retire_frm (x e cause : Nat) : (d.retire x e cause).frm = d.frm := by simp -implicitDefEqProofs [Dev.retire]
@[simp] theorem Dev.testQueue_frm (x e : Nat) (fw : Bool) : (d.testQueue x e fw).frm = d.frm := by simp [Dev.testQueue]
@[simp] theorem Dev.testRequest_frm (x e : Nat) (firmware : Bool) : (d.testRequest x e firmware).frm = d.frm := by simp [Dev.testRequest]
@[simp] theorem Dev.testAgain_frm (x : Nat) : (d.testAgain x).frm = d.frm := by simp [Dev.testAgain]
@[simp] theorem Dev.testStart_frm (x e : Nat) : (d.testStart x e).frm = d.frm := by simp -implicitDefEqProofs [Dev.testStart]

@[simp] theorem Dev.testAbort_frm (x : Nat) : (d.testAbort x).frm = d.frm := by
  cases h : d.plc.test with
  | none => simp -implicitDefEqProofs [Dev.testAbort, h]
  | some p => simp -implicitDefEqProofs [Dev.testAbort, h]

@[simp] theorem Dev.slowNext_frm (x e : Nat) : (d.slowNext x e).frm = d.frm := by simp [Dev.slowNext]
@[simp] theorem Dev.migReg_frm (m : Mig) : (d.migReg m).frm = d.frm := by simp -implicitDefEqProofs [Dev.migReg]
@[simp] theorem Dev.migGone_frm (x : Nat) (m : Mig) : (d.migGone x m).frm = d.frm := by simp [Dev.migGone]
@[simp] theorem Dev.migCount_frm : d.migCount.frm = d.frm := by simp [Dev.migCount]
@[simp] theorem Dev.migAbort_frm (x : Nat) (m : Mig) (cause : Nat) : (d.migAbort x m cause).frm = d.frm := by simp -implicitDefEqProofs [Dev.migAbort]
@[simp] theorem Dev.migSource_frm (x : Nat) (m : Mig) : (d.migSource x m).frm = d.frm := by simp -implicitDefEqProofs [Dev.migSource]
@[simp] theorem Dev.migPass_frm (x : Nat) (m : Mig) : (d.migPass x m).frm = d.frm := by simp -implicitDefEqProofs [Dev.migPass]

@[simp] theorem Dev.migT0_frm (x n : Nat) : (d.migT0 x n).frm = d.frm := by
  unfold Dev.migT0
  refine Dev.foldl_frm_of_eq d _ (fun d m e he => ?_) _
  rw [← he]
  simp

@[simp] theorem Dev.migSend_frm (x e : Nat) : (d.migSend x e).frm = d.frm := by simp [Dev.migSend]

theorem Dev.tryMig_frm {x n src reason avoid : Nat} {d' : Dev} (h : d.tryMig x n src reason avoid = some d') : d'.frm = d.frm := by
  rw [Dev.tryMig] at h
  split at h
  · cases h
  · cases ht : d.target avoid with
    | none => simp [ht] at h
    | some t =>
      simp only [ht, Option.some.injEq] at h
      rw [← h]
      simp

theorem Dev.testServe_frm {x n e : Nat} {d' : Dev} (h : d.testServe x n e = some d') : d'.frm = d.frm := by
  rw [Dev.testServe] at h
  split at h
  · cases h
  · split at h
    · cases h
      exact d.testStart_frm x e
    · split at h
      · exact Dev.tryMig_frm d h
      · cases h

@[simp] theorem Dev.testT0_frm (x n : Nat) : (d.testT0 x n).frm = d.frm := by
  unfold Dev.testT0
  cases d.plc.testDue with
  | cons q r =>
    simp only
    generalize he : (d.setPlc fun p => { p with testDue := p.testDue.erase q }) = e
    have hf : e.frm = d.frm := by rw [← he, Dev.setPlc_frm]
    rw [Dev.frm_ite, e.testRequest_frm, Dev.frm_getD (fun e' h => Dev.testServe_frm e h) (e.testQueue_frm ..), hf, ite_self]
  | nil =>
    cases d.queueHead with
    | none => rfl
    | some t =>
      simp only
      cases ht : d.testServe x n t.eng with
      | none => rfl
      | some e => simp [Dev.testServe_frm d ht]

@[simp] theorem Dev.thermT0_frm (x n : Nat) : (d.thermT0 x n).frm = d.frm := by
  unfold Dev.thermT0
  extract_lets +onlyGivenNames wait
  split
  · rfl
  · cases minBy? (fun q => (65536 * 4 - nth 0 d.plc.excess q).toNat) ((List.range 4).filter d.quadHot) with
    | none => rfl
    | some q =>
      simp only
      cases minBy? (fun e => 65536 - d.fld (Reg.HRT_ENG_TIME e) 15 0) ((d.engsIn [1]).filter (fun e => e / 16 == q)) with
      | none => rfl
      | some e => exact Dev.frm_getD (fun d' h => Dev.tryMig_frm d h) rfl

@[simp] theorem Dev.slowT0_frm (x n : Nat) : (d.slowT0 x n).frm = d.frm := by
  unfold Dev.slowT0
  refine Dev.foldl_frm d _ (fun d e => ?_) _
  cases h : d.tryMig x n e 1 4 with
  | none => simp
  | some d' => simp [Dev.tryMig_frm d h]

@[simp] theorem Dev.rotT0_frm (x : Nat) : (d.rotT0 x).frm = d.frm := by simp [Dev.rotT0]

/-! ### Recovery after an engine is lost -/

@[simp] theorem Dev.freeOne_frm (x : Nat) : (d.freeOne x).1.frm = d.frm := by
  unfold Dev.freeOne
  cases d.recovSpare with
  | some t => rfl
  | none =>
    cases d.plc.test with
    | some p => simp
    | none =>
      cases minBy? (fun (m : Mig) => frmSince d.frame m.frame * 2 + (1 - m.k)) d.plc.migs with
      | some m => simp
      | none =>
        cases (d.engsIn [6]).head? with
        | some e => simp
        | none => rfl

@[simp] theorem Dev.restore_frm (first : Nat) (bad : List Nat) (i : Nat) : (d.restore first bad i).2.frm = d.frm := by
  unfold Dev.restore
  cases d.ckptFrame first bad i with
  | none => simp -implicitDefEqProofs
  | some f => simp -implicitDefEqProofs

@[simp] theorem Dev.restoreAll_frm (first : Nat) (bad tasks : List Nat) : (d.restoreAll first bad tasks).2.frm = d.frm :=
  Dev.foldl_pair_frm (fun acc i => (Nat.max acc.1 (acc.2.restore first bad i).1, (acc.2.restore first bad i).2))
    (fun p i => Dev.restore_frm p.2 first bad i) tasks (0, d)

@[simp] theorem Dev.packed_frm (a : Asg) : (d.packed a).frm = d.frm := by simp [Dev.packed]

@[simp] theorem Dev.packAll_frm (tasks engs : List Nat) : (d.packAll tasks engs).1.frm = d.frm := by
  unfold Dev.packAll
  extract_lets +onlyGivenNames F p
  cases F.evalOrders p.tasks p.home p.order with
  | none => rfl
  | some a => simp

@[simp] theorem Dev.unload_frm (e : Nat) : (d.unload e).frm = d.frm := by simp [Dev.unload]
@[simp] theorem Dev.recovDone_frm (x : Nat) (r : Recov) : (d.recovDone x r).frm = d.frm := by simp -implicitDefEqProofs [Dev.recovDone]
@[simp] theorem Dev.recovStart_frm (e tgt : Nat) : (d.recovStart e tgt).frm = d.frm := by simp [Dev.recovStart]

@[simp] theorem Dev.recovLoad_frm (x : Nat) (bad : List Nat) (r : Recov) : (d.recovLoad x bad r).frm = d.frm := by
  unfold Dev.recovLoad
  extract_lets +onlyGivenNames c ages e begun
  have hc : c.1.frm = d.frm := by
    unfold c
    split
    · rfl
    · exact d.freeOne_frm x
  have he : e.frm = d.frm := (c.1.restoreAll_frm _ _ _).trans hc
  cases c.2 with
  | none => simp -implicitDefEqProofs [begun, he]
  | some t => simp -implicitDefEqProofs [begun, he]

@[simp] theorem Dev.placeUnplaced_frm (x n : Nat) (bad : List Nat) (fuel : Nat) : (Dev.placeUnplaced x n bad fuel d).frm = d.frm := by
  induction fuel generalizing d with
  | zero => rfl
  | succ fuel ih =>
    rw [Dev.placeUnplaced]
    cases d.recovSpare with
    | none => simp
    | some t => simp [ih]

@[simp] theorem Dev.recovT0_frm (x n : Nat) (bad : List Nat) : (d.recovT0 x n bad).frm = d.frm := by simp [Dev.recovT0]

/-! ### Blocks switched, parameters and hot updates -/

@[simp] theorem Dev.noteResult_frm (n : Nat) (u v : Word) : (d.noteResult n u v).frm = d.frm := by simp [Dev.noteResult]
@[simp] theorem Dev.setPch_frm (n : Nat) (f : PwmCh → PwmCh) : (d.setPch n f).frm = d.frm := rfl

@[simp] theorem Dev.pwmCommit_frm (x at_ n : Nat) (per cmpu cmpd : Option Word) : (d.pwmCommit x at_ n per cmpu cmpd).frm = d.frm := by
  simp [Dev.pwmCommit]

@[simp] theorem Dev.pwmCommitList_frm (at_ n : Nat) (ws : List Word) : (d.pwmCommitList at_ n ws).frm = d.frm := by simp [Dev.pwmCommitList]

@[simp] theorem Dev.pwmWords_frm (x end_ blk : Nat) (ws : List PWord) : (d.pwmWords x end_ blk ws).frm = d.frm := by simp [Dev.pwmWords]
@[simp] theorem Dev.putOuts_frm (b : BlkRec) (vs : List (Option Word)) : (d.putOuts b vs).frm = d.frm := rfl
@[simp] theorem Dev.blkOffNow_frm (x n j : Nat) : (d.blkOffNow x n j).frm = d.frm := by simp [Dev.blkOffNow]
@[simp] theorem Dev.blkSwitch_frm (x n : Nat) : (d.blkSwitch x n).frm = d.frm := by simp [Dev.blkSwitch]
@[simp] theorem Dev.swapNow_frm (x n g : Nat) : (d.swapNow x n g).frm = d.frm := by simp [Dev.swapNow]
@[simp] theorem Dev.swapAborts_frm (x : Nat) (swapped : Bool) : (d.swapAborts x swapped).frm = d.frm := by simp [Dev.swapAborts]

@[simp] theorem Dev.swapEqual_frm (x n : Nat) : (d.swapEqual x n).frm = d.frm := by
  cases h : d.beatOf (frmSince n 1) with
  | none => simp [Dev.swapEqual, h]
  | some b => simp [Dev.swapEqual, h]

@[simp] theorem Dev.lpT0_frm (x n : Nat) : (d.lpT0 x n).frm = d.frm := by simp [Dev.lpT0]
@[simp] theorem Dev.setTwn_frm (f : TwnSt → TwnSt) : (d.setTwn f).frm = d.frm := rfl
@[simp] theorem Dev.mirrorEval_frm : d.mirrorEval.frm = d.frm := by simp -implicitDefEqProofs [Dev.mirrorEval]
@[simp] theorem Dev.imgRegs_frm (im : Image) (slot : Nat) : (d.imgRegs im slot).frm = d.frm := by simp -implicitDefEqProofs [Dev.imgRegs]
@[simp] theorem Dev.recLayout_frm (g : Graph) : (d.recLayout g).frm = d.frm := by simp -implicitDefEqProofs [Dev.recLayout]
@[simp] theorem Dev.recTo_frm (st : Nat) : (d.recTo st).frm = d.frm := by simp -implicitDefEqProofs [Dev.recTo]
@[simp] theorem Dev.recArm_frm (fresh : Bool) : (d.recArm fresh).frm = d.frm := by simp -implicitDefEqProofs [Dev.recArm]
@[simp] theorem Dev.recFreeze_frm (x : Nat) (cut : Bool) : (d.recFreeze x cut).frm = d.frm := by simp -implicitDefEqProofs [Dev.recFreeze]
@[simp] theorem Dev.recCut_frm (x : Nat) : (d.recCut x).frm = d.frm := by simp [Dev.recCut]

@[simp] theorem Dev.removedOff_frm (x : Nat) (im : Image) (j : Nat) : (d.removedOff x im j).frm = d.frm := by
  cases h : (d.blkAt j).pwmChan d.hrt.setA with
  | none => simp [Dev.removedOff, h]
  | some n => simp [Dev.removedOff, h]

@[simp] theorem Dev.switchRecs_frm (im : Image) : (d.switchRecs im).frm = d.frm := by simp [Dev.switchRecs]
@[simp] theorem Dev.switchEng_frm (x e : Nat) : (d.switchEng x e).frm = d.frm := by simp [Dev.switchEng]

@[simp] theorem Dev.hotSwitchTo_frm (x n : Nat) (im : Image) (p : Placement) : (d.hotSwitchTo x n im p).frm = d.frm := by
  simp -implicitDefEqProofs [Dev.hotSwitchTo]

@[simp] theorem Dev.stageTry_frm (x : Nat) : (d.stageTry x).frm = d.frm := by
  unfold Dev.stageTry
  cases d.img.next with
  | none => rfl
  | some im =>
    cases d.img.nextPlace with
    | none => rfl
    | some p0 =>
      simp only
      generalize (if (d.addedEngs im p0).all (fun e => d.engState e == 0 || d.engState e == 1) then some p0 else d.hotPlacement im) = place
      cases place with
      | none => simp
      | some p => simp

@[simp] theorem Dev.hotT0_frm (x n : Nat) : (d.hotT0 x n).frm = d.frm := by
  unfold Dev.hotT0
  cases d.img.next with
  | none => simp
  | some im =>
    cases d.img.nextPlace with
    | none => simp
    | some p => simp

/-! ### The graph at T0 -/

@[simp] theorem Dev.setTmp_frm (f : TmpSt → TmpSt) : (d.setTmp f).frm = d.frm := rfl
@[simp] theorem Dev.tmpT0_frm : d.tmpT0.frm = d.frm := by simp [Dev.tmpT0]
@[simp] theorem Dev.putState_frm (j off : Nat) (v : Word) : (d.putState j off v).frm = d.frm := by simp [Dev.putState]
@[simp] theorem Dev.mirrorT0_frm (n : Nat) : (d.mirrorT0 n).frm = d.frm := by simp [Dev.mirrorT0]

@[simp] theorem Dev.graphT0_frm (x n : Nat) (first : Bool) (bad : List Nat) : (d.graphT0 x n first bad).frm = d.frm := by simp [Dev.graphT0]

/-! ### Inputs and outputs at T0 -/

@[simp] theorem Dev.sdmT0_frm (t0 : Nat) (first : Bool) : (d.sdmT0 t0 first).frm = d.frm := by simp [Dev.sdmT0]
@[simp] theorem Dev.toutPulse_frm (x k : Nat) : (d.toutPulse x k).frm = d.frm := by simp [Dev.toutPulse]
@[simp] theorem Dev.toutT0_frm (t0 : Nat) : (d.toutT0 t0).frm = d.frm := by simp [Dev.toutT0]
@[simp] theorem Dev.setEnc_frm (k : Nat) (f : EncCh → EncCh) : (d.setEnc k f).frm = d.frm := rfl
@[simp] theorem Dev.encObsMove_frm (k : Nat) (dx : Int) : (d.encObsMove k dx).frm = d.frm := by simp [Dev.encObsMove]
@[simp] theorem Dev.encLoad_frm (x k v : Nat) : (d.encLoad x k v).frm = d.frm := by simp [Dev.encLoad]
@[simp] theorem Dev.encUnload_frm (k : Nat) (l : EncLoad) : (d.encUnload k l).frm = d.frm := by simp [Dev.encUnload]
@[simp] theorem Dev.encTake_frm (t0 k : Nat) : (d.encTake t0 k).frm = d.frm := by simp [Dev.encTake]

theorem Dev.encBefore_frm (x k : Nat) {f : Dev → Dev} (hf : ∀ d, (f d).frm = d.frm) : (d.encBefore x k f).frm = d.frm := by
  cases h : (d.encCh k).loaded with
  | none => simp [Dev.encBefore, h, hf]
  | some l => simp [Dev.encBefore, h, hf]

@[simp] theorem Dev.encT0_frm (t0 : Nat) : (d.encT0 t0).frm = d.frm := by
  unfold Dev.encT0
  exact Dev.foldl_frm d _ (fun d k => by simp [Dev.encBefore_frm]) _

@[simp] theorem Dev.cmpT0_frm : d.cmpT0.frm = d.frm := by simp [Dev.cmpT0]
@[simp] theorem Dev.syncMiss_frm (x b n : Nat) : (d.syncMiss x b n).frm = d.frm := by simp [Dev.syncMiss]
@[simp] theorem Dev.adcT0_frm (t0 : Nat) : (d.adcT0 t0).frm = d.frm := by simp [Dev.adcT0]
@[simp] theorem Dev.blocksT0_frm (x : Nat) (first : Bool) : (d.blocksT0 x first).frm = d.frm := by simp [Dev.blocksT0]

/-! ### The twin -/

@[simp] theorem Dev.sendOn_frm (mask : Nat) (m : TwinMsg) : (d.sendOn mask m).frm = d.frm := rfl
@[simp] theorem Dev.send_frm (m : TwinMsg) : (d.send m).frm = d.frm := by simp [Dev.send]
@[simp] theorem Dev.setSdi_frm (n : Nat) (f : SdiCh → SdiCh) : (d.setSdi n f).frm = d.frm := rfl
@[simp] theorem Dev.sdmSettle_frm (x : Nat) : (d.sdmSettle x).frm = d.frm := by simp [Dev.sdmSettle]
@[simp] theorem Dev.sdiMask_frm (x n : Nat) : (d.sdiMask x n).frm = d.frm := by simp [Dev.sdiMask]
@[simp] theorem Dev.sdcMask_frm (x c : Nat) : (d.sdcMask x c).frm = d.frm := by simp [Dev.sdcMask]
@[simp] theorem Dev.sdmDrive_frm (x : Nat) (on : Bool) : (d.sdmDrive x on).frm = d.frm := by simp [Dev.sdmDrive]
@[simp] theorem Dev.ownBegin_frm (x : Nat) (drive : Bool) : (d.ownBegin x drive).frm = d.frm := by simp -implicitDefEqProofs [Dev.ownBegin]
@[simp] theorem Dev.ownEnd_frm (x : Nat) : (d.ownEnd x).frm = d.frm := by simp -implicitDefEqProofs [Dev.ownEnd]
@[simp] theorem Dev.fresh_frm : d.fresh.2.frm = d.frm := rfl

@[simp] theorem Dev.pairCause_frm (c : Option Nat) : (d.pairCause c).2.frm = d.frm := by
  cases c with
  | none => rfl
  | some c => rfl

@[simp] theorem Dev.hoRefuse_frm (x : Nat) : (d.hoRefuse x).frm = d.frm := by simp [Dev.hoRefuse]

@[simp] theorem Dev.leaveActive_frm (x old : Nat) : (d.leaveActive x old).frm = d.frm := by
  cases h : d.twn.handover with
  | none => simp [Dev.leaveActive, h]
  | some o => simp [Dev.leaveActive, h]

@[simp] theorem Dev.unpair_frm : d.unpair.frm = d.frm := by simp [Dev.unpair]
@[simp] theorem Dev.quenchPower_frm (x : Nat) : (d.quenchPower x).frm = d.frm := by simp [Dev.quenchPower]
@[simp] theorem Dev.safLockNow_frm : d.safLockNow.frm = d.frm := by simp [Dev.safLockNow]
@[simp] theorem Dev.powerTo_frm (x new : Nat) : (d.powerTo x new).frm = d.frm := by simp [Dev.powerTo]
@[simp] theorem Dev.pairTo_frm (x new : Nat) (cause : Option Nat) : (d.pairTo x new cause).frm = d.frm := by simp -implicitDefEqProofs [Dev.pairTo]
@[simp] theorem Dev.withdraw_frm (x cause : Nat) : (d.withdraw x cause).frm = d.frm := by simp [Dev.withdraw]
@[simp] theorem Dev.checkStart_frm (hot : Bool) (slot : Nat) : (d.checkStart hot slot).frm = d.frm := by simp [Dev.checkStart]
@[simp] theorem Dev.fullWaitT0_frm (x : Nat) : (d.fullWaitT0 x).frm = d.frm := by simp [Dev.fullWaitT0]
@[simp] theorem Dev.txMark_frm (x n cause : Nat) : (d.txMark x n cause).frm = d.frm := by simp -implicitDefEqProofs [Dev.txMark]

@[simp] theorem Dev.takeBridges_frm (x mask : Nat) : (d.takeBridges x mask).2.frm = d.frm := by
  unfold Dev.takeBridges
  refine Dev.foldl_pair_frm _ (fun p b => ?_) _ (0, d)
  extract_lets +onlyGivenNames e trip exceeds diag
  split
  · simp [e]
  · simp [e]

@[simp] theorem Dev.takeOver_frm (x cause : Nat) : (d.takeOver x cause).frm = d.frm := by
  cases h : d.twn.ownerRep with
  | none => simp -implicitDefEqProofs [Dev.takeOver, h]
  | some r => simp -implicitDefEqProofs [Dev.takeOver, h]

@[simp] theorem Dev.hoT0_frm (x n : Nat) : (d.hoT0 x n).frm = d.frm := by
  cases h : d.twn.handover with
  | none => simp -implicitDefEqProofs [Dev.hoT0, h]
  | some o => simp -implicitDefEqProofs [Dev.hoT0, h]

@[simp] theorem Dev.fltCompare_frm (x k : Nat) : (d.fltCompare x k).frm = d.frm := by
  cases h : d.beatOf k with
  | none => simp [Dev.fltCompare, h]
  | some b => simp [Dev.fltCompare, h]

@[simp] theorem Dev.alignRuns_frm (k : Nat) : (d.alignRuns k).frm = d.frm := by simp [Dev.alignRuns]
@[simp] theorem Dev.setTwnLane_frm (l : Nat) (f : TwnLane → TwnLane) : (d.setTwnLane l f).frm = d.frm := rfl
@[simp] theorem Dev.laneMiss_frm (k l : Nat) : (d.laneMiss k l).frm = d.frm := by simp [Dev.laneMiss]
@[simp] theorem Dev.setLane_frm (l : Nat) (f : LnkLane → LnkLane) : (d.setLane l f).frm = d.frm := rfl
@[simp] theorem Dev.toStage_frm (x l st : Nat) : (d.toStage x l st).frm = d.frm := by simp -implicitDefEqProofs [Dev.toStage]
@[simp] theorem Dev.toDetect_frm (x l : Nat) : (d.toDetect x l).frm = d.frm := by simp [Dev.toDetect]
@[simp] theorem Dev.laneLost_frm (x l : Nat) (every : Bool) : (d.laneLost x l every).frm = d.frm := by simp [Dev.laneLost]
@[simp] theorem Dev.laneBeats_frm (x k : Nat) : (d.laneBeats x k).frm = d.frm := by simp [Dev.laneBeats]
@[simp] theorem Dev.peerGone_frm : d.peerGone.frm = d.frm := by simp [Dev.peerGone]
@[simp] theorem Dev.claim_frm (x : Nat) : (d.claim x).frm = d.frm := by simp [Dev.claim]
@[simp] theorem Dev.takeStart_frm (x n cause : Nat) : (d.takeStart x n cause).frm = d.frm := by simp -implicitDefEqProofs [Dev.takeStart]

@[simp] theorem Dev.pairT0_frm (x n t0k : Nat) : (d.pairT0 x n t0k).frm = d.frm := by
  unfold Dev.pairT0
  extract_lets +onlyGivenNames k seen prev e f
  have hf : f.frm = d.frm := by simp [f, e]
  split
  all_goals simp [hf]

@[simp] theorem Dev.eaUpdate_frm : d.eaUpdate.frm = d.frm := by
  cases h : d.twn.peer with
  | none => simp [Dev.eaUpdate, h]
  | some b =>
    cases h' : d.twn.t0Hist.find? (fun (p : Nat × Nat) => p.1 == d.ownFrm b.frmCount) with
    | none => simp [Dev.eaUpdate, h, h']
    | some p => simp [Dev.eaUpdate, h, h']

@[simp] theorem Dev.twnT0_frm (x n : Nat) (t0k : Option Nat) : (d.twnT0 x n t0k).frm = d.frm := by
  cases t0k with
  | none => simp [Dev.twnT0]
  | some t => simp [Dev.twnT0]

/-! ### The recorder and memory errors -/

@[simp] theorem Dev.recDrop_frm (now : Nat) : (d.recDrop now).frm = d.frm := by simp -implicitDefEqProofs [Dev.recDrop]
@[simp] theorem Dev.recSample_frm (x k : Nat) : (d.recSample x k).frm = d.frm := by simp -implicitDefEqProofs [Dev.recSample]
@[simp] theorem Dev.eccCorrected_frm (x : Nat) (q : EccError) : (d.eccCorrected x q).frm = d.frm := by simp -implicitDefEqProofs [Dev.eccCorrected]

@[simp] theorem Dev.engHalt_frm (x e : Nat) : (d.engHalt x e).frm = d.frm := by
  unfold Dev.engHalt
  extract_lets +onlyGivenNames target q lost late e
  have he : e.frm = d.frm := rfl
  cases lost with
  | nil => exact he
  | cons p ps => simp -implicitDefEqProofs [he]

@[simp] theorem Dev.engFault_frm (x : Nat) (q : EccError) : (d.engFault x q).frm = d.frm := by
  generalize hr : d.engFault x q = r
  unfold Dev.engFault at hr
  extract_lets +onlyGivenNames e f s at hr
  have hf : f.frm = d.frm := by simp -implicitDefEqProofs [f]
  split at hr
  · rw [← hr, hf]
  · extract_lets +onlyGivenNames g at hr
    have hg : g.frm = d.frm := by simp -implicitDefEqProofs [g, hf]
    split at hr
    · extract_lets +onlyGivenNames h at hr
      have hh : h.frm = d.frm := by simp -implicitDefEqProofs [h, hg]
      split at hr
      · rw [← hr, Dev.recovStart_frm, hh]
      · rw [← hr, hh]
    · rw [← hr]
      simp -implicitDefEqProofs [hg]
    · rw [← hr]
      simp -implicitDefEqProofs [hg]

@[simp] theorem Dev.eccError_frm (x : Nat) (q : EccError) : (d.eccError x q).frm = d.frm := by simp [Dev.eccError]

/-! ### The frame generator's own part of a T0 -/

@[simp] theorem Dev.latT0_frm : d.latT0.frm = d.frm := by simp -implicitDefEqProofs [Dev.latT0]

/-- The judgement of the alignment changes the run of aligned frames only (R26). -/
theorem Dev.alignT0_frm (x n : Nat) (e : Int) : ∃ run, (d.alignT0 x n e).frm = { d.frm with alignRun := run } := by
  unfold Dev.alignT0
  split
  · exact ⟨0, rfl⟩
  · extract_lets +onlyGivenNames run src f
    exact ⟨run, by simp [f, src]⟩

/-- At a T0 the frame generator takes the reference time that waits, if one waits, and none waits then (R30). -/
theorem Dev.frmT0_tref (x n : Nat) : (d.frmT0 x n).frm.trefNew = none ∧ (d.frmT0 x n).frm.tref = d.frm.trefNew.getD d.frm.tref := by
  generalize hr : d.frmT0 x n = r
  unfold Dev.frmT0 at hr
  extract_lets +onlyGivenNames e f tref err c next g src h at hr
  obtain ⟨run, hrun⟩ := Dev.alignT0_frm h x n err
  have hf : f.frm = d.frm := by simp -implicitDefEqProofs [f, e]
  rw [← hr, hrun]
  exact ⟨rfl, by simp only [h, tref, hf]⟩

/-- All that happens at a T0 after the frame generator's own part keeps the frame generator. -/
theorem Dev.frameT0_frm (x : Nat) (ecc : List EccError) (bad : List Nat) :
    (d.frameT0 x ecc bad).frm = (d.frmT0 x (if !d.running then 0 else (d.frame + 1) % 2 ^ 32)).frm := by simp [Dev.frameT0]

end Sys2Proof.Machine

namespace Sys2Proof.Safety

open Sys2Proof Sys2Proof.Machine

/-- A command FRAME_T0 while a T0 is due leaves the device of that T0. -/
theorem leaves_frameT0 {x : Nat} {s : State} (ecc : List EccError) (bad : List Nat) (hr : s.dev.runsIn 6 = true) (hx : s.dev.t0Due = some x) :
    Leaves (.frameT0 ecc bad) x s ((s.arrive x).dev.frameT0 x ecc bad) := by
  have hr' : (s.arrive x).dev.runsIn 6 = true := hr
  have hx' : (s.arrive x).dev.t0Due = some x := hx
  show execFrameT0 ecc bad s = _
  rw [execFrameT0, act_eq, hx, Option.getD_some, Dev.liveIn_of_runsIn _ _ _ hr']
  simp only [hx']

/-- Settles O3: FRM_PHASE_HI commits the pair, and of all that happens at the next T0 only the frame generator's own part touches t_ref. -/
theorem phaseReferenceAppliesFromTheNextT0 : Obligations.PhaseReferenceAppliesFromTheNextT0 := by
  intro t x v ecc bad s hr d
  have hlo : exec (.frmPhaseLoWrite t v) s = act t s fun _ d => d.live fun d => d.wrPhaseLo v := rfl
  have hhi : exec (.frmPhaseHiWrite t v) s = act t s fun _ d => d.live fun d => d.wrPhaseHi v := rfl
  refine ⟨leaves_of_live hlo hr rfl, leaves_of_live hhi hr rfl, fun hc hx => ?_⟩
  obtain ⟨hnone, htref⟩ := (s.arrive x).dev.frmT0_tref x (if !(s.arrive x).dev.running then 0 else ((s.arrive x).dev.frame + 1) % 2 ^ 32)
  refine ⟨_, leaves_frameT0 ecc bad (by rw [Dev.runsIn, hr, hc]; rfl) hx, ?_, ?_⟩
  · rw [Dev.frameT0_frm, hnone]
  · rw [Dev.frameT0_frm, htref, State.arrive_frm]
    cases s.dev.frm.trefNew with
    | none => rfl
    | some r => rfl

end Sys2Proof.Safety
end

section
/-! The trouble log and the harvester (R437 to R444): what the functions of the Keep domain write, and O28. -/

namespace Sys2Proof.Machine

/-! ### Association lists and byte strings -/

/-- An association list read after an entry of it was set. -/
theorem assocGet_assocSet {α : Type} (i j : Nat) (v : α) (l : List (Nat × α)) :
    assocGet j (assocSet i v l) = if j = i then some v else assocGet j l := by
  induction l with
  | nil => rfl
  | cons p l ih =>
    obtain ⟨k, w⟩ := p
    rcases Nat.lt_trichotomy i k with h | h | h
    · simp [assocSet, assocGet, h]
    · by_cases hj : j = k <;> simp [assocSet, assocGet, h, hj]
    · have hk : ¬ i < k ∧ i ≠ k := by omega
      by_cases hj : j = k
      · simp [assocSet, assocGet, hk, hj, hk.2.symm]
      · simp [assocSet, assocGet, hk, hj, ih]

@[simp] theorem length_leBytes (n v : Nat) : (leBytes n v).length = n := by
  induction n generalizing v with
  | zero => rfl
  | succ n ih => simp [leBytes, ih]

theorem leNat_append (l m : List Byte) : leNat (l ++ m) = leNat l + 256 ^ l.length * leNat m := by
  induction l with
  | nil => simp [leNat]
  | cons b l ih => simp only [List.cons_append, leNat, ih, List.length_cons, pow_succ]; ring

/-- The bytes of a number spell it, as far as they reach (R41). -/
theorem leNat_leBytes (n v : Nat) : leNat (leBytes n v) = v % 256 ^ n := by
  induction n generalizing v with
  | zero => simp [leBytes, leNat, Nat.mod_one]
  | succ n ih => rw [leBytes, leNat, ih, BitVec.toNat_ofNat, pow_succ' 256 n, Nat.mod_mul (a := 256)]

theorem leBytes_add (m n v : Nat) : leBytes (m + n) v = leBytes m v ++ leBytes n (v / 256 ^ m) := by
  induction m generalizing v with
  | zero => simp [leBytes]
  | succ m ih => rw [Nat.succ_add, leBytes, ih, Nat.div_div_eq_div_mul, ← pow_succ', leBytes, List.cons_append]

/-- A full piece is cut off the front. -/
theorem chunks_append {α : Type} {n : Nat} (fuel : Nat) {l : List α} (m : List α) (hl : l.length = n) (hn : n ≠ 0) :
    chunks n (fuel + 1) (l ++ m) = l :: chunks n fuel m := by
  subst hl
  have he : (l ++ m).isEmpty = false := by
    cases l with
    | nil => exact absurd rfl hn
    | cons a l => rfl
  simp [chunks, he]

/-- An entry's bytes in pieces of four (R440): the time takes two of them, the source and the code share one. -/
theorem LogEntry.chunks_bytes (e : LogEntry) : ∃ rest, chunks 4 8 e.bytes =
    leBytes 4 e.time :: leBytes 4 (e.time / 2 ^ 32) :: leBytes 4 e.seq :: (leBytes 2 e.src ++ leBytes 2 e.code) :: rest := by
  have hb : e.bytes = leBytes 4 e.time ++ (leBytes 4 (e.time / 2 ^ 32) ++ (leBytes 4 e.seq ++
      ((leBytes 2 e.src ++ leBytes 2 e.code) ++ (e.data ++ List.replicate 16 0#8).take 16))) := by
    rw [LogEntry.bytes, leBytes_add 4 4 e.time]
    simp only [List.append_assoc, Nat.reducePow]
  refine ⟨chunks 4 4 ((e.data ++ List.replicate 16 0#8).take 16), ?_⟩
  rw [hb, chunks_append 7 _ (by simp) (by decide), chunks_append 6 _ (by simp) (by decide), chunks_append 5 _ (by simp) (by decide),
    chunks_append 4 _ (by simp) (by decide)]

variable (d : Dev)

/-! ### What a register write changes -/

theorem Dev.setF_shape (a hi lo v : Nat) : ∃ r, d.setF a hi lo v = { d with regs := r } := ⟨_, rfl⟩
theorem Dev.inc_shape (a hi lo : Nat) : ∃ r, d.inc a hi lo = { d with regs := r } := ⟨_, rfl⟩
theorem Dev.wr64_shape (lo hi v : Nat) : ∃ r, d.wr64 lo hi v = { d with regs := r } := ⟨_, rfl⟩
theorem Dev.setB_shape (a i : Nat) (b : Bool) : ∃ r w, d.setB a i b = { d with regs := r, hwSet := w } := ⟨_, _, rfl⟩

/-! ### An entry into the queue (R442) -/

/-- An entry that finds room enters the queue, and nothing else changes. -/
theorem Dev.logPut_of_room (x : Nat) (e : LogEntry) (h : d.keep.queue.length < 512) :
    d.logPut x e = { d with keep := { d.keep with queue := d.keep.queue ++ [e] } } := by
  rw [Dev.logPut, if_pos h]

/-- A direct entry of a block of a class (R440). -/
def Dev.directEntry (x cls code : Nat) (data : List (Nat × Nat)) : LogEntry :=
  { time := if d.keep.main then d.ns x else d.ktNow x, seq := if d.keep.main then (d.rd Reg.ANV_SEQ).toNat else 0xFFFFFFFF
    src := 0x8000 + cls, code := code, data := packData data }

/-- The same for a direct entry, which the Keep domain takes while it is alive. -/
theorem Dev.logDirect_of_room (x cls code : Nat) (data : List (Nat × Nat)) (ha : d.keep.alive = true) (h : d.keep.queue.length < 512) :
    d.logDirect x cls code data = { d with keep := { d.keep with queue := d.keep.queue ++ [d.directEntry x cls code data] } } := by
  rw [Dev.logDirect, ha]
  exact d.logPut_of_room x _ h

/-! ### The oldest queued entry into the ring (R442) -/

/-- The Keep domain with an entry in the ring's slot at LOG_WIDX and `rest` in the queue: the slot leaves a burst under way. -/
def Dev.ringKeep (x : Nat) (e : LogEntry) (rest : List LogEntry) : KeepSt :=
  let i := d.fld Reg.LOG_WIDX 12 0
  { d.keep with
    queue := rest, ring := assocSet i e d.keep.ring, unfl := d.keep.unfl.filter (fun (u : Nat × Nat) => u.1 != i) ++ [(i, x)], wroteAt := some x
    burst := d.keep.burst.map fun (b : BurstRun) => { b with slots := b.slots.filter (fun j => j != i) } }

/-- The device with that Keep domain: LOG_WIDX advances. -/
def Dev.toRing (x : Nat) (e : LogEntry) (rest : List LogEntry) : Dev :=
  ({ d with keep := d.ringKeep x e rest }.setF Reg.LOG_WIDX 12 0 ((d.fld Reg.LOG_WIDX 12 0 + 1) % 8192)).logCount

/-- A lost entry is counted and noted. -/
def Dev.lossNoted : Dev := (d.inc Reg.LOG_LOST 31 0).setB Reg.LOG_STAT 1 true

theorem Dev.lossNoted_shape : ∃ r w, d.lossNoted = { d with regs := r, hwSet := w } := by
  obtain ⟨r, h⟩ := d.inc_shape Reg.LOG_LOST 31 0
  rw [Dev.lossNoted, h]
  exact Dev.setB_shape ..

/-- The first loss since the note was cleared is an event as well. -/
def Dev.lossReported (x : Nat) : Dev :=
  if !d.bit Reg.LOG_STAT 1 then d.lossNoted.raise .per x 248 0xE100 [(4, (d.lossNoted.rd Reg.LOG_LOST).toNat)] else d.lossNoted

/-- What LOG_ENTRY_WRITE does with an empty queue. -/
theorem Dev.logWrite_nil (x : Nat) (h : d.keep.queue = []) : d.logWrite x = d := by
  simp only [Dev.logWrite, h]

/-- The oldest entry goes into the ring; where it takes the slot of an unflushed one, that one's loss is reported. -/
theorem Dev.logWrite_cons (x : Nat) {e : LogEntry} {rest : List LogEntry} (h : d.keep.queue = e :: rest) :
    d.logWrite x = if d.keep.unfl.any (fun u => u.1 == d.fld Reg.LOG_WIDX 12 0) then (d.toRing x e rest).lossReported x else d.toRing x e rest := by
  simp only [Dev.logWrite, h]
  rfl

theorem Dev.rd_logCount_ne {a : Nat} (h : a ≠ Reg.LOG_COUNT) : d.logCount.rd a = d.rd a := by
  rw [Dev.logCount, Dev.rd_setF_ne _ _ _ _ _ _ h, Dev.rd_setF_ne _ _ _ _ _ _ h]

theorem Dev.rd_toRing_ne (x : Nat) (e : LogEntry) (rest : List LogEntry) {a : Nat} (h : a ≠ Reg.LOG_WIDX) (h' : a ≠ Reg.LOG_COUNT) :
    (d.toRing x e rest).rd a = d.rd a := by
  rw [Dev.toRing, Dev.rd_logCount_ne _ h', Dev.rd_setF_ne _ _ _ _ _ _ h]
  rfl

theorem Dev.toRing_widx (x : Nat) (e : LogEntry) (rest : List LogEntry) :
    (d.toRing x e rest).fld Reg.LOG_WIDX 12 0 = (d.fld Reg.LOG_WIDX 12 0 + 1) % 8192 := by
  rw [Dev.toRing, Dev.fld, Dev.rd_logCount_ne _ (by decide), ← Dev.fld, Dev.fld_setF _ _ _ _ _ (by decide) (by decide)]
  exact Nat.mod_mod _ _

theorem Dev.logCount_shape : ∃ r, d.logCount = { d with regs := r } := by
  obtain ⟨r, h⟩ := d.setF_shape Reg.LOG_COUNT 29 16 d.keep.unfl.length
  rw [Dev.logCount, h]
  exact Dev.setF_shape ..

/-- The entry's way into the ring changes the registers and the Keep domain only. -/
theorem Dev.toRing_shape (x : Nat) (e : LogEntry) (rest : List LogEntry) :
    ∃ r, d.toRing x e rest = { d with regs := r, keep := d.ringKeep x e rest } := by
  obtain ⟨r, h⟩ := { d with keep := d.ringKeep x e rest }.setF_shape Reg.LOG_WIDX 12 0 ((d.fld Reg.LOG_WIDX 12 0 + 1) % 8192)
  rw [Dev.toRing, h]
  exact Dev.logCount_shape _

@[simp] theorem Dev.toRing_anv (x : Nat) (e : LogEntry) (rest : List LogEntry) : (d.toRing x e rest).anv = d.anv := by
  obtain ⟨r, h⟩ := d.toRing_shape x e rest
  rw [h]

/-- The Anvil accepts events by the clocks, the supplies and the gates. -/
theorem Dev.accepts_congr {d e : Dev} (hs : e.sys = d.sys) (hk : e.keep.main = d.keep.main) (hc : e.clk = d.clk)
    (hg : e.rd Reg.CLK_GATE = d.rd Reg.CLK_GATE) : e.accepts = d.accepts := by
  simp only [Dev.accepts, Dev.runsIn, Dev.runs, Dev.clocked, Dev.bit, hs, hk, hc, hg]

theorem Dev.toRing_accepts (x : Nat) (e : LogEntry) (rest : List LogEntry) : (d.toRing x e rest).accepts = d.accepts := by
  have hg : (d.toRing x e rest).rd Reg.CLK_GATE = d.rd Reg.CLK_GATE := d.rd_toRing_ne x e rest (by decide) (by decide)
  obtain ⟨r, h⟩ := d.toRing_shape x e rest
  rw [h] at hg ⊢
  exact Dev.accepts_congr rfl rfl rfl hg

/-- A report notes the loss, and changes the Anvil only beside. -/
theorem Dev.lossReported_shape (x : Nat) : ∃ q, d.lossReported x = { d.lossNoted with anv := q } := by
  unfold Dev.lossReported
  split
  · exact Dev.raise_shape _ _ _ _ _ _
  · exact ⟨_, rfl⟩

@[simp] theorem Dev.lossReported_rd (x a : Nat) : (d.lossReported x).rd a = d.lossNoted.rd a := by
  obtain ⟨q, h⟩ := d.lossReported_shape x
  rw [h]
  rfl

theorem Dev.rd_lossNoted_ne {a : Nat} (h : a ≠ Reg.LOG_LOST) (h' : a ≠ Reg.LOG_STAT) : d.lossNoted.rd a = d.rd a := by
  rw [Dev.lossNoted, Dev.rd_setB_ne _ _ _ _ _ h', Dev.rd_inc_ne _ _ _ _ _ h]

/-- The note of a loss in LOG_STAT. -/
theorem Dev.lossReported_note (x : Nat) : (d.lossReported x).bit Reg.LOG_STAT 1 = true := by
  rw [Dev.bit, Dev.lossReported_rd]
  exact Dev.bit_setB _ _ _ _ (by decide)

/-- The count of lost entries saturates. -/
theorem Dev.lossReported_lost (x : Nat) :
    (d.lossReported x).fld Reg.LOG_LOST 31 0 = Nat.min (d.fld Reg.LOG_LOST 31 0 + 1) (2 ^ 32 - 1) := by
  have h : satInc (d.fld Reg.LOG_LOST 31 0) 32 = Nat.min (d.fld Reg.LOG_LOST 31 0 + 1) (2 ^ 32 - 1) := by
    unfold satInc
    split
    · exact (Nat.min_eq_left (by omega)).symm
    · exact (Nat.min_eq_right (by omega)).symm
  rw [Dev.fld, Dev.lossReported_rd, Dev.lossNoted, Dev.rd_setB_ne _ _ _ _ _ (by decide), ← Dev.fld, Dev.inc,
    Dev.fld_setF _ _ _ _ _ (by decide) (by decide), h]
  exact Nat.mod_eq_of_lt (lt_of_le_of_lt (Nat.min_le_right _ _) (by decide))

/-- With no note and the Anvil quiet the report's request stands. -/
theorem Dev.lossReported_requested (x : Nat) (hn : d.bit Reg.LOG_STAT 1 = false) (ha : d.accepts = true)
    (hq : ∀ r ∈ d.anv.reqs, r.src = 248 → r.arrive ≠ arrivalOf .per x) :
    ∃ n, ({ src := 248, arrive := arrivalOf .per x, code := 0xE100, data := [(4, n)] } : EvReq) ∈ (d.lossReported x).anv.reqs := by
  have hl : d.lossNoted.accepts = true :=
    ha ▸ Dev.accepts_congr rfl rfl rfl (d.rd_lossNoted_ne (by decide) (by decide))
  refine ⟨(d.lossNoted.rd Reg.LOG_LOST).toNat, ?_⟩
  rw [Dev.lossReported, hn, Bool.not_false, if_pos rfl, Dev.raise_anv _ _ _ _ _ _ hl hq]
  exact List.mem_append_right _ (List.mem_singleton_self _)

/-- What LOG_ENTRY_WRITE changes where an entry waits. -/
theorem Dev.logWrite_shape (x : Nat) {e : LogEntry} {rest : List LogEntry} (h : d.keep.queue = e :: rest) :
    ∃ r w q, d.logWrite x = { d with regs := r, hwSet := w, keep := d.ringKeep x e rest, anv := q } := by
  rw [d.logWrite_cons x h]
  obtain ⟨r, hr⟩ := d.toRing_shape x e rest
  split
  · obtain ⟨q, hq⟩ := (d.toRing x e rest).lossReported_shape x
    obtain ⟨r', w, hn⟩ := (d.toRing x e rest).lossNoted_shape
    exact ⟨r', w, q, by rw [hq, hn, hr]⟩
  · exact ⟨r, d.hwSet, d.anv, hr⟩

/-- Registers that a loss does not touch. -/
theorem Dev.logWrite_rd_ne (x : Nat) {e : LogEntry} {rest : List LogEntry} (h : d.keep.queue = e :: rest) {a : Nat}
    (hl : a ≠ Reg.LOG_LOST) (hs : a ≠ Reg.LOG_STAT) : (d.logWrite x).rd a = (d.toRing x e rest).rd a := by
  rw [d.logWrite_cons x h]
  split
  · rw [Dev.lossReported_rd, Dev.rd_lossNoted_ne _ hl hs]
  · rfl

/-- LOG_ENTRY_WRITE: one entry in an fc. -/
def Dev.logStep (x : Nat) : Dev := if d.keep.alive && d.keep.wroteAt.map (· / uFc) != some (x / uFc) then d.logWrite x else d

theorem Dev.logStep_nil (x : Nat) (h : d.keep.queue = []) : d.logStep x = d := by
  rw [Dev.logStep, d.logWrite_nil x h, ite_self]

theorem Dev.logStep_again (x : Nat) (h : d.keep.wroteAt.map (· / uFc) = some (x / uFc)) : d.logStep x = d := by
  rw [Dev.logStep, h, bne_self_eq_false, Bool.and_false, if_neg Bool.false_ne_true]

theorem Dev.logStep_free (x : Nat) (ha : d.keep.alive = true) (h : d.keep.wroteAt.map (· / uFc) ≠ some (x / uFc)) : d.logStep x = d.logWrite x := by
  rw [Dev.logStep, ha, bne_iff_ne.mpr h, Bool.true_and, if_pos rfl]

/-! ### A firmware entry (R443) -/

/-- The entry of LOG_FW_CODE and the four LOG_FW_DATA words. -/
def Dev.fwLog (x : Nat) : LogEntry :=
  { time := d.ns x, seq := (d.rd Reg.ANV_SEQ).toNat, src := 0xC000, code := d.fld Reg.LOG_FW_CODE 15 0
    data := (List.range 4).flatMap (fun w => leBytes 4 (d.rd (Reg.LOG_FW_DATA w)).toNat) }

/-- A code outside of firmware's range is refused. -/
theorem Dev.fwEntry_refused (x : Nat) (h : d.fld Reg.LOG_FW_CODE 15 0 < 0xE800 ∨ 0xEBFF < d.fld Reg.LOG_FW_CODE 15 0) :
    d.fwEntry x = d.setB Reg.LOG_STAT 0 true := if_pos (by simpa using h)

/-- A code of firmware's range enters the queue. -/
theorem Dev.fwEntry_of_room (x : Nat) (hlo : 0xE800 ≤ d.fld Reg.LOG_FW_CODE 15 0) (hhi : d.fld Reg.LOG_FW_CODE 15 0 ≤ 0xEBFF)
    (h : d.keep.queue.length < 512) :
    d.fwEntry x = { d with keep := { d.keep with queue := d.keep.queue ++ [d.fwLog x] } } :=
  (if_neg (by simpa using ⟨hlo, hhi⟩)).trans (d.logPut_of_room x _ h)

/-! ### The harvester (R438) -/

/-- The device with the harvester running from `x` on. -/
def Dev.harvOn (x : Nat) : Dev := { d.setB Reg.LOG_STAT 30 true with keep := { d.keep with harvSince := some x } }

/-- The harvester starts without main supplies, unless it runs. -/
def Dev.harvStart (x : Nat) : Dev :=
  if !d.keep.alive || d.keep.main || d.bit Reg.LOG_STAT 30 then d else (d.harvOn x).logDirect x 0xE 0xE132 []

theorem Dev.harvStart_refused (x : Nat) (h : ¬ (d.keep.main = false ∧ d.bit Reg.LOG_STAT 30 = false)) : d.harvStart x = d := by
  refine if_pos ?_
  cases hm : d.keep.main with
  | true => rw [Bool.or_true, Bool.true_or]
  | false => rw [Bool.not_eq_false _ |>.mp fun hb => h ⟨hm, hb⟩, Bool.or_true]

/-- The harvester's start sets its bit, files an entry and takes the instant. -/
theorem Dev.harvStart_accepted (x : Nat) (ha : d.keep.alive = true) (hm : d.keep.main = false) (hb : d.bit Reg.LOG_STAT 30 = false)
    (hr : d.keep.queue.length < 512) : ∃ e : LogEntry, e.src = 0x800E ∧ e.code = 0xE132 ∧
    d.harvStart x = { d.setB Reg.LOG_STAT 30 true with keep := { d.keep with queue := d.keep.queue ++ [e], harvSince := some x } } := by
  rw [Dev.harvStart, ha, hm, hb, Bool.not_true, Bool.false_or, Bool.false_or, if_neg Bool.false_ne_true, Dev.harvOn]
  generalize d.setB Reg.LOG_STAT 30 true = f
  exact ⟨Dev.directEntry { f with keep := { d.keep with harvSince := some x } } x 0xE 0xE132 [], rfl, rfl, Dev.logDirect_of_room _ x 0xE 0xE132 [] ha hr⟩

/-- The harvester's stop clears its bit, files an entry and adds its running time. -/
theorem Dev.harvStop_of_since (x : Nat) {since : Nat} (h : d.keep.harvSince = some since) (ha : d.keep.alive = true)
    (hr : d.keep.queue.length < 512) : ∃ e : LogEntry, e.src = 0x800E ∧ e.code = 0xE133 ∧
    d.harvStop x = { d.setB Reg.LOG_STAT 30 false with
      keep := { d.keep with queue := d.keep.queue ++ [e], harvSince := none, harvTime := d.keep.harvTime + (x - since) } } := by
  have hk : (d.setB Reg.LOG_STAT 30 false).keep = d.keep := Dev.setB_keep ..
  simp only [Dev.harvStop, h]
  generalize d.setB Reg.LOG_STAT 30 false = e at hk
  refine ⟨e.directEntry x 0xE 0xE133 [], rfl, rfl, ?_⟩
  rw [e.logDirect_of_room x 0xE 0xE133 [] (hk ▸ ha) (hk ▸ hr), hk]

theorem Dev.harvStop_of_none (x : Nat) (h : d.keep.harvSince = none) : d.harvStop x = d := by
  simp only [Dev.harvStop, h]

/-! ### The time count (R439) -/

/-- The device with device time of `x` taken over into the time count; the count is valid once device time has been stepped. -/
def Dev.ktTaken (x : Nat) : Dev :=
  let e := { d.wr64 Reg.LOG_KT_LO Reg.LOG_KT_HI (d.ns x % 2 ^ 64) with keep := { d.keep with kt := d.ns x, ktAt := x } }
  if e.bit Reg.TIM_STAT 3 then e.setB Reg.LOG_STAT 28 true else e

/-- KT_UPDATE: at most every 1 ms, and only while device time advances. -/
def Dev.ktStep (x : Nat) : Dev := if !d.keep.alive || d.time.inc = 0 || x < d.keep.ktAt + uMs then d else d.ktTaken x

theorem Dev.ktStep_early (x : Nat) (h : d.time.inc = 0 ∨ x < d.keep.ktAt + uMs) : d.ktStep x = d := by
  have hc : (!d.keep.alive || decide (d.time.inc = 0) || decide (x < d.keep.ktAt + uMs)) = true := by
    simp only [Bool.or_eq_true, decide_eq_true_eq]
    exact h.imp_left Or.inr
  rw [Dev.ktStep, if_pos hc]

theorem Dev.ktStep_due (x : Nat) (ha : d.keep.alive = true) (hi : d.time.inc ≠ 0) (hx : d.keep.ktAt + uMs ≤ x) : d.ktStep x = d.ktTaken x := by
  have hc : (!d.keep.alive || decide (d.time.inc = 0) || decide (x < d.keep.ktAt + uMs)) = false := by
    rw [ha, decide_eq_false hi, decide_eq_false (Nat.not_lt.mpr hx)]
    rfl
  rw [Dev.ktStep, hc, if_neg Bool.false_ne_true]

/-- A 64-bit quantity read after it was written. -/
theorem Dev.rd64_wr64 {lo hi : Nat} (v : Nat) (h : lo ≠ hi) : (d.wr64 lo hi v).rd64 lo hi = v % 2 ^ 64 := by
  rw [Dev.rd64, Dev.wr64, Dev.rd_wrN_ne _ _ _ _ h, Dev.rd_wrN_same, Dev.rd_wrN_same, BitVec.toNat_ofNat, BitVec.toNat_ofNat]
  omega

theorem Dev.rd_wr64_ne {a lo hi : Nat} (v : Nat) (h : a ≠ lo) (h' : a ≠ hi) : (d.wr64 lo hi v).rd a = d.rd a := by
  rw [Dev.wr64, Dev.rd_wrN_ne _ _ _ _ h', Dev.rd_wrN_ne _ _ _ _ h]

theorem Dev.ktTaken_shape (x : Nat) :
    ∃ r w, d.ktTaken x = { d with regs := r, hwSet := w, keep := { d.keep with kt := d.ns x, ktAt := x } } := by
  obtain ⟨r, h⟩ := d.wr64_shape Reg.LOG_KT_LO Reg.LOG_KT_HI (d.ns x % 2 ^ 64)
  simp only [Dev.ktTaken, h]
  split
  · exact Dev.setB_shape ..
  · exact ⟨r, d.hwSet, rfl⟩

/-- Registers apart from LOG_STAT show the count as it was written. -/
theorem Dev.ktTaken_rd_ne (x : Nat) {a : Nat} (h : a ≠ Reg.LOG_STAT) :
    (d.ktTaken x).rd a = (d.wr64 Reg.LOG_KT_LO Reg.LOG_KT_HI (d.ns x % 2 ^ 64)).rd a := by
  unfold Dev.ktTaken
  extract_lets e
  split
  · exact Dev.rd_setB_ne _ _ _ _ _ h
  · rfl

theorem Dev.ktTaken_valid (x : Nat) : (d.ktTaken x).bit Reg.LOG_STAT 28 = (d.bit Reg.LOG_STAT 28 || d.bit Reg.TIM_STAT 3) := by
  have hr (a : Nat) (h : a ≠ Reg.LOG_KT_LO) (h' : a ≠ Reg.LOG_KT_HI) (i : Nat) (k : KeepSt) :
      { d.wr64 Reg.LOG_KT_LO Reg.LOG_KT_HI (d.ns x % 2 ^ 64) with keep := k }.bit a i = d.bit a i :=
    congrArg (tbit · i) (d.rd_wr64_ne _ h h')
  simp only [Dev.ktTaken, hr Reg.TIM_STAT (by decide) (by decide)]
  cases d.bit Reg.TIM_STAT 3 with
  | true => rw [if_pos rfl, Dev.bit_setB _ _ _ _ (by decide), Bool.or_true]
  | false => rw [if_neg Bool.false_ne_true, hr Reg.LOG_STAT (by decide) (by decide), Bool.or_false]

/-! ### Reading a slot (R444) -/

/-- Registers written one after the other in a fold change the registers only. -/
theorem Dev.foldl_wr_shape {α : Type} (f : α → Nat) (g : α → Word) (l : List α) :
    ∃ r, l.foldl (fun d w => d.wr (f w) (g w)) d = { d with regs := r } := by
  induction l generalizing d with
  | nil => exact ⟨d.regs, rfl⟩
  | cons a l ih =>
    obtain ⟨r, h⟩ := ih (d.wr (f a) (g a))
    exact ⟨r, h⟩

/-- A register that such a fold does not write. -/
theorem Dev.rd_foldl_wr_ne {α : Type} (f : α → Nat) (g : α → Word) (l : List α) {a : Nat} (h : a ∉ l.map f) :
    (l.foldl (fun d w => d.wr (f w) (g w)) d).rd a = d.rd a := by
  induction l generalizing d with
  | nil => rfl
  | cons b l ih =>
    rw [List.map_cons, List.mem_cons, not_or] at h
    rw [List.foldl_cons, ih _ h.2, Dev.rd_wr_ne _ _ _ _ h.1]

/-- A register that such a fold writes once. -/
theorem Dev.rd_foldl_wr {α : Type} (f : α → Nat) (g : α → Word) (l : List α) (hl : (l.map f).Nodup) {w : α} (h : w ∈ l) :
    (l.foldl (fun d w => d.wr (f w) (g w)) d).rd (f w) = g w := by
  induction l generalizing d with
  | nil => cases h
  | cons b l ih =>
    rw [List.map_cons, List.nodup_cons] at hl
    rw [List.foldl_cons]
    rcases List.mem_cons.mp h with rfl | h
    · rw [Dev.rd_foldl_wr_ne _ _ _ _ hl.1, Dev.rd_wr_same]
    · exact ih _ hl.2 h

/-- The device with an entry's words latched; the read returns the first. -/
def Dev.latched (ws : List Word) : Dev :=
  { (List.range 8).foldl (fun d w => d.wr (Reg.LOG_RDATA w) (nth 0 ws w)) d with answer := nth 0 ws 0 }

theorem Dev.latched_shape (ws : List Word) : d.latched ws = { d with regs := (d.latched ws).regs, answer := (d.latched ws).answer } := by
  obtain ⟨r, h⟩ := d.foldl_wr_shape Reg.LOG_RDATA (nth 0 ws) (List.range 8)
  rw [Dev.latched, h]

theorem Dev.latched_rd (ws : List Word) {w : Nat} (h : w < 8) : (d.latched ws).rd (Reg.LOG_RDATA w) = nth 0 ws w :=
  d.rd_foldl_wr Reg.LOG_RDATA (nth 0 ws) (List.range 8) (by decide) (List.mem_range.mpr h)

theorem Dev.latched_answer (ws : List Word) : (d.latched ws).answer = (d.latched ws).rd (Reg.LOG_RDATA 0) :=
  (d.latched_rd ws (w := 0) (by decide)).symm

/-- The words of an entry as a read of its slot latches them. -/
def LogEntry.words (e : LogEntry) : List Word := (chunks 4 8 e.bytes).map fun b => BitVec.ofNat 32 (leNat b)

/-- The words of an entry begin with its time, its sequence number, and its source with its code (R440). -/
theorem LogEntry.words_eq (e : LogEntry) : ∃ rest, e.words =
    [BitVec.ofNat 32 e.time, BitVec.ofNat 32 (e.time / 2 ^ 32), BitVec.ofNat 32 e.seq,
      BitVec.ofNat 32 (e.src % 2 ^ 16 + 2 ^ 16 * (e.code % 2 ^ 16))] ++ rest := by
  obtain ⟨rest, h⟩ := e.chunks_bytes
  refine ⟨rest.map fun b => BitVec.ofNat 32 (leNat b), ?_⟩
  have hm (v : Nat) : BitVec.ofNat 32 (v % 256 ^ 4) = BitVec.ofNat 32 v := BitVec.eq_of_toNat_eq (by simp)
  simp only [LogEntry.words, h, List.map_cons, leNat_append, leNat_leBytes, length_leBytes, hm]
  rfl

end Sys2Proof.Machine

namespace Sys2Proof.Safety

open Sys2Proof Sys2Proof.Machine

/-- A device with one bit set, and with any Keep domain: the registers show the bit, and nothing else new. -/
theorem setB_keep_frame (d : Dev) (a : Nat) {i : Nat} (b : Bool) (k : KeepSt) (hi : i < 32) :
    let d' := { d.setB a i b with keep := k }
    RegsKept d d' [a] ∧ BitsKept d d' a i i ∧ d'.bit a i = b := by
  refine ⟨fun r h => d.rd_setB_ne a r i b (List.ne_of_not_mem_cons h), fun j hj => ?_, d.bit_setB a i b hi⟩
  show tbit ((d.setB a i b).rd a) j = _
  rw [Dev.rd_setB_same, tbit_setBit_ne _ _ hi (by omega), Dev.bit]

theorem regsKept_latched (d : Dev) (ws : List Word) : RegsKept d (d.latched ws) ((List.range 8).map Reg.LOG_RDATA) := fun _ h =>
  d.rd_foldl_wr_ne Reg.LOG_RDATA (nth 0 ws) (List.range 8) h

theorem regsKept_logWrite (d : Dev) (x : Nat) {e : LogEntry} {rest : List LogEntry} (h : d.keep.queue = e :: rest) :
    RegsKept d (d.logWrite x) [Reg.LOG_WIDX, Reg.LOG_COUNT, Reg.LOG_LOST, Reg.LOG_STAT] := by
  intro a ha
  simp only [List.mem_cons, List.not_mem_nil, or_false, not_or] at ha
  obtain ⟨hw, hc, hl, hs⟩ := ha
  rw [d.logWrite_rd_ne x h hl hs, d.rd_toRing_ne x e rest hw hc]

theorem regsKept_ktTaken (d : Dev) (x : Nat) : RegsKept d (d.ktTaken x) [Reg.LOG_KT_LO, Reg.LOG_KT_HI, Reg.LOG_STAT] := by
  intro a ha
  simp only [List.mem_cons, List.not_mem_nil, or_false, not_or] at ha
  obtain ⟨hlo, hhi, hs⟩ := ha
  rw [d.ktTaken_rd_ne x hs, d.rd_wr64_ne _ hlo hhi]

section
variable {t : Nat} {s : State}

theorem leaves_logEntryWrite : Leaves (.logEntryWrite t) t s ((s.arrive t).dev.logStep (Nat.max s.now t)) :=
  leaves_of_act (f := fun x d => d.logStep x) rfl rfl

theorem leaves_logFwWrite (hr : s.dev.runs = true) : Leaves (.logFwWrite t) t s ((s.arrive t).dev.fwEntry (Nat.max s.now t)) :=
  leaves_of_live (f := fun x d => d.fwEntry x) rfl hr rfl

/-- LOG_READ_LATCH of a written slot. -/
theorem leaves_logReadLatch_entry (hr : s.dev.runs = true) {e : LogEntry}
    (he : assocGet ((s.arrive t).dev.fld Reg.LOG_RIDX 12 0) (s.arrive t).dev.keep.ring = some e) :
    Leaves (.logReadLatch t) t s ((s.arrive t).dev.latched e.words) := by
  show execLogReadLatch t s = _
  rw [execLogReadLatch, act_eq, Dev.live_of_runs _ _ ((State.arrive_runs s t).trans hr)]
  simp only [he]
  rfl

/-- LOG_READ_LATCH of a slot that nothing has written: its words are free values. -/
theorem leaves_logReadLatch_free (hr : s.dev.runs = true)
    (he : assocGet ((s.arrive t).dev.fld Reg.LOG_RIDX 12 0) (s.arrive t).dev.keep.ring = none) :
    Leaves (.logReadLatch t) t s (((s.arrive t).dev.freshWords 8).2.latched ((s.arrive t).dev.freshWords 8).1) := by
  show execLogReadLatch t s = _
  rw [execLogReadLatch, act_eq, Dev.live_of_runs _ _ ((State.arrive_runs s t).trans hr)]
  simp only [he]
  rfl

theorem leaves_harvesterStart : Leaves (.harvesterStart t) t s ((s.arrive t).dev.harvStart (Nat.max s.now t)) :=
  leaves_of_act (f := fun x d => d.harvStart x) rfl rfl

theorem leaves_harvesterStop : Leaves (.harvesterStop t) t s ((s.arrive t).dev.harvStop (Nat.max s.now t)) :=
  leaves_of_act (f := fun x d => d.harvStop x) rfl rfl

/-- What KT_UPDATE does. -/
theorem exec_ktUpdate : exec (.ktUpdate t) s = act t s fun x d => d.live fun d => d.ktStep x := rfl

/-- KT_UPDATE before device time runs, or within 1 ms of the last. -/
theorem leaves_ktUpdate_early (h : (s.arrive t).dev.time.inc = 0 ∨ Nat.max s.now t < (s.arrive t).dev.keep.ktAt + uMs) :
    Leaves (.ktUpdate t) t s (s.arrive t).dev :=
  leaves_of_act exec_ktUpdate (by rw [Dev.live, Dev.ktStep_early _ _ h, ite_self])

/-- KT_UPDATE 1 ms after the last while device time advances. -/
theorem leaves_ktUpdate_due (ha : s.dev.keep.alive = true) (hr : s.dev.runs = true) (hi : (s.arrive t).dev.time.inc ≠ 0)
    (hx : (s.arrive t).dev.keep.ktAt + uMs ≤ Nat.max s.now t) : Leaves (.ktUpdate t) t s ((s.arrive t).dev.ktTaken (Nat.max s.now t)) :=
  leaves_of_live exec_ktUpdate hr (Dev.ktStep_due _ _ (State.arrive_keep s t ▸ ha) hi hx)

end

/-- An entry taken into the ring, with what became of the one whose slot it takes (R442). -/
theorem logWrite_entry (d : Dev) (x : Nat) {e : LogEntry} {rest : List LogEntry} (h : d.keep.queue = e :: rest) :
    let i := d.fld Reg.LOG_WIDX 12 0
    let d' := d.logWrite x
    d'.keep.queue = rest ∧ assocGet i d'.keep.ring = some e ∧ (∀ j, j ≠ i → assocGet j d'.keep.ring = assocGet j d.keep.ring) ∧
      (∀ u, u ∈ d'.keep.unfl ↔ u = (i, x) ∨ (u ∈ d.keep.unfl ∧ u.1 ≠ i)) ∧ d'.keep.wroteAt = some x ∧
      (∀ run, d'.keep.burst = some run → i ∉ run.slots) ∧ d'.fld Reg.LOG_WIDX 12 0 = (i + 1) % 8192 := by
  intro i d'
  have hk : d'.keep = d.ringKeep x e rest := by
    obtain ⟨r, w, q, hs⟩ := d.logWrite_shape x h
    simp only [d', hs]
  rw [hk]
  refine ⟨rfl, (assocGet_assocSet i i e _).trans (if_pos rfl), fun j hj => (assocGet_assocSet i j e _).trans (if_neg hj), fun u => ?_, rfl,
    fun run hr => ?_, ?_⟩
  · simp only [Dev.ringKeep, List.mem_append, List.mem_filter, List.mem_singleton, bne_iff_ne]
    exact Or.comm
  · obtain ⟨b, -, rfl⟩ := Option.map_eq_some_iff.mp hr
    simp [i]
  · rw [Dev.fld, d.logWrite_rd_ne x h (by decide) (by decide)]
    exact d.toRing_widx x e rest

/-- Where no unflushed entry is overwritten no loss is reported. -/
theorem logWrite_keeps (d : Dev) (x : Nat) {e : LogEntry} {rest : List LogEntry} (h : d.keep.queue = e :: rest)
    (hu : d.keep.unfl.any (fun u => u.1 == d.fld Reg.LOG_WIDX 12 0) = false) :
    let d' := d.logWrite x
    d'.rd Reg.LOG_LOST = d.rd Reg.LOG_LOST ∧ d'.rd Reg.LOG_STAT = d.rd Reg.LOG_STAT ∧ d'.anv = d.anv := by
  rw [d.logWrite_cons x h, hu, if_neg Bool.false_ne_true]
  exact ⟨d.rd_toRing_ne x e rest (by decide) (by decide), d.rd_toRing_ne x e rest (by decide) (by decide), d.toRing_anv x e rest⟩

/-- An unflushed entry that is overwritten is counted and noted; the first one is an event. -/
theorem logWrite_loses (d : Dev) (x : Nat) {e : LogEntry} {rest : List LogEntry} (h : d.keep.queue = e :: rest)
    (hu : d.keep.unfl.any (fun u => u.1 == d.fld Reg.LOG_WIDX 12 0) = true) :
    let d' := d.logWrite x
    d'.bit Reg.LOG_STAT 1 = true ∧ d'.fld Reg.LOG_LOST 31 0 = Nat.min (d.fld Reg.LOG_LOST 31 0 + 1) (2 ^ 32 - 1) ∧
      (d.bit Reg.LOG_STAT 1 = false → Quiet d .per x 248 → ∃ n, Requested d' .per x 248 0xE100 [(4, n)]) := by
  rw [d.logWrite_cons x h, hu, if_pos rfl]
  have hl : (d.toRing x e rest).fld Reg.LOG_LOST 31 0 = d.fld Reg.LOG_LOST 31 0 :=
    congrArg (fld · 31 0) (d.rd_toRing_ne x e rest (by decide) (by decide))
  have hn : (d.toRing x e rest).bit Reg.LOG_STAT 1 = d.bit Reg.LOG_STAT 1 :=
    congrArg (tbit · 1) (d.rd_toRing_ne x e rest (by decide) (by decide))
  refine ⟨Dev.lossReported_note _ x, ?_, fun hb ⟨hacc, hq⟩ => ?_⟩
  · rw [Dev.lossReported_lost, hl]
  · exact Dev.lossReported_requested _ x (hn.trans hb) ((d.toRing_accepts x e rest).trans hacc) ((d.toRing_anv x e rest).symm ▸ hq)

/-- Settles O28, one clause after the other: each command leaves the device of the model's function that the laws above speak of. -/
theorem troubleLog : Obligations.TroubleLog := by
  intro t s ha d x i held code put harvests room
  have hka : d.keep.alive = true := ha
  have hwrite : Leaves (.logEntryWrite t) t s (d.logStep x) := leaves_logEntryWrite
  have hstart : Leaves (.harvesterStart t) t s (d.harvStart x) := leaves_harvesterStart
  have hstop : Leaves (.harvesterStop t) t s (d.harvStop x) := leaves_harvesterStop
  refine ⟨fun hq => d.logStep_nil x hq ▸ hwrite, fun hw => d.logStep_again x hw ▸ hwrite, fun e rest hq hw => ?_,
    fun hr hc => d.fwEntry_refused x hc ▸ leaves_logFwWrite hr, fun hr hlo hhi hroom => ?_, fun hr e he => ?_, fun hr he => ?_,
    fun hv hroom => ?_, fun hv => d.harvStart_refused x hv ▸ hstart, fun hn => d.harvStop_of_none x hn ▸ hstop, fun since hs hroom => ?_,
    fun hr hi hx => ?_, leaves_ktUpdate_early⟩
  · have hshape : d.logWrite x = { d with regs := (d.logWrite x).regs, hwSet := (d.logWrite x).hwSet, keep := (d.logWrite x).keep, anv := (d.logWrite x).anv } := by
      obtain ⟨r, w, q, h⟩ := d.logWrite_shape x hq
      rw [h]
    obtain ⟨hqueue, hnew, hold, hunfl, hat, hburst, hidx⟩ := logWrite_entry d x hq
    exact ⟨_, d.logStep_free x hka hw ▸ hwrite, hshape, regsKept_logWrite d x hq, hqueue, hnew, hold, hunfl, hat, hburst, hidx,
      logWrite_keeps d x hq, logWrite_loses d x hq⟩
  · exact ⟨_, d.fwEntry_of_room x hlo hhi hroom ▸ leaves_logFwWrite hr, rfl, rfl⟩
  · obtain ⟨rest, hw⟩ := e.words_eq
    have hword (w : Nat) (h : w < 8) := d.latched_rd e.words h
    refine ⟨_, leaves_logReadLatch_entry hr he, d.latched_shape _, regsKept_latched d _, d.latched_answer _, ?_⟩
    rw [hword 0 (by decide), hword 1 (by decide), hword 2 (by decide), hword 3 (by decide), hw]
    exact ⟨BitVec.toNat_ofNat .., BitVec.toNat_ofNat .., BitVec.toNat_ofNat .., (BitVec.toNat_ofNat ..).trans (Nat.mod_eq_of_lt (by omega))⟩
  · exact ⟨_, leaves_logReadLatch_free hr he, regsKept_latched (d.freshWords 8).2 _, Dev.latched_answer _ _⟩
  · obtain ⟨e, hsrc, hcode, h⟩ := d.harvStart_accepted x hka hv.1 hv.2 hroom
    refine ⟨_, hstart, ?_⟩
    rw [h]
    obtain ⟨hregs, hbits, hrun⟩ := setB_keep_frame d Reg.LOG_STAT (i := 30) true
      { d.keep with queue := d.keep.queue ++ [e], harvSince := some x } (by decide)
    exact ⟨hregs, hbits, hrun, rfl, e, rfl, hsrc, hcode⟩
  · obtain ⟨e, hsrc, hcode, h⟩ := d.harvStop_of_since x hs hka hroom
    refine ⟨_, hstop, ?_⟩
    rw [h]
    obtain ⟨hregs, hbits, hrun⟩ := setB_keep_frame d Reg.LOG_STAT (i := 30) false
      { d.keep with queue := d.keep.queue ++ [e], harvSince := none, harvTime := d.keep.harvTime + (x - since) } (by decide)
    exact ⟨hregs, hbits, hrun, rfl, rfl, e, rfl, hsrc, hcode⟩
  · have hshape : d.ktTaken x = { d with regs := (d.ktTaken x).regs, hwSet := (d.ktTaken x).hwSet, keep := { d.keep with kt := d.ns x, ktAt := x } } := by
      obtain ⟨r, w, h⟩ := d.ktTaken_shape x
      rw [h]
    refine ⟨_, leaves_ktUpdate_due ha hr hi hx, hshape, regsKept_ktTaken d x, ?_, d.ktTaken_valid x⟩
    rw [Dev.rd64, d.ktTaken_rd_ne x (by decide), d.ktTaken_rd_ne x (by decide), ← Dev.rd64, Dev.rd64_wr64 _ _ (by decide), Nat.mod_mod]

end Sys2Proof.Safety
end

section
/-! What security and debug share (R460 to R478): registers written one after the other, requests that stay with the Anvil, the note of READY that
follows a change of the life cycle or of the debug level, and commands that blow fuses. -/

namespace Sys2Proof.Machine

variable (d : Dev)

theorem Dev.rd_setF_same (a hi lo v : Nat) : (d.setF a hi lo v).rd a = setFld (d.rd a) hi lo v := Dev.rd_wr_same _ _ _
@[simp] theorem Dev.setSec_rd (f : SecSt → SecSt) (a : Nat) : (d.setSec f).rd a = d.rd a := rfl
@[simp] theorem Dev.freshByte_rd (a : Nat) : d.freshByte.2.rd a = d.rd a := rfl

/-! ### The debug level (R474, R476) -/

theorem Dev.dbgTo_same (x key : Nat) {level : Nat} (h : d.fld Reg.DBG_STAT 31 30 = level) : d.dbgTo x level key = d := if_pos h

theorem Dev.dbgTo_of_ne (x key : Nat) {level : Nat} (h : d.fld Reg.DBG_STAT 31 30 ≠ level) : d.dbgTo x level key =
    ((d.setF Reg.DBG_STAT 31 30 level).raise .per x 242 0xD202 [(1, d.fld Reg.DBG_STAT 31 30), (1, level), (1, key)]).readyNote x := if_neg h

end Sys2Proof.Machine

namespace Sys2Proof.Safety

open Sys2Proof Sys2Proof.Machine

/-! ### Registers written one after the other -/

theorem RegsKept.fld {d e : Dev} {l : List Nat} (h : RegsKept d e l) {a : Nat} (ha : a ∉ l) (hi lo : Nat) : e.fld a hi lo = d.fld a hi lo :=
  congrArg (Machine.fld · hi lo) (h a ha)

theorem RegsKept.bit {d e : Dev} {l : List Nat} (h : RegsKept d e l) {a : Nat} (ha : a ∉ l) (i : Nat) : e.bit a i = d.bit a i :=
  congrArg (tbit · i) (h a ha)

theorem RegsKept.trans {d e f : Dev} {l m : List Nat} (h : RegsKept d e l) (h' : RegsKept e f m) : RegsKept d f (l ++ m) := fun a ha =>
  (h' a fun hm => ha (List.mem_append_right _ hm)).trans (h a fun hl => ha (List.mem_append_left _ hl))

/-- Hardware has written registers of a list, and changed nothing else but the note of what it set. -/
structure Written (d e : Dev) (l : List Nat) : Prop where
  frame : e = { d with regs := e.regs, hwSet := e.hwSet }
  regs : RegsKept d e l

theorem Written.refl (d : Dev) (l : List Nat) : Written d d l := ⟨rfl, fun _ _ => rfl⟩

theorem Written.trans {d e f : Dev} {l m : List Nat} (h : Written d e l) (h' : Written e f m) : Written d f (l ++ m) :=
  ⟨h'.frame.trans (by rw [h.frame]), h.regs.trans h'.regs⟩

theorem Written.mono {d e : Dev} {l m : List Nat} (h : Written d e l) (hs : l ⊆ m) : Written d e m :=
  ⟨h.frame, fun a ha => h.regs a (fun hl => ha (hs hl))⟩

theorem written_wr (d : Dev) (a : Nat) (v : Word) : Written d (d.wr a v) [a] :=
  ⟨rfl, fun r h => d.rd_wr_ne a r v (List.ne_of_not_mem_cons h)⟩

theorem written_setF (d : Dev) (a hi lo v : Nat) : Written d (d.setF a hi lo v) [a] := written_wr d a _

theorem written_setB (d : Dev) (a i : Nat) (b : Bool) : Written d (d.setB a i b) [a] :=
  ⟨rfl, fun r h => d.rd_setB_ne a r i b (List.ne_of_not_mem_cons h)⟩

/-- A request after such writes. -/
theorem Written.raised {d e : Dev} {l : List Nat} (h : Written d e l) (o : Origin) (x src code : Nat) (data : List (Nat × Nat)) :
    let r := e.raise o x src code data
    r = { d with regs := r.regs, hwSet := r.hwSet, anv := r.anv } ∧ RegsKept d r l := by
  refine ⟨?_, fun a ha => (e.raise_rd o x src code data a).trans (h.regs a ha)⟩
  obtain ⟨q, hq⟩ := e.raise_shape o x src code data
  rw [hq, h.frame]

theorem bitsKept_setB (d : Dev) (a : Nat) {i : Nat} (b : Bool) (hi : i < 32) : BitsKept d (d.setB a i b) a i i := fun j hj => by
  rw [Dev.bit, Dev.rd_setB_same, tbit_setBit_ne _ _ hi (by omega), Dev.bit]

/-! ### Requests -/

/-- The Anvil is as quiet for a device that differs only where it does not look. -/
theorem Quiet.of_frame {d e : Dev} {o : Origin} {x src : Nat} (h : Quiet d o x src)
    (he : e = { d with regs := e.regs, hwSet := e.hwSet, sec := e.sec, free := e.free }) (hg : e.rd Reg.CLK_GATE = d.rd Reg.CLK_GATE) :
    Quiet e o x src := by
  have hs : e.sys = d.sys := by rw [he]
  have hk : e.keep.main = d.keep.main := by rw [he]
  have hc : e.clk = d.clk := by rw [he]
  have ha : e.anv = d.anv := by rw [he]
  exact ⟨(Dev.accepts_congr hs hk hc hg).trans h.1, ha ▸ h.2⟩

/-- Register writes apart from the gates' leave the Anvil as quiet. -/
theorem Written.quiet {d e : Dev} {l : List Nat} (h : Written d e l) (hg : Reg.CLK_GATE ∉ l) {o : Origin} {x src : Nat} (hq : Quiet d o x src) :
    Quiet e o x src :=
  hq.of_frame (h.frame.trans (by rw [h.frame])) (h.regs _ hg)

/-- With the Anvil quiet a request stands with it. -/
theorem Quiet.requested {d : Dev} {o : Origin} {x src : Nat} (h : Quiet d o x src) (code : Nat) (data : List (Nat × Nat)) :
    Requested (d.raise o x src code data) o x src code data := by
  rw [Requested, Dev.raise_anv _ _ _ _ _ _ h.1 h.2]
  exact List.mem_append_right _ (List.mem_singleton_self _)

/-! ### The note of READY (R499, R510) -/

/-- A change that notes something of the device: no register outside a list changes, a request that stands stays, and beside the registers only the
Anvil, the log and what the chip knows of its start change. -/
structure Noted (d e : Dev) (l : List Nat) : Prop where
  frame : e = { d with regs := e.regs, hwSet := e.hwSet, anv := e.anv, sys := e.sys, keep := e.keep }
  regs : RegsKept d e l
  reqs : d.anv.reqs ⊆ e.anv.reqs

theorem Noted.refl (d : Dev) (l : List Nat) : Noted d d l := ⟨rfl, fun _ _ => rfl, List.Subset.refl _⟩

theorem Noted.trans {d e f : Dev} {l m : List Nat} (h : Noted d e l) (h' : Noted e f m) : Noted d f (l ++ m) :=
  ⟨h'.frame.trans (by rw [h.frame]), h.regs.trans h'.regs, List.Subset.trans h.reqs h'.reqs⟩

theorem Noted.mono {d e : Dev} {l m : List Nat} (h : Noted d e l) (hs : l ⊆ m) : Noted d e m :=
  ⟨h.frame, fun a ha => h.regs a (fun hl => ha (hs hl)), h.reqs⟩

theorem Noted.setSys {d e : Dev} {l : List Nat} (h : Noted d e l) (y : SysSt) : Noted d { e with sys := y } l :=
  ⟨by rw [h.frame], h.regs, h.reqs⟩

theorem Noted.requested {d e : Dev} {l : List Nat} (h : Noted d e l) {o : Origin} {x src code : Nat} {data : List (Nat × Nat)}
    (hr : Requested d o x src code data) : Requested e o x src code data := h.reqs hr

theorem Written.noted {d e : Dev} {l : List Nat} (h : Written d e l) : Noted d e l where
  frame := h.frame.trans (by rw [h.frame])
  regs := h.regs
  reqs := by
    have ha : e.anv = d.anv := by rw [h.frame]
    exact ha ▸ List.Subset.refl _

theorem noted_raise (d : Dev) (o : Origin) (x src code : Nat) (data : List (Nat × Nat)) : Noted d (d.raise o x src code data) [] where
  frame := by
    obtain ⟨q, h⟩ := d.raise_shape o x src code data
    rw [h]
  regs a _ := d.raise_rd o x src code data a
  reqs := by
    unfold Dev.raise
    split
    · exact List.Subset.refl _
    · split
      · exact List.Subset.refl _
      · exact List.subset_append_left _ _

theorem noted_logPut (d : Dev) (x : Nat) (e : LogEntry) : Noted d (d.logPut x e) [Reg.LOG_LOST, Reg.LOG_STAT] := by
  unfold Dev.logPut
  split
  · exact ⟨rfl, fun _ _ => rfl, List.Subset.refl _⟩
  · have hlost := ((written_setF d Reg.LOG_LOST 31 0 _).trans (written_setB (d.inc Reg.LOG_LOST 31 0) Reg.LOG_STAT 1 true)).noted
    dsimp only
    split
    · exact hlost.trans (noted_raise _ ..)
    · exact hlost

theorem noted_logDirect (d : Dev) (x cls code : Nat) (data : List (Nat × Nat)) :
    Noted d (d.logDirect x cls code data) [Reg.LOG_LOST, Reg.LOG_STAT] := by
  unfold Dev.logDirect
  split
  · exact Noted.refl d _
  · exact noted_logPut d x _

/-- One step of the progress in SYS_BOOT, where its condition holds. -/
theorem written_bootStep (d : Dev) (c : Prop) [Decidable c] (v : Nat) :
    Written d (if c then d.setF Reg.SYS_BOOT 3 0 v else d) [Reg.SYS_BOOT] := by
  split
  · exact written_setF d ..
  · exact Written.refl d _

theorem written_stepNote (d : Dev) : Written d d.stepNote [Reg.SYS_BOOT] :=
  (((written_bootStep d _ _).trans (written_bootStep _ _ _)).trans (written_bootStep _ _ _)).mono (by decide)

/-- The registers that the note of READY writes. -/
def readyRegs : List Nat := [Reg.SYS_BOOT, Reg.SYS_BOOT_MS, Reg.LOG_LOST, Reg.LOG_STAT]

theorem noted_readyNote (d : Dev) (x : Nat) : Noted d (d.readyNote x) readyRegs := by
  have hstep := written_stepNote d
  unfold Dev.readyNote
  dsimp only
  split
  · exact hstep.noted.mono (by decide)
  · exact ((hstep.trans (written_setF _ Reg.SYS_BOOT_MS 15 0 _)).noted.trans (noted_logDirect _ x 14 0xE300 _)).setSys _

/-! ### Commands with fuses -/

/-- A command of a domain that runs leaves the device of its effect and blows that effect's fuses. -/
theorem exec_of_liveE {c : Instr} {t : Nat} {s : State} {d : Dev} {fuses : List Fuse} {f : State → Effect}
    (h : exec c s = actE t s fun s => liveE s f) (hr : s.dev.runs = true) (h' : f (s.arrive t) = .ofDev d fuses) :
    exec c s = .next { s.arrive t with dev := d, otp := fuses.foldl Otp.blow s.otp } := by
  rw [h, actE, liveE, State.arrive_runs, if_pos hr, h']
  rfl

/-- The same for an effect without fuses. -/
theorem leaves_of_liveE {c : Instr} {t : Nat} {s : State} {d : Dev} {f : State → Effect}
    (h : exec c s = actE t s fun s => liveE s f) (hr : s.dev.runs = true) (h' : f (s.arrive t) = .ofDev d []) : Leaves c t s d :=
  exec_of_liveE h hr h'

/-! ### The debug level and the life cycle (R461, R474, R476) -/

theorem noted_dbgTo (d : Dev) (x level key : Nat) : Noted d (d.dbgTo x level key) (Reg.DBG_STAT :: readyRegs) := by
  by_cases h : d.fld Reg.DBG_STAT 31 30 = level
  · rw [d.dbgTo_same x key h]
    exact Noted.refl d _
  · rw [d.dbgTo_of_ne x key h]
    exact ((written_setF d Reg.DBG_STAT 31 30 level).noted.trans (noted_raise _ ..)).trans (noted_readyNote _ x)

/-- A change of the level writes the level into DBG_STAT; what follows it leaves that register. -/
theorem dbgTo_stat (d : Dev) (x key : Nat) {level : Nat} (h : d.fld Reg.DBG_STAT 31 30 ≠ level) :
    (d.dbgTo x level key).rd Reg.DBG_STAT = setFld (d.rd Reg.DBG_STAT) 31 30 level := by
  rw [d.dbgTo_of_ne x key h, (noted_readyNote _ x).regs _ (by decide), Dev.raise_rd, Dev.rd_setF_same]

/-- The level that DBG_STAT shows after a change of it. -/
theorem dbgTo_level (d : Dev) (x key : Nat) {level : Nat} (hl : level < 4) : (d.dbgTo x level key).fld Reg.DBG_STAT 31 30 = level := by
  by_cases h : d.fld Reg.DBG_STAT 31 30 = level
  · rw [d.dbgTo_same x key h, h]
  · rw [Dev.fld, dbgTo_stat d x key h, fld_setFld _ _ (by decide) (by decide)]
    exact Nat.mod_eq_of_lt hl

/-- The fields of DBG_STAT below the level stay. -/
theorem dbgTo_fld_below (d : Dev) (x level key : Nat) {hi : Nat} (lo : Nat) (hhi : hi < 30) :
    (d.dbgTo x level key).fld Reg.DBG_STAT hi lo = d.fld Reg.DBG_STAT hi lo := by
  by_cases h : d.fld Reg.DBG_STAT 31 30 = level
  · rw [d.dbgTo_same x key h]
  · rw [Dev.fld, dbgTo_stat d x key h, fld_setFld_apart _ _ (by decide) (by decide) (.inl hhi), Dev.fld]

/-- A change of the level is an event. -/
theorem dbgTo_requested (d : Dev) (x key : Nat) {level : Nat} (h : d.fld Reg.DBG_STAT 31 30 ≠ level) (hq : Quiet d .per x 242) :
    Requested (d.dbgTo x level key) .per x 242 0xD202 [(1, d.fld Reg.DBG_STAT 31 30), (1, level), (1, key)] := by
  rw [d.dbgTo_of_ne x key h]
  exact (noted_readyNote _ x).requested (((written_setF d Reg.DBG_STAT 31 30 level).quiet (by decide) hq).requested ..)

theorem noted_lcTo (d : Dev) (x n : Nat) : Noted d (d.lcTo x n) (Reg.SEC_LC :: Reg.DBG_STAT :: readyRegs) :=
  ((((written_setF d Reg.SEC_LC 1 0 n).noted.trans (noted_raise _ ..)).trans (noted_dbgTo _ x 0 _)).trans (noted_readyNote _ x)).mono (by decide)

/-- The life cycle that SEC_LC shows after a change of it. -/
theorem lcTo_lc (d : Dev) (x : Nat) {n : Nat} (h : n < 4) : (d.lcTo x n).fld Reg.SEC_LC 1 0 = n := by
  rw [Dev.lcTo, (noted_readyNote _ x).regs.fld (by decide), Dev.dbgNone, (noted_dbgTo _ x 0 _).regs.fld (by decide),
    (noted_raise _ ..).regs.fld (by decide), Dev.fld_setF _ _ _ _ _ (by decide) (by decide)]
  exact Nat.mod_eq_of_lt h

/-- A change of the life cycle ends debug access. -/
theorem lcTo_level (d : Dev) (x n : Nat) : (d.lcTo x n).fld Reg.DBG_STAT 31 30 = 0 := by
  rw [Dev.lcTo, (noted_readyNote _ x).regs.fld (by decide)]
  exact dbgTo_level _ x _ (by decide)

/-- A change of the life cycle is an event. -/
theorem lcTo_requested (d : Dev) (x n : Nat) (hq : Quiet d .per x 246) : Requested (d.lcTo x n) .per x 246 0xD204 [(1, n)] :=
  (noted_readyNote _ x).requested ((noted_dbgTo _ x 0 _).requested (((written_setF d Reg.SEC_LC 1 0 n).quiet (by decide) hq).requested ..))

end Sys2Proof.Safety
end

section
/-! Life cycle, keys, counters and the shadows of the fuses (R460 to R468): when a command is refused, the device it leaves otherwise, and O31. -/

namespace Sys2Proof.Machine

/-- One element of a range satisfies a predicate just if every one that does is that element. -/
theorem countP_range_eq_one {p : Nat → Bool} {n i : Nat} (hi : i < n) (hp : p i = true) :
    (List.range n).countP p = 1 ↔ ∀ j, j < n → p j = true → j = i := by
  constructor
  · intro h j hj hpj
    rw [List.countP_eq_length_filter] at h
    obtain ⟨a, ha⟩ := List.length_eq_one_iff.mp h
    have hmem (k : Nat) (hk : k < n) (hpk : p k = true) : k = a :=
      List.mem_singleton.mp (ha ▸ List.mem_filter.mpr ⟨List.mem_range.mpr hk, hpk⟩)
    rw [hmem j hj hpj, hmem i hi hp]
  · intro h
    have hcongr : (List.range n).countP p = (List.range n).countP (· == i) := List.countP_congr fun j hj => by
      rw [beq_iff_eq]
      exact ⟨h j (List.mem_range.mp hj), fun e => e ▸ hp⟩
    rw [hcongr]
    exact List.count_eq_one_of_mem List.nodup_range (List.mem_range.mpr hi)

variable (d : Dev)

/-! ### Refusals (R461, R463) -/

/-- The power state or a blow under way bars every OTP write. -/
def Dev.Shut : Prop := d.fld Reg.PWR_STAT 2 0 = 2 ∨ d.fld Reg.PWR_STAT 2 0 = 4 ∨ d.bit Reg.SEC_CNT 15 = true

/-- A key slot is programmed and not revoked. -/
def Dev.Usable (i : Nat) : Prop := d.bit Reg.SEC_KEY_STAT i = true ∧ d.bit Reg.SEC_KEY_STAT (4 + i) = false

/-- A word written to SEC_LC_CTRL asks for a change that the life cycle allows. -/
def Dev.MayChange (v : Word) : Prop := bitsOf v 31 24 = 0xA5 ∧ ¬ d.Shut ∧
  ((bitsOf v 1 0 = 1 ∧ d.fld Reg.SEC_LC 1 0 = 0 ∧ ∃ i, i < 4 ∧ d.Usable i) ∨ (bitsOf v 1 0 = 2 ∧ d.fld Reg.SEC_LC 1 0 = 1))

/-- The staged key may go into a slot. -/
def Dev.MayProgram (slot : Nat) : Prop := d.fld Reg.SEC_LC 1 0 ≤ 1 ∧ d.bit Reg.SEC_KEY_STAT slot = false ∧
  P384.onCurve d.stagedKey.1 d.stagedKey.2 = true ∧ ¬ d.Shut

/-- A slot may be revoked: it is not the last usable one. -/
def Dev.MayRevoke (slot : Nat) : Prop := d.fld Reg.SEC_LC 1 0 ≠ 0 ∧ d.fld Reg.SEC_LC 1 0 ≠ 3 ∧
  ¬ (d.Usable slot ∧ ∀ i, i < 4 → d.Usable i → i = slot) ∧ ¬ d.Shut

theorem Dev.otpShut_iff : d.otpShut = true ↔ d.Shut := by
  simp [Dev.otpShut, Dev.Shut, Dev.power, Dev.otpBusy, or_assoc]

theorem Dev.slotUsable_iff (i : Nat) : d.slotUsable i = true ↔ d.Usable i := by
  simp [Dev.slotUsable, Dev.Usable]

/-- What bars an OTP write is read from two registers. -/
theorem Dev.shut_congr {e : Dev} (hp : e.rd Reg.PWR_STAT = d.rd Reg.PWR_STAT) (hc : e.rd Reg.SEC_CNT = d.rd Reg.SEC_CNT) : e.Shut ↔ d.Shut := by
  simp only [Dev.Shut, Dev.fld, Dev.bit, hp, hc]

/-- The condition of LC_CHANGE_REQUEST as the model computes it. -/
theorem Dev.mayChange_iff (v : Word) : (bitsOf v 31 24 == 0xA5 && !d.otpShut &&
    ((bitsOf v 1 0 == 1 && d.lc == 0 && (List.range 4).any d.slotUsable) || (bitsOf v 1 0 == 2 && d.lc == 1))) = true ↔ d.MayChange v := by
  simp only [Dev.MayChange, Dev.lc, Bool.and_eq_true, Bool.or_eq_true, beq_iff_eq, Bool.not_eq_true', ← Bool.not_eq_true, Dev.otpShut_iff,
    List.any_eq_true, List.mem_range, Dev.slotUsable_iff, and_assoc]

theorem Dev.lcRequest_of_mayChange (x : Nat) {v : Word} (h : d.MayChange v) :
    d.lcRequest x v = (d.lcTo x (bitsOf v 1 0), [.lifeCycle (bitsOf v 1 0)]) := if_pos ((d.mayChange_iff v).mpr h)

theorem Dev.lcRequest_of_not_mayChange (x : Nat) {v : Word} (h : ¬ d.MayChange v) : d.lcRequest x v = (d.secRefuse, []) :=
  if_neg (mt (d.mayChange_iff v).mp h)

/-! ### Keys (R463) -/

/-- The device that has blown the fuse which a bit of SEC_KEY_STAT shows. -/
def Dev.keyFused (x slot i : Nat) : Dev :=
  (d.freshByte.2.setB Reg.SEC_KEY_STAT i true).raise .per x 246 0xD206 [(1, slot), (1, d.freshByte.1)]

/-- The refusal of KEY_PROG as the model computes it. -/
theorem Dev.not_mayProgram_iff (slot : Nat) : (decide (1 < d.lc) || d.bit Reg.SEC_KEY_STAT slot || !P384.onCurve d.stagedKey.1 d.stagedKey.2 ||
    d.otpShut) = true ↔ ¬ d.MayProgram slot := by
  rw [Bool.or_eq_true, Bool.or_eq_true, Bool.or_eq_true, decide_eq_true_eq, d.otpShut_iff, Dev.MayProgram, Dev.lc]
  simp only [not_and_or, not_not, Nat.not_le, Bool.not_eq_false, Bool.not_eq_true, Bool.not_eq_true', or_assoc]

theorem Dev.keyProg_of_mayProgram (x : Nat) {slot : Nat} (h : d.MayProgram slot) :
    d.keyProg x slot = (d.keyFused x slot slot, [.key slot d.stagedKey.1 d.stagedKey.2]) :=
  if_neg fun hc => (d.not_mayProgram_iff slot).mp hc h

theorem Dev.keyProg_of_not_mayProgram (x : Nat) {slot : Nat} (h : ¬ d.MayProgram slot) : d.keyProg x slot = (d.secRefuse, []) :=
  if_pos ((d.not_mayProgram_iff slot).mpr h)

/-- A slot is the last usable one. -/
theorem Dev.lastUsable_iff {slot : Nat} (hs : slot < 4) : (d.slotUsable slot && ((List.range 4).countP d.slotUsable == 1)) = true ↔
    d.Usable slot ∧ ∀ i, i < 4 → d.Usable i → i = slot := by
  rw [Bool.and_eq_true, beq_iff_eq, ← d.slotUsable_iff slot]
  refine and_congr_right fun hu => ?_
  simp only [countP_range_eq_one hs hu, Dev.slotUsable_iff]

/-- The refusal of KEY_REVOKE as the model computes it. -/
theorem Dev.not_mayRevoke_iff {slot : Nat} (hs : slot < 4) : (decide (d.lc = 0) || decide (d.lc = 3) ||
    (d.slotUsable slot && ((List.range 4).countP d.slotUsable == 1)) || d.otpShut) = true ↔ ¬ d.MayRevoke slot := by
  rw [Bool.or_eq_true, Bool.or_eq_true, Bool.or_eq_true, decide_eq_true_eq, decide_eq_true_eq, d.lastUsable_iff hs, d.otpShut_iff,
    Dev.MayRevoke, Dev.lc]
  generalize (d.Usable slot ∧ ∀ i, i < 4 → d.Usable i → i = slot) = last
  simp only [not_and_or, not_not, ne_eq, or_assoc]

theorem Dev.keyRevoke_of_mayRevoke (x : Nat) {slot : Nat} (hs : slot < 4) (h : d.MayRevoke slot) :
    d.keyRevoke x slot = (d.keyFused x slot (4 + slot), [.revoke slot]) :=
  if_neg fun hc => (d.not_mayRevoke_iff hs).mp hc h

theorem Dev.keyRevoke_of_not_mayRevoke (x : Nat) {slot : Nat} (hs : slot < 4) (h : ¬ d.MayRevoke slot) :
    d.keyRevoke x slot = (d.secRefuse, []) :=
  if_pos ((d.not_mayRevoke_iff hs).mpr h)

/-! ### A key's slot in SEC_KEY_CTRL is written first -/

theorem Dev.shut_keyCtrl (slot : Nat) : (d.setF Reg.SEC_KEY_CTRL 1 0 slot).Shut ↔ d.Shut :=
  d.shut_congr (d.rd_setF_ne _ _ _ _ _ (by decide)) (d.rd_setF_ne _ _ _ _ _ (by decide))

theorem Dev.usable_keyCtrl (slot i : Nat) : (d.setF Reg.SEC_KEY_CTRL 1 0 slot).Usable i ↔ d.Usable i := by
  rw [Dev.Usable, Dev.bit, Dev.bit, d.rd_setF_ne _ _ _ _ _ (by decide)]
  rfl

theorem Dev.mayProgram_keyCtrl (slot : Nat) : (d.setF Reg.SEC_KEY_CTRL 1 0 slot).MayProgram slot ↔ d.MayProgram slot := by
  rw [Dev.MayProgram, Dev.shut_keyCtrl, Dev.fld, Dev.bit, d.rd_setF_ne _ _ _ _ _ (by decide), d.rd_setF_ne _ _ _ _ _ (by decide),
    Dev.stagedKey, Dev.setF_sec]
  rfl

theorem Dev.mayRevoke_keyCtrl (slot : Nat) : (d.setF Reg.SEC_KEY_CTRL 1 0 slot).MayRevoke slot ↔ d.MayRevoke slot := by
  simp only [Dev.MayRevoke, Dev.shut_keyCtrl, Dev.usable_keyCtrl, Dev.fld, d.rd_setF_ne Reg.SEC_KEY_CTRL Reg.SEC_LC _ _ _ (by decide)]

/-! ### Counters (R467) -/

theorem Dev.setSec_setB_comm (a i : Nat) (b : Bool) (f : SecSt → SecSt) : (d.setB a i b).setSec f = (d.setSec f).setB a i b := rfl

theorem Dev.setSec_setB (a i : Nat) (b : Bool) (f : SecSt → SecSt) : (d.setB a i b).setSec f = { d.setB a i b with sec := f d.sec } := rfl

/-- The security version that a counter is to follow, the firmware's or the image's. -/
def Dev.version (fw : Bool) : Nat := if fw then d.fld Reg.SEC_FWVER 6 0 else d.fld Reg.IMG_SECVER 6 0

/-- The counter in SEC_CNT that follows it. -/
def Dev.counter (fw : Bool) : Nat := if fw then d.fld Reg.SEC_CNT 22 16 else d.fld Reg.SEC_CNT 6 0

theorem Dev.advance_refused (x : Nat) {fw : Bool} (h : d.version fw ≤ d.counter fw ∨ d.Shut) : d.advance x fw = d.secRefuse :=
  if_pos (by rwa [Bool.or_eq_true, decide_eq_true_eq, d.otpShut_iff])

theorem Dev.advance_accepted (x : Nat) {fw : Bool} (h : d.counter fw < d.version fw) (hs : ¬ d.Shut) :
    d.advance x fw = { d.setB Reg.SEC_CNT 15 true with sec := { d.sec with blow := some (b2n fw, d.version fw, x) } } :=
  (if_neg (by rw [Bool.or_eq_true, decide_eq_true_eq, d.otpShut_iff]; exact not_or.mpr ⟨Nat.not_le.mpr h, hs⟩)).trans
    (d.setSec_setB Reg.SEC_CNT 15 true fun q => { q with blow := some (b2n fw, d.version fw, x) })

/-- The device whose counter in a field of SEC_CNT has its new value. -/
def Dev.counted (x n hi lo : Nat) : Dev :=
  (((d.freshByte.2.setB Reg.SEC_CNT 15 false).setSec fun q => { q with blow := none }).setF Reg.SEC_CNT hi lo n).raise .per x 246 0xD205
    [(1, d.freshByte.1), (1, n)]

/-! ### The shadow registers (R468) -/

/-- The shadow register of a group of fuses. -/
def shadowReg (r : Nat) : Nat := if r = 0 then Reg.SEC_LC else if r = 1 then Reg.SEC_KEY_STAT else Reg.SEC_CNT

theorem shadowReg_ne (r : Nat) : shadowReg r ≠ Reg.SEC_STAT := by
  unfold shadowReg
  split_ifs <;> decide

/-- The device whose shadow register, found with a wrong word, has its fuses' value again. -/
def Dev.repaired (x a : Nat) (found fuse : Word) : Dev :=
  ((d.freshByte.2.setB Reg.SEC_STAT 2 true).raise .per x 247 0xD207 [(1, d.freshByte.1), (4, found.toNat)]).wr a fuse

/-- What the check does about one shadow register: SEC_CNT.BUSY has no fuse and stays. -/
def Dev.shadowCheck (x : Nat) (o : Otp) (u : ShadowUpset) : Dev :=
  if u.value = o.shadow u.reg then d
  else if u.reg = 2 then (d.repaired x (shadowReg u.reg) u.value (o.shadow u.reg)).setB Reg.SEC_CNT 15 d.otpBusy
  else d.repaired x (shadowReg u.reg) u.value (o.shadow u.reg)

end Sys2Proof.Machine

namespace Sys2Proof.Safety

open Sys2Proof Sys2Proof.Machine

/-- What registers and a request change of a device with another security state and with a free value used. -/
theorem frame_of_sec_free {d e : Dev} {q : SecSt} {n : Nat}
    (h : e = { ({ d with sec := q, free := n } : Dev) with regs := e.regs, hwSet := e.hwSet, anv := e.anv }) :
    e = { d with regs := e.regs, hwSet := e.hwSet, sec := q, anv := e.anv, free := e.free } := by
  have hn : e.free = n := by rw [h]
  rw [hn]
  exact h

/-- A fuse of a key: its bit of SEC_KEY_STAT is set, with an event. -/
theorem keyFused_frame (d : Dev) (x slot : Nat) {i : Nat} (hi : i < 32) :
    let e := d.keyFused x slot i
    e = { d with regs := e.regs, hwSet := e.hwSet, anv := e.anv, free := e.free } ∧ RegsKept d e [Reg.SEC_KEY_STAT] ∧
      BitsKept d e Reg.SEC_KEY_STAT i i ∧ e.bit Reg.SEC_KEY_STAT i = true ∧
      (Quiet d .per x 246 → Requested e .per x 246 0xD206 [(1, slot), (1, d.freshByte.1)]) := by
  have hset := written_setB d.freshByte.2 Reg.SEC_KEY_STAT i true
  obtain ⟨hframe, hregs⟩ := hset.raised .per x 246 0xD206 [(1, slot), (1, d.freshByte.1)]
  have hrd : (d.keyFused x slot i).rd Reg.SEC_KEY_STAT = (d.freshByte.2.setB Reg.SEC_KEY_STAT i true).rd Reg.SEC_KEY_STAT := Dev.raise_rd ..
  refine ⟨frame_of_sec_free hframe, hregs, fun j hj => ?_, ?_, fun hq => ?_⟩
  · rw [Dev.bit, hrd]
    exact bitsKept_setB d.freshByte.2 _ true hi j hj
  · rw [Dev.bit, hrd]
    exact Dev.bit_setB _ _ _ _ hi
  · exact (hset.quiet (by decide) (hq.of_frame rfl rfl)).requested ..

/-- The end of a counter's blow: BUSY is 0 and the counter's field holds its new value, with an event. -/
theorem counted_frame (d : Dev) (x n : Nat) {hi lo : Nat} (hlo : lo ≤ hi) (hhi : hi < 32) (hbusy : 15 < lo ∨ hi < 15) :
    let e := d.counted x n hi lo
    e = { d with regs := e.regs, hwSet := e.hwSet, sec := { d.sec with blow := none }, anv := e.anv, free := e.free } ∧
      RegsKept d e [Reg.SEC_CNT] ∧ e.bit Reg.SEC_CNT 15 = false ∧ e.fld Reg.SEC_CNT hi lo = n % 2 ^ (hi + 1 - lo) ∧
      (Quiet d .per x 246 → Requested e .per x 246 0xD205 [(1, d.freshByte.1), (1, n)]) := by
  have hset := ((written_setB (d.freshByte.2.setSec fun q => { q with blow := none }) Reg.SEC_CNT 15 false).trans
    (written_setF _ Reg.SEC_CNT hi lo n)).mono (m := [Reg.SEC_CNT]) (by decide)
  obtain ⟨hframe, hregs⟩ := hset.raised .per x 246 0xD205 [(1, d.freshByte.1), (1, n)]
  rw [← Dev.setSec_setB_comm] at hset hframe hregs
  have hrd : (d.counted x n hi lo).rd Reg.SEC_CNT = setFld (setBit (d.rd Reg.SEC_CNT) 15 false) hi lo n := by
    rw [Dev.counted, Dev.raise_rd, Dev.rd_setF_same, Dev.setSec_rd, Dev.rd_setB_same, Dev.freshByte_rd]
  refine ⟨frame_of_sec_free hframe, hregs, ?_, ?_, fun hq => ?_⟩
  · rw [Dev.bit, hrd, tbit_setFld_apart _ _ _ hlo hhi hbusy, tbit_setBit _ _ (by decide)]
  · rw [Dev.fld, hrd, fld_setFld _ _ hlo hhi]
  · exact (hset.quiet (by decide) (hq.of_frame rfl rfl)).requested ..

/-! ### Shadow registers -/

/-- A repair of the register `a`: OTP_MISMATCH is set, `a` holds its fuses' value, with an event. -/
theorem repaired_frame (d : Dev) (x : Nat) {a : Nat} (found fuse : Word) (ha : a ≠ Reg.SEC_STAT) :
    let e := d.repaired x a found fuse
    e = { d with regs := e.regs, hwSet := e.hwSet, anv := e.anv, free := e.free } ∧ RegsKept d e [Reg.SEC_STAT, a] ∧
      e.bit Reg.SEC_STAT 2 = true ∧ e.rd a = fuse ∧ (Quiet d .per x 247 → Requested e .per x 247 0xD207 [(1, d.freshByte.1), (4, found.toNat)]) := by
  have hset := written_setB d.freshByte.2 Reg.SEC_STAT 2 true
  obtain ⟨hframe, hregs⟩ := hset.raised .per x 247 0xD207 [(1, d.freshByte.1), (4, found.toNat)]
  have hwr := written_wr ((d.freshByte.2.setB Reg.SEC_STAT 2 true).raise .per x 247 0xD207 [(1, d.freshByte.1), (4, found.toNat)]) a fuse
  refine ⟨frame_of_sec_free (hwr.frame.trans (by rw [hframe]; rfl)), hregs.trans hwr.regs, ?_, Dev.rd_wr_same .., fun hq => ?_⟩
  · rw [Dev.bit, Dev.repaired, Dev.rd_wr_ne _ _ _ _ ha.symm, Dev.raise_rd]
    exact Dev.bit_setB _ _ _ _ (by decide)
  · exact hwr.noted.requested ((hset.quiet (by decide) (hq.of_frame rfl rfl)).requested ..)

/-- A wrong shadow register is repaired, and BUSY of SEC_CNT is written back. -/
theorem written_shadowCheck (d : Dev) (x : Nat) {o : Otp} {u : ShadowUpset} (h : u.value ≠ o.shadow u.reg) :
    Written (d.repaired x (shadowReg u.reg) u.value (o.shadow u.reg)) (d.shadowCheck x o u) (if u.reg = 2 then [Reg.SEC_CNT] else []) := by
  rw [Dev.shadowCheck, if_neg h]
  split
  · exact written_setB _ ..
  · exact Written.refl _ _

/-- What the check of one wrong shadow register leaves. -/
theorem shadowCheck_frame (d : Dev) (x : Nat) {o : Otp} {u : ShadowUpset} (h : u.value ≠ o.shadow u.reg) :
    let e := d.shadowCheck x o u
    e = { d with regs := e.regs, hwSet := e.hwSet, anv := e.anv, free := e.free } ∧
      RegsKept d e [Reg.SEC_STAT, shadowReg u.reg] ∧ e.bit Reg.SEC_STAT 2 = true ∧ (u.reg < 2 → e.rd (shadowReg u.reg) = o.shadow u.reg) ∧
      (Quiet d .per x 247 → Requested e .per x 247 0xD207 [(1, d.freshByte.1), (4, u.value.toNat)]) := by
  obtain ⟨hframe, hregs, hbit, hfuse, hreq⟩ := repaired_frame d x u.value (o.shadow u.reg) (shadowReg_ne u.reg)
  have hchk := written_shadowCheck d x h
  have hcnt : (if u.reg = 2 then [Reg.SEC_CNT] else []) ⊆ [shadowReg u.reg] := by
    split
    · next h2 => rw [h2]; decide
    · exact List.nil_subset _
  have hanv : (d.shadowCheck x o u).anv = (d.repaired x (shadowReg u.reg) u.value (o.shadow u.reg)).anv := by rw [hchk.frame]
  have hfree : (d.shadowCheck x o u).free = (d.repaired x (shadowReg u.reg) u.value (o.shadow u.reg)).free := by rw [hchk.frame]
  refine ⟨hchk.frame.trans (by rw [hanv, hfree, hframe]), fun a ha => ?_, ?_, fun h2 => ?_, fun hq => hchk.noted.requested (hreq hq)⟩
  · exact (hchk.regs a fun hm => ha (List.mem_cons_of_mem _ (hcnt hm))).trans (hregs a ha)
  · rwa [hchk.regs.bit fun hm => shadowReg_ne u.reg (List.mem_singleton.mp (hcnt hm)).symm]
  · rwa [hchk.regs _ (by rw [if_neg (Nat.ne_of_lt h2)]; exact List.not_mem_nil)]

/-! ### The commands -/

section
variable {t : Nat} {s : State}

theorem leaves_advImg (hr : s.dev.runs = true) {d' : Dev} (h : (s.arrive t).dev.advance (Nat.max s.now t) false = d') :
    Leaves (.advImg t) t s d' :=
  leaves_of_live (f := fun x d => d.advance x false) rfl hr h

theorem leaves_advFw (hr : s.dev.runs = true) {d' : Dev} (h : (s.arrive t).dev.advance (Nat.max s.now t) true = d') :
    Leaves (.advFw t) t s d' :=
  leaves_of_live (f := fun x d => d.advance x true) rfl hr h

theorem exec_lcChangeRequest (hr : s.dev.runs = true) {v : Word} {d' : Dev} {fuses : List Fuse}
    (h : (s.arrive t).dev.lcRequest (Nat.max s.now t) v = (d', fuses)) :
    exec (.lcChangeRequest t v) s = .next { s.arrive t with dev := d', otp := fuses.foldl Otp.blow s.otp } :=
  exec_of_liveE rfl hr (congrArg (fun r => Effect.ofDev r.1 r.2) h)

theorem exec_keyProg (hr : s.dev.runs = true) {slot : Fin 4} {d' : Dev} {fuses : List Fuse}
    (h : ((s.arrive t).dev.setF Reg.SEC_KEY_CTRL 1 0 slot).keyProg (Nat.max s.now t) slot = (d', fuses)) :
    exec (.keyProg t slot) s = .next { s.arrive t with dev := d', otp := fuses.foldl Otp.blow s.otp } :=
  exec_of_liveE rfl hr (congrArg (fun r => Effect.ofDev r.1 r.2) h)

theorem exec_keyRevoke (hr : s.dev.runs = true) {slot : Fin 4} {d' : Dev} {fuses : List Fuse}
    (h : ((s.arrive t).dev.setF Reg.SEC_KEY_CTRL 1 0 slot).keyRevoke (Nat.max s.now t) slot = (d', fuses)) :
    exec (.keyRevoke t slot) s = .next { s.arrive t with dev := d', otp := fuses.foldl Otp.blow s.otp } :=
  exec_of_liveE rfl hr (congrArg (fun r => Effect.ofDev r.1 r.2) h)

/-- FUSE_BLOW_DONE while no fuse blows. -/
theorem leaves_fuseBlowDone_idle (hr : s.dev.runs = true) (h : s.dev.sec.blow = none) : Leaves (.fuseBlowDone t) t s (s.arrive t).dev := by
  refine leaves_of_liveE rfl hr ?_
  dsimp only [State.arrive_sec]
  rw [h]

/-- FUSE_BLOW_DONE: the counter whose fuses blew has its new value. -/
theorem exec_fuseBlowDone (hr : s.dev.runs = true) {fw n at_ : Nat} (h : s.dev.sec.blow = some (fw, n, at_)) :
    exec (.fuseBlowDone t) s = .next
      { s.arrive t with
        dev := (s.arrive t).dev.counted (Nat.max s.now t) n (if fw = 1 then 22 else 6) (if fw = 1 then 16 else 0)
        otp := s.otp.blow (if fw = 1 then .fwCnt n else .imgCnt n) } := by
  refine exec_of_liveE (fuses := [_]) rfl hr ?_
  dsimp only [State.arrive_sec]
  rw [h]
  by_cases hfw : fw = 1
  · simp only [hfw, if_true]
    rfl
  · simp only [hfw, if_false]
    rfl

/-- OTP_SHADOW_CHECK within the hour after the last. -/
theorem leaves_otpShadowCheck_early (hr : s.dev.runs = true) {l : Nat} (h : s.dev.sec.otpAt = some l) (hx : Nat.max s.now t < l + 3600 * uS)
    (us : List ShadowUpset) : Leaves (.otpShadowCheck t us) t s (s.arrive t).dev := by
  show execOtpShadowCheck t us s = _
  rw [execOtpShadowCheck, act_eq, Dev.live_of_runs _ _ ((State.arrive_runs s t).trans hr)]
  simp only [State.arrive_sec, h, hx, decide_true, if_true]

/-- OTP_SHADOW_CHECK an hour after the last, or the first. -/
theorem leaves_otpShadowCheck_due (hr : s.dev.runs = true) (h : ∀ l, s.dev.sec.otpAt = some l → l + 3600 * uS ≤ Nat.max s.now t)
    (us : List ShadowUpset) : Leaves (.otpShadowCheck t us) t s ((us.filter fun u => decide (u.reg < 3)).foldl
      (fun d u => d.shadowCheck (Nat.max s.now t) s.otp u) ((s.arrive t).dev.setSec fun q => { q with otpAt := some (Nat.max s.now t) })) := by
  show execOtpShadowCheck t us s = _
  rw [execOtpShadowCheck, act_eq, Dev.live_of_runs _ _ ((State.arrive_runs s t).trans hr)]
  cases hl : s.dev.sec.otpAt with
  | none =>
    simp only [State.arrive_sec, hl]
    rfl
  | some l =>
    simp only [State.arrive_sec, hl, Nat.not_lt.mpr (h l hl), decide_false]
    rfl

end

/-- Settles O31: each command is refused or leaves the device of the model's function that the laws above speak of. -/
theorem lifeCycleAndKeys : Obligations.LifeCycleAndKeys := by
  intro t v slot s hr d x lc usable shut n change refuse d1 key prog last revoke blows due advance
  have hslot : slot.val < 4 := slot.isLt
  have hquiet : Quiet d .per x 246 → Quiet d1 .per x 246 := (written_setF d Reg.SEC_KEY_CTRL 1 0 slot).quiet (by decide)
  have hadv (fw : Bool) {c : Instr} (hc : ∀ {d'}, d.advance x fw = d' → Leaves c t s d') : advance c (b2n fw) (d.version fw) (d.counter fw) :=
    ⟨fun h => hc (d.advance_refused x h), fun h hs => hc (d.advance_accepted x h hs)⟩
  refine ⟨fun h => exec_lcChangeRequest hr (d.lcRequest_of_not_mayChange x h), fun h => ?_,
    fun h => exec_keyProg hr (d1.keyProg_of_not_mayProgram x (mt (d.mayProgram_keyCtrl slot).mp h)), fun h => ?_,
    fun h => exec_keyRevoke hr (d1.keyRevoke_of_not_mayRevoke x hslot (mt (d.mayRevoke_keyCtrl slot).mp h)), fun h => ?_,
    hadv false (leaves_advImg hr), hadv true (leaves_advFw hr), leaves_fuseBlowDone_idle hr, fun fw m at_ h => ?_, fun u hu => ?_,
    fun h => leaves_otpShadowCheck_due hr h [], fun h us => ?_⟩
  -- A change of the life cycle.
  · have hn : n < 4 := Nat.mod_lt _ (by decide)
    have hnote := noted_lcTo d x n
    exact ⟨_, exec_lcChangeRequest hr (d.lcRequest_of_mayChange x h), lcTo_lc d x hn, lcTo_level d x n, hnote.frame, lcTo_requested d x n⟩
  -- A key programmed, and one revoked.
  · obtain ⟨hshape, hregs, hbits, hbit, hreq⟩ := keyFused_frame d1 x slot (i := slot) (by omega)
    exact ⟨_, exec_keyProg hr (d1.keyProg_of_mayProgram x ((d.mayProgram_keyCtrl slot).mpr h)), hshape, hregs, hbits, hbit,
      fun hq => ⟨_, hreq (hquiet hq)⟩⟩
  · obtain ⟨hshape, hregs, hbits, hbit, -⟩ := keyFused_frame d1 x slot (i := 4 + slot) (by omega)
    exact ⟨_, exec_keyRevoke hr (d1.keyRevoke_of_mayRevoke x hslot ((d.mayRevoke_keyCtrl slot).mpr h)), hshape, hregs, hbits, hbit⟩
  -- A counter raised.
  · have hfield : (if fw = 1 then 16 else 0) ≤ (if fw = 1 then 22 else 6) ∧ (if fw = 1 then 22 else 6) < 32 ∧
        (15 < (if fw = 1 then 16 else 0) ∨ (if fw = 1 then 22 else 6) < 15) ∧
        (if fw = 1 then 22 else 6) + 1 - (if fw = 1 then 16 else 0) = 7 := by
      split_ifs <;> decide
    obtain ⟨hlo, hhi, hbusy, hwidth⟩ := hfield
    obtain ⟨hshape, hregs, hbit, hfld, hreq⟩ := counted_frame d x m hlo hhi hbusy
    rw [hwidth] at hfld
    exact ⟨_, exec_fuseBlowDone hr h, hshape, hregs, hbit, hfld, fun hq => ⟨_, hreq hq⟩⟩
  -- The check of a shadow register in its hour, and before it.
  · intro a fuse
    have hleaves (h : due) : Leaves (.otpShadowCheck t [u]) t s (({ d with sec := { d.sec with otpAt := some x } } : Dev).shadowCheck x s.otp u) := by
      have hall := leaves_otpShadowCheck_due hr h [u]
      rw [List.filter_cons_of_pos (by simpa using hu)] at hall
      exact hall
    refine ⟨fun h heq => ?_, fun h hne => ?_⟩
    · have hsame := hleaves h
      rw [Dev.shadowCheck, if_pos heq] at hsame
      exact hsame
    · obtain ⟨hshape, hregs, hbit, hfuse, hreq⟩ := shadowCheck_frame { d with sec := { d.sec with otpAt := some x } } x hne
      exact ⟨_, hleaves h, hshape, hregs, hbit, hfuse, fun hq => ⟨_, hreq (hq.of_frame rfl rfl)⟩⟩
  · obtain ⟨l, hl, hx⟩ : ∃ l, d.sec.otpAt = some l ∧ x < l + 3600 * uS := by
      simpa only [due, not_forall, Nat.not_le, exists_prop] using h
    exact leaves_otpShadowCheck_early hr hl hx us

end Sys2Proof.Safety
end

section
/-! Debug access (R473 to R478): the challenge, its verification, failures with their lockout, expiry and end, and O33. -/

namespace Sys2Proof.Machine

/-! ### Pieces of a byte string -/

/-- A piece of a list cut into pieces of `k`. -/
theorem nth_chunks {α : Type} (k fuel : Nat) (l : List α) {i : Nat} (h : i < fuel) : nth [] (chunks k fuel l) i = (l.drop (k * i)).take k := by
  induction fuel generalizing l i with
  | zero => exact absurd h (Nat.not_lt_zero i)
  | succ fuel ih =>
    by_cases hl : l = []
    · simp [hl, chunks, nth]
    · rw [chunks, if_neg (by rwa [List.isEmpty_iff])]
      cases i with
      | zero => simp [nth]
      | succ i =>
        have hdrop : l.drop (k * (i + 1)) = (l.drop k).drop (k * i) := by rw [List.drop_drop, Nat.mul_succ, Nat.add_comm]
        rw [hdrop, ← ih (l.drop k) (Nat.lt_of_succ_lt_succ h)]
        rfl

/-- The first `n` pieces of `k`, put together again. -/
theorem flatMap_take_drop {α : Type} (k n : Nat) (l : List α) : (List.range n).flatMap (fun i => (l.drop (k * i)).take k) = l.take (k * n) := by
  induction n with
  | zero => simp
  | succ n ih => rw [List.range_succ, List.flatMap_append, ih, Nat.mul_succ, List.take_add]; simp

/-- A piece of `k` of a string that was put together from such pieces. -/
theorem take_drop_flatMap {α : Type} (k : Nat) (f : Nat → List α) (hf : ∀ i, (f i).length = k) (n : Nat) (l : List α) {i : Nat} (h : i < n) :
    (((List.range n).flatMap f ++ l).drop (k * i)).take k = f i := by
  induction n generalizing l with
  | zero => exact absurd h (Nat.not_lt_zero i)
  | succ n ih =>
    have hlen : ((List.range n).flatMap f).length = k * n := by simp [List.length_flatMap, hf, Nat.mul_comm]
    rw [List.range_succ, List.flatMap_append, List.append_assoc, List.flatMap_singleton]
    rcases Nat.lt_succ_iff_lt_or_eq.mp h with h | rfl
    · exact ih _ h
    · rw [List.drop_left' hlen, List.take_left' (hf i)]

/-- Bytes are the bytes of the number they spell. -/
theorem leBytes_leNat (l : List Byte) : leBytes l.length (leNat l) = l := by
  induction l with
  | nil => rfl
  | cons b l ih =>
    have hmod : BitVec.ofNat 8 (b.toNat + 256 * leNat l) = b := BitVec.eq_of_toNat_eq (by have := b.isLt; simp; omega)
    have hdiv : (b.toNat + 256 * leNat l) / 256 = leNat l := by have := b.isLt; omega
    rw [leNat, List.length_cons, leBytes, hmod, hdiv, ih]

theorem leNat_lt (l : List Byte) : leNat l < 256 ^ l.length := by
  induction l with
  | nil => exact Nat.one_pos
  | cons b l ih =>
    rw [leNat, List.length_cons, pow_succ]
    have := b.isLt
    omega

/-- The bytes of a word that four bytes spell. -/
theorem leBytes_word {l : List Byte} (h : l.length = 4) : leBytes 4 (BitVec.ofNat 32 (leNat l)).toNat = l := by
  have hlt : leNat l < 2 ^ 32 := by have := leNat_lt l; rw [h] at this; exact this
  rw [BitVec.toNat_ofNat, Nat.mod_eq_of_lt hlt, ← h, leBytes_leNat]

/-- The word that its own bytes spell. -/
theorem word_leBytes (w : Word) : BitVec.ofNat 32 (leNat (leBytes 4 w.toNat)) = w := by
  rw [leNat_leBytes]
  exact BitVec.eq_of_toNat_eq (by simpa using w.isLt)

theorem Reg.dbgChal_ne_dbgStat (i : Nat) : Reg.DBG_CHAL i ≠ Reg.DBG_STAT := by
  unfold Reg.DBG_CHAL Reg.DBG_STAT
  omega

variable (d : Dev)

/-! ### The challenge (R474) -/

/-- With a nonce of 32 bytes the challenge is the nonce, the UID, the level and the key, and zeros. -/
theorem Dev.challenge_eq {nonce : List Byte} (h : nonce.length = 32) (level key : Nat) : d.challenge nonce level key =
    nonce ++ ((List.range 4).flatMap (fun i => leBytes 4 (d.rd (Reg.SEC_UID i)).toNat) ++
      ([BitVec.ofNat 8 level, BitVec.ofNat 8 key] ++ List.replicate 14 0#8)) := by
  rw [Dev.challenge, List.take_left' h, List.append_assoc, List.append_assoc]

/-- The `i`-th word of a challenge. -/
def challengeWord (bytes : List Byte) (i : Nat) : Word := BitVec.ofNat 32 (leNat (nth [] (chunks 4 16 bytes) i))

theorem challengeWord_eq (bytes : List Byte) {i : Nat} (h : i < 16) :
    challengeWord bytes i = BitVec.ofNat 32 (leNat ((bytes.drop (4 * i)).take 4)) := by
  rw [challengeWord, nth_chunks 4 16 bytes h]

section
variable {nonce : List Byte} (h : nonce.length = 32) (level key : Nat)
include h

theorem Dev.length_challenge : (d.challenge nonce level key).length = 64 := by
  simp [d.challenge_eq h, List.length_flatMap, h]

/-- The challenge begins with the nonce. -/
theorem Dev.challengeWord_nonce :
    (List.range 8).flatMap (fun i => leBytes 4 (challengeWord (d.challenge nonce level key) i).toNat) = nonce := by
  have hpiece : ∀ i ∈ List.range 8, leBytes 4 (challengeWord (d.challenge nonce level key) i).toNat =
      ((d.challenge nonce level key).drop (4 * i)).take 4 := fun i hi => by
    have hi8 : i < 8 := List.mem_range.mp hi
    rw [challengeWord_eq _ (by omega), leBytes_word]
    rw [List.length_take, List.length_drop, d.length_challenge h]
    omega
  rw [List.flatMap_congr hpiece, flatMap_take_drop, d.challenge_eq h, List.take_left' h]

/-- The UID follows it. -/
theorem Dev.challengeWord_uid {i : Nat} (hi : i < 4) : challengeWord (d.challenge nonce level key) (8 + i) = d.rd (Reg.SEC_UID i) := by
  have hdrop : (d.challenge nonce level key).drop (4 * (8 + i)) = ((d.challenge nonce level key).drop 32).drop (4 * i) := by
    rw [List.drop_drop, Nat.mul_add]
  rw [challengeWord_eq _ (by omega), hdrop, d.challenge_eq h, List.drop_left' h,
    take_drop_flatMap 4 (fun i => leBytes 4 (d.rd (Reg.SEC_UID i)).toNat) (fun i => length_leBytes 4 _) 4 _ hi, word_leBytes]

/-- The level and the key follow the UID. -/
theorem Dev.challengeWord_request (hl : level < 256) (hk : key < 256) :
    (challengeWord (d.challenge nonce level key) 12).toNat = level + 256 * key := by
  have hlen : (nonce ++ (List.range 4).flatMap fun i => leBytes 4 (d.rd (Reg.SEC_UID i)).toNat).length = 48 := by
    simp [List.length_flatMap, h]
  rw [challengeWord_eq _ (by decide), d.challenge_eq h, ← List.append_assoc, List.drop_left' hlen]
  show (BitVec.ofNat 32 (leNat [BitVec.ofNat 8 level, BitVec.ofNat 8 key, 0#8, 0#8])).toNat = _
  simp only [leNat, BitVec.toNat_ofNat]
  omega

end

/-- The device with a challenge placed. -/
def Dev.challenged (x : Nat) (nonce : List Byte) (level key : Nat) : Dev :=
  (((List.range 16).foldl (fun e i => e.wr (Reg.DBG_CHAL i) (challengeWord (d.challenge nonce level key) i)) d).setB Reg.DBG_STAT 29 true).setSec
    fun q => { q with chalExp := some (x + 60 * uS), chalUsed := false, reqLevel := level, reqKey := key }

theorem Dev.setSec_foldl_wr {α : Type} (a : α → Nat) (w : α → Word) (f : SecSt → SecSt) (l : List α) :
    (l.foldl (fun e i => e.wr (a i) (w i)) d).setSec f = l.foldl (fun e i => e.wr (a i) (w i)) (d.setSec f) := by
  induction l generalizing d with
  | nil => rfl
  | cons b l ih => exact ih (d.wr (a b) (w b))

theorem Dev.setSec_setF_comm (a hi lo v : Nat) (f : SecSt → SecSt) : (d.setF a hi lo v).setSec f = (d.setSec f).setF a hi lo v := rfl

@[simp] theorem Dev.setSec_sec (f : SecSt → SecSt) : (d.setSec f).sec = f d.sec := rfl

theorem Dev.setSec_setSec (f g : SecSt → SecSt) : (d.setSec f).setSec g = d.setSec fun q => g (f q) := rfl

/-! ### A request (R474, R477) -/

theorem Dev.rw_shape (a : Nat) (v : Word) : ∃ r, d.rw a v = { d with regs := r } := by
  unfold Dev.rw
  split
  · exact ⟨d.regs, rfl⟩
  · exact ⟨_, rfl⟩

theorem Dev.rd_rw_ne {a b : Nat} (v : Word) (h : b ≠ a) : (d.rw a v).rd b = d.rd b := by
  unfold Dev.rw
  split
  · rfl
  · exact Dev.rd_wr_ne _ _ _ _ h

@[simp] theorem Dev.rw_sec (a : Nat) (v : Word) : (d.rw a v).sec = d.sec := by
  obtain ⟨r, h⟩ := d.rw_shape a v
  rw [h]

/-- The outcome by the table of R477 is read from three registers. -/
theorem Dev.dbgDecide_congr {e : Dev} (hp : e.rd Reg.PWR_STAT = d.rd Reg.PWR_STAT) (hl : e.rd Reg.SEC_LC = d.rd Reg.SEC_LC)
    (ht : e.rd Reg.TWN_STAT = d.rd Reg.TWN_STAT) (level : Nat) : e.dbgDecide level = d.dbgDecide level := by
  have hpower : e.power = d.power := congrArg (Machine.fld · 2 0) hp
  have hlc : e.lc = d.lc := congrArg (Machine.fld · 1 0) hl
  have hpair : e.pair = d.pair := congrArg (Machine.fld · 31 29) ht
  rw [Dev.dbgDecide, hpower, hlc, hpair, Dev.dbgDecide]

/-- The device with a level granted that needs no withdrawal. -/
def Dev.granted (x level key : Nat) : Dev :=
  (((d.setF Reg.DBG_STAT 15 12 1).setF Reg.DBG_STAT 23 16 0).setSec fun q => { q with fails := 0 }).dbgTo x level key

theorem grant_eq (s : State) {level : Nat} (key : Nat) (h : level ≠ 3) : grant s d level key 1 = .ofDev (d.granted s.now level key) [] := if_neg h

/-- The device whose challenge is spent before the level is granted. -/
def Dev.spent : Dev := (d.setB Reg.DBG_STAT 29 false).setSec fun q => { q with chalExp := none, chalUsed := true }

theorem dbgStartReq_locked (s : State) (v : Word) (nonce : List Byte) (h : ∃ e, d.sec.lockout = some e ∧ s.now < e) :
    dbgStartReq s d v nonce = .ofDev (d.setF Reg.DBG_STAT 15 12 4) [] := by
  obtain ⟨e, he, hx⟩ := h
  rw [dbgStartReq, he]
  exact if_pos (decide_eq_true hx)

/-- Outside of a lockout the table decides, and in FIELD a challenge is placed first. -/
theorem dbgStartReq_open (s : State) (v : Word) (nonce : List Byte) (h : ¬ ∃ e, d.sec.lockout = some e ∧ s.now < e) :
    dbgStartReq s d v nonce =
      if d.dbgDecide (bitsOf v 1 0) = 0 then .ofDev (d.setF Reg.DBG_STAT 15 12 3) []
      else if (d.challenged s.now nonce (bitsOf v 1 0) (bitsOf v 5 4)).lc = 2 then .ofDev (d.challenged s.now nonce (bitsOf v 1 0) (bitsOf v 5 4)) []
      else grant s (d.challenged s.now nonce (bitsOf v 1 0) (bitsOf v 5 4)).spent (bitsOf v 1 0) (bitsOf v 5 4) (d.dbgDecide (bitsOf v 1 0)) := by
  have hopen : ∀ e, d.sec.lockout = some e → decide (s.now < e) ≠ true := fun e he hx => h ⟨e, he, of_decide_eq_true hx⟩
  unfold dbgStartReq
  cases hl : d.sec.lockout with
  | none =>
    dsimp only
    rw [if_neg Bool.false_ne_true]
    rfl
  | some e =>
    dsimp only
    rw [if_neg (hopen e hl)]
    rfl

/-! ### Verification (R474, R475) -/

theorem Dev.dbgVerifyReq_busy (x : Nat) (h : d.bit Reg.DBG_STAT 28 = true) : d.dbgVerifyReq x = d := if_pos h

/-- A challenge that stands is spent, and its verification begins. -/
theorem Dev.dbgVerifyReq_fresh {x e : Nat} (hb : d.bit Reg.DBG_STAT 28 = false) (hu : d.sec.chalUsed = false) (he : d.sec.chalExp = some e) (hx : x < e) :
    d.dbgVerifyReq x = (((d.setB Reg.DBG_STAT 29 false).setSec fun q => { q with chalUsed := true, chalExp := none }).setB Reg.DBG_STAT 28 true).setSec
      fun q => { q with verifyAt := some x } := by
  unfold Dev.dbgVerifyReq
  simp only [hb, hu, he, hx, decide_true, Bool.not_false, Bool.and_self, if_true, Bool.false_eq_true, if_false]

/-- Without a challenge that stands the request fails. -/
theorem Dev.dbgVerifyReq_stale {x : Nat} (hb : d.bit Reg.DBG_STAT 28 = false)
    (h : d.sec.chalUsed = true ∨ d.sec.chalExp = none ∨ ∃ e, d.sec.chalExp = some e ∧ e ≤ x) :
    d.dbgVerifyReq x = ((d.setB Reg.DBG_STAT 29 false).setSec fun q => { q with chalUsed := true, chalExp := none }).dbgFail x
      (d.fld Reg.DBG_REQ 5 4) 5 := by
  have hkey : ((d.setB Reg.DBG_STAT 29 false).setSec fun q => { q with chalUsed := true, chalExp := none }).fld Reg.DBG_REQ 5 4 =
      d.fld Reg.DBG_REQ 5 4 := by
    rw [Dev.fld, Dev.setSec_rd, d.rd_setB_ne _ _ _ _ (by decide), Dev.fld]
  unfold Dev.dbgVerifyReq
  rcases h with hu | hn | ⟨e, he, hx⟩
  · simp only [hb, hu, Bool.not_true, Bool.false_and, Bool.false_eq_true, if_false, hkey]
  · simp only [hb, hn, Bool.and_false, Bool.false_eq_true, if_false, hkey]
  · simp only [hb, he, Nat.not_lt.mpr hx, decide_false, Bool.and_false, Bool.false_eq_true, if_false, hkey]

/-- The signature is judged by the challenge and the response. -/
theorem Dev.dbgSigOk_congr {e : Dev} (hs : e.sec.resp = d.sec.resp) (hc : ∀ i, e.rd (Reg.DBG_CHAL i) = d.rd (Reg.DBG_CHAL i)) (p : Nat × Nat) :
    e.dbgSigOk p = d.dbgSigOk p := by
  simp only [Dev.dbgSigOk, hs, hc]

/-- The device whose verification has ended. -/
def Dev.judged : Dev := (d.setB Reg.DBG_STAT 28 false).setSec fun q => { q with verifyAt := none }

/-- What follows for a key that the slot of the request holds. -/
def verdict (s : State) (p : Nat × Nat) : Effect :=
  if !d.slotUsable d.sec.reqKey then .ofDev (d.dbgFail s.now d.sec.reqKey 6) []
  else if !d.dbgSigOk p then .ofDev (d.dbgFail s.now d.sec.reqKey 2) []
  else if d.dbgDecide d.sec.reqLevel = 0 then .ofDev (d.setF Reg.DBG_STAT 15 12 3) []
  else grant s d d.sec.reqLevel d.sec.reqKey (d.dbgDecide d.sec.reqLevel)

/-- The end of a time in force: a bit of DBG_STAT is cleared, with a change of the security state. -/
def Dev.clearDue (x i : Nat) (f : SecSt → SecSt) (due : Option Nat) : Dev :=
  match due with
  | none => d
  | some e => if e ≤ x then (d.setB Reg.DBG_STAT i false).setSec f else d

theorem Dev.clearDue_early {x e : Nat} (i : Nat) (f : SecSt → SecSt) (h : x < e) : d.clearDue x i f (some e) = d := if_neg (Nat.not_le.mpr h)

theorem Dev.clearDue_due {x e : Nat} (i : Nat) (f : SecSt → SecSt) (h : e ≤ x) :
    d.clearDue x i f (some e) = (d.setB Reg.DBG_STAT i false).setSec f := if_pos h

theorem Dev.rd_judged {a : Nat} (h : a ≠ Reg.DBG_STAT) : d.judged.rd a = d.rd a := by
  rw [Dev.judged, Dev.setSec_rd, Dev.rd_setB_ne _ _ _ _ _ h]

theorem Dev.judged_sec : d.judged.sec = { d.sec with verifyAt := none } := by
  rw [Dev.judged, Dev.setSec_sec, Dev.setB_sec]

theorem Dev.judged_reqKey : d.judged.sec.reqKey = d.sec.reqKey := by rw [Dev.judged_sec]

theorem Dev.judged_usable (i : Nat) : d.judged.slotUsable i = true ↔ d.Usable i := by
  rw [Dev.slotUsable_iff, Dev.Usable, Dev.bit, Dev.bit, d.rd_judged (by decide)]
  rfl

theorem Dev.judged_sigOk (p : Nat × Nat) : d.judged.dbgSigOk p = d.dbgSigOk p := by
  refine d.dbgSigOk_congr (by rw [Dev.judged_sec]) (fun i => d.rd_judged ?_) p
  exact Reg.dbgChal_ne_dbgStat i

theorem Dev.judged_decide (level : Nat) : d.judged.dbgDecide level = d.dbgDecide level :=
  d.dbgDecide_congr (d.rd_judged (by decide)) (d.rd_judged (by decide)) (d.rd_judged (by decide)) level

section
variable (s : State) {p : Nat × Nat}

/-- A slot that is not usable fails the request. -/
theorem verdict_unusable (h : ¬ d.Usable d.sec.reqKey) : verdict d.judged s p = .ofDev (d.judged.dbgFail s.now d.sec.reqKey 6) [] := by
  have hslot : d.judged.slotUsable d.sec.reqKey = false := Bool.not_eq_true _ ▸ mt (d.judged_usable _).mp h
  rw [verdict, Dev.judged_sec, hslot, if_pos Bool.not_false]

variable (h : d.Usable d.sec.reqKey)
include h

/-- A signature that does not verify fails the request. -/
theorem verdict_badSignature (hs : d.dbgSigOk p = false) : verdict d.judged s p = .ofDev (d.judged.dbgFail s.now d.sec.reqKey 2) [] := by
  rw [verdict, Dev.judged_sec, (d.judged_usable _).mpr h, Dev.judged_sigOk, hs, Bool.not_true, if_neg Bool.false_ne_true, if_pos Bool.not_false]

/-- With a good signature the table decides. -/
theorem verdict_goodSignature (hs : d.dbgSigOk p = true) : verdict d.judged s p =
    if d.dbgDecide d.sec.reqLevel = 0 then .ofDev (d.judged.setF Reg.DBG_STAT 15 12 3) []
    else grant s d.judged d.sec.reqLevel d.sec.reqKey (d.dbgDecide d.sec.reqLevel) := by
  rw [verdict, Dev.judged_sec, (d.judged_usable _).mpr h, Dev.judged_sigOk, hs, Dev.judged_decide, Bool.not_true, if_neg Bool.false_ne_true,
    if_neg Bool.false_ne_true]

end

end Sys2Proof.Machine

namespace Sys2Proof.Safety

open Sys2Proof Sys2Proof.Machine

theorem written_foldl_wr {α : Type} (d : Dev) (a : α → Nat) (w : α → Word) (l : List α) :
    Written d (l.foldl (fun e i => e.wr (a i) (w i)) d) (l.map a) := by
  refine ⟨?_, fun r hr => d.rd_foldl_wr_ne a w l hr⟩
  obtain ⟨r, h⟩ := d.foldl_wr_shape a w l
  rw [h]

/-- A challenge placed: its words in DBG_CHAL, and CHAL_READY. -/
theorem challenged_frame (d : Dev) (x : Nat) (nonce : List Byte) (level key : Nat) :
    let e := d.challenged x nonce level key
    e = { d with
          regs := e.regs, hwSet := e.hwSet
          sec := { d.sec with chalExp := some (x + 60 * uS), chalUsed := false, reqLevel := level, reqKey := key } } ∧
      RegsKept d e (Reg.DBG_STAT :: (List.range 16).map Reg.DBG_CHAL) ∧ e.rd Reg.DBG_STAT = setBit (d.rd Reg.DBG_STAT) 29 true ∧
      ∀ i, i < 16 → e.rd (Reg.DBG_CHAL i) = challengeWord (d.challenge nonce level key) i := by
  have hwr := (written_foldl_wr (d.setSec fun q => { q with chalExp := some (x + 60 * uS), chalUsed := false, reqLevel := level, reqKey := key })
    Reg.DBG_CHAL (challengeWord (d.challenge nonce level key)) (List.range 16)).trans (written_setB _ Reg.DBG_STAT 29 true)
  rw [← Dev.setSec_foldl_wr, ← Dev.setSec_setB_comm] at hwr
  refine ⟨hwr.frame, (hwr.mono (by simp)).regs, ?_, fun i hi => ?_⟩
  · rw [Dev.challenged, Dev.setSec_rd, Dev.rd_setB_same, Dev.rd_foldl_wr_ne _ _ _ _ (by decide)]
  · rw [Dev.challenged, Dev.setSec_rd, Dev.rd_setB_ne _ _ _ _ _ (Reg.dbgChal_ne_dbgStat i)]
    exact d.rd_foldl_wr Reg.DBG_CHAL _ (List.range 16) (by decide) (List.mem_range.mpr hi)

/-- What the challenge says: the nonce, the UID, the level and the key (R474). -/
theorem challenged_content (d : Dev) (x : Nat) {nonce : List Byte} (h : nonce.length = 32) {level key : Nat} (hl : level < 4) (hk : key < 4) :
    let e := d.challenged x nonce level key
    (List.range 8).flatMap (fun i => leBytes 4 (e.rd (Reg.DBG_CHAL i)).toNat) = nonce ∧
      (∀ i, i < 4 → e.rd (Reg.DBG_CHAL (8 + i)) = d.rd (Reg.SEC_UID i)) ∧ (e.rd (Reg.DBG_CHAL 12)).toNat = level + 256 * key := by
  obtain ⟨-, -, -, hchal⟩ := challenged_frame d x nonce level key
  refine ⟨?_, fun i hi => ?_, ?_⟩
  · refine (List.flatMap_congr fun i hi => ?_).trans (d.challengeWord_nonce h level key)
    rw [hchal i (Nat.lt_trans (List.mem_range.mp hi) (by decide))]
  · rw [hchal _ (by omega), d.challengeWord_uid h level key hi]
  · rw [hchal 12 (by decide), d.challengeWord_request h level key (by omega) (by omega)]

/-! ### The end of a request -/

theorem dbgTo_sec (d : Dev) (x level key : Nat) : (d.dbgTo x level key).sec = d.sec := by
  rw [(noted_dbgTo d x level key).frame]

/-- A level granted: it stands in DBG_STAT with RESULT 1, and the failures are forgotten. -/
theorem granted_frame (d : Dev) (x key : Nat) {level : Nat} (h : level < 4) :
    let e := d.granted x level key
    e.fld Reg.DBG_STAT 31 30 = level ∧ e.fld Reg.DBG_STAT 15 12 = 1 ∧ e.sec = { d.sec with fails := 0 } := by
  refine ⟨dbgTo_level _ x key h, ?_, ?_⟩
  · rw [Dev.granted, dbgTo_fld_below _ _ _ _ _ (by decide), Dev.fld, Dev.setSec_rd, Dev.rd_setF_same,
      fld_setFld_apart _ _ (by decide) (by decide) (by decide), ← Dev.fld, Dev.fld_setF _ _ _ _ _ (by decide) (by decide)]
    rfl
  · rw [Dev.granted, dbgTo_sec, Dev.setSec_sec, Dev.setF_sec, Dev.setF_sec]

/-- A bit of DBG_STAT cleared with a change of the security state. -/
theorem cleared_frame (d : Dev) {i : Nat} (hi : i < 32) (f : SecSt → SecSt) :
    let e := (d.setB Reg.DBG_STAT i false).setSec f
    e = { d with regs := e.regs, hwSet := e.hwSet, sec := f d.sec } ∧ RegsKept d e [Reg.DBG_STAT] ∧ BitsKept d e Reg.DBG_STAT i i ∧
      e.bit Reg.DBG_STAT i = false := by
  have hwr := written_setB (d.setSec f) Reg.DBG_STAT i false
  rw [← Dev.setSec_setB_comm] at hwr
  exact ⟨hwr.frame, hwr.regs, bitsKept_setB d _ false hi, Dev.bit_setB _ _ _ _ hi⟩

/-- A failure in the order of the writes: the security state first. -/
theorem dbgFail_eq (d : Dev) (x key i result : Nat) {f : SecSt → SecSt} (hf : (f d.sec).fails = d.sec.fails) :
    ((d.setB Reg.DBG_STAT i false).setSec f).dbgFail x key result =
      (((((d.setSec fun q => { f q with fails := d.sec.fails + 1, lockout := some (x + (if d.sec.fails + 1 < 5 then uS else 600 * uS)) }).setB
        Reg.DBG_STAT i false).setF Reg.DBG_STAT 15 12 result).setF Reg.DBG_STAT 23 16 (Nat.min (d.sec.fails + 1) 255)).setB
          Reg.DBG_STAT 27 true).raise .per x 243 0xD203 [(1, key), (1, Nat.min (d.sec.fails + 1) 255), (1, result)] := by
  have hfails : ((d.setB Reg.DBG_STAT i false).setSec f).sec.fails = d.sec.fails := hf
  rw [Dev.dbgFail, hfails]
  simp -implicitDefEqProofs only [Dev.setSec_setB_comm, Dev.setSec_setF_comm, Dev.setSec_setSec]

/-- A failed authentication, after the bit that ends what was under way is cleared. -/
theorem dbgFail_frame (d : Dev) (x key : Nat) {i result : Nat} (hi : 27 < i ∧ i < 30) (hres : result < 16) {f : SecSt → SecSt}
    (hf : (f d.sec).fails = d.sec.fails) :
    let n := d.sec.fails + 1
    let e := ((d.setB Reg.DBG_STAT i false).setSec f).dbgFail x key result
    RegsKept d e [Reg.DBG_STAT] ∧ e.fld Reg.DBG_STAT 15 12 = result ∧ e.fld Reg.DBG_STAT 23 16 = Nat.min n 255 ∧ e.bit Reg.DBG_STAT 27 = true ∧
      e.fld Reg.DBG_STAT 31 30 = d.fld Reg.DBG_STAT 31 30 ∧
      e = { d with
            regs := e.regs, hwSet := e.hwSet, anv := e.anv
            sec := { f d.sec with fails := n, lockout := some (x + (if n < 5 then 1 else 600) * uS) } } ∧
      (Quiet d .per x 243 → Requested e .per x 243 0xD203 [(1, key), (1, Nat.min n 255), (1, result)]) := by
  have htime : (if d.sec.fails + 1 < 5 then uS else 600 * uS) = (if d.sec.fails + 1 < 5 then 1 else 600) * uS := by
    split <;> simp
  dsimp only
  rw [dbgFail_eq d x key i result hf, htime]
  generalize hbase : (d.setSec fun q => { f q with fails := d.sec.fails + 1, lockout := some (x + (if d.sec.fails + 1 < 5 then 1 else 600) * uS) }) = base
  generalize hcount : Nat.min (d.sec.fails + 1) 255 = count
  have hcount256 : count < 256 := hcount ▸ Nat.lt_of_le_of_lt (Nat.min_le_right _ _) (by decide)
  have hwr := ((((written_setB base Reg.DBG_STAT i false).trans (written_setF _ Reg.DBG_STAT 15 12 result)).trans
    (written_setF _ Reg.DBG_STAT 23 16 count)).trans (written_setB _ Reg.DBG_STAT 27 true)).mono (m := [Reg.DBG_STAT]) (by decide)
  obtain ⟨hframe, hregs⟩ := hwr.raised .per x 243 0xD203 [(1, key), (1, count), (1, result)]
  have hsame : ∀ a, base.rd a = d.rd a := fun a => hbase ▸ rfl
  refine ⟨fun a ha => (hregs a ha).trans (hsame a), ?_, ?_, ?_, ?_, hframe.trans (by rw [← hbase]; rfl), fun hq => ?_⟩
  · simp only [Dev.fld, Dev.raise_rd, Dev.rd_setB_same, Dev.rd_setF_same]
    rw [fld_setBit_apart _ _ (by decide) (by decide), fld_setFld_apart _ _ (by decide) (by decide) (by decide), fld_setFld _ _ (by decide) (by decide)]
    exact Nat.mod_eq_of_lt hres
  · simp only [Dev.fld, Dev.raise_rd, Dev.rd_setB_same, Dev.rd_setF_same]
    rw [fld_setBit_apart _ _ (by decide) (by decide), fld_setFld _ _ (by decide) (by decide)]
    exact Nat.mod_eq_of_lt hcount256
  · simp only [Dev.bit, Dev.raise_rd, Dev.rd_setB_same]
    exact tbit_setBit _ _ (by decide)
  · simp only [Dev.fld, Dev.raise_rd, Dev.rd_setB_same, Dev.rd_setF_same, hsame]
    rw [fld_setBit_apart _ _ (by decide) (by decide), fld_setFld_apart _ _ (by decide) (by decide) (by decide),
      fld_setFld_apart _ _ (by decide) (by decide) (by decide), fld_setBit_apart _ _ (by omega) (by omega)]
  · exact (hwr.quiet (by decide) (hq.of_frame (by rw [← hbase]; rfl) (hsame _))).requested ..

/-- A verification begun: the challenge is spent. -/
theorem verifying_frame (d : Dev) (x : Nat) :
    let e := (((d.setB Reg.DBG_STAT 29 false).setSec fun q => { q with chalUsed := true, chalExp := none }).setB Reg.DBG_STAT 28 true).setSec
      fun q => { q with verifyAt := some x }
    e = { d with regs := e.regs, hwSet := e.hwSet, sec := { d.sec with chalUsed := true, chalExp := none, verifyAt := some x } } ∧
      RegsKept d e [Reg.DBG_STAT] ∧ e.bit Reg.DBG_STAT 28 = true ∧ e.bit Reg.DBG_STAT 29 = false := by
  have hwr := ((written_setB (d.setSec fun q => { q with chalUsed := true, chalExp := none, verifyAt := some x }) Reg.DBG_STAT 29 false).trans
    (written_setB _ Reg.DBG_STAT 28 true)).mono (m := [Reg.DBG_STAT]) (by decide)
  dsimp only
  rw [Dev.setSec_setB_comm, Dev.setSec_setB_comm, Dev.setSec_setB_comm, Dev.setSec_setSec]
  refine ⟨hwr.frame, hwr.regs, Dev.bit_setB _ _ _ _ (by decide), ?_⟩
  rw [Dev.bit, Dev.rd_setB_same, tbit_setBit_ne _ _ (by decide) (by decide), ← Dev.bit, Dev.bit_setB _ _ _ _ (by decide)]

/-- A request refused by the table after a good signature. -/
theorem refused_frame (d : Dev) :
    let e := d.judged.setF Reg.DBG_STAT 15 12 3
    e.fld Reg.DBG_STAT 15 12 = 3 ∧ e.fld Reg.DBG_STAT 31 30 = d.fld Reg.DBG_STAT 31 30 ∧
      e = { d with regs := e.regs, hwSet := e.hwSet, sec := { d.sec with verifyAt := none } } ∧ RegsKept d e [Reg.DBG_STAT] := by
  have hwr := ((written_setB (d.setSec fun q => { q with verifyAt := none }) Reg.DBG_STAT 28 false).trans
    (written_setF _ Reg.DBG_STAT 15 12 3)).mono (m := [Reg.DBG_STAT]) (by decide)
  rw [← Dev.setSec_setB_comm] at hwr
  refine ⟨Dev.fld_setF _ _ _ _ _ (by decide) (by decide), ?_, hwr.frame, hwr.regs⟩
  rw [Dev.fld, Dev.rd_setF_same, fld_setFld_apart _ _ (by decide) (by decide) (by decide), Dev.judged, Dev.setSec_rd, Dev.rd_setB_same,
    fld_setBit_apart _ _ (by decide) (by decide), Dev.fld]

/-! ### The commands -/

section
variable {d : Dev} {s : State} {v : Word} (nonce : List Byte) (h : ¬ ∃ e, d.sec.lockout = some e ∧ s.now < e)
include h

theorem dbgStartReq_refused (hhow : d.dbgDecide (bitsOf v 1 0) = 0) : dbgStartReq s d v nonce = .ofDev (d.setF Reg.DBG_STAT 15 12 3) [] := by
  rw [dbgStartReq_open d s v nonce h, if_pos hhow]

theorem dbgStartReq_challenges (hhow : d.dbgDecide (bitsOf v 1 0) ≠ 0) (hlc : d.fld Reg.SEC_LC 1 0 = 2) :
    dbgStartReq s d v nonce = .ofDev (d.challenged s.now nonce (bitsOf v 1 0) (bitsOf v 5 4)) [] := by
  obtain ⟨-, hregs, -⟩ := challenged_frame d s.now nonce (bitsOf v 1 0) (bitsOf v 5 4)
  have hlc' : (d.challenged s.now nonce (bitsOf v 1 0) (bitsOf v 5 4)).lc = 2 := (hregs.fld (by decide) 1 0).trans hlc
  rw [dbgStartReq_open d s v nonce h, if_neg hhow, if_pos hlc']

theorem dbgStartReq_grants (hhow : d.dbgDecide (bitsOf v 1 0) = 1) (hlc : d.fld Reg.SEC_LC 1 0 ≠ 2) (hl : bitsOf v 1 0 ≠ 3) :
    dbgStartReq s d v nonce =
      .ofDev ((d.challenged s.now nonce (bitsOf v 1 0) (bitsOf v 5 4)).spent.granted s.now (bitsOf v 1 0) (bitsOf v 5 4)) [] := by
  obtain ⟨-, hregs, -⟩ := challenged_frame d s.now nonce (bitsOf v 1 0) (bitsOf v 5 4)
  have hlc' : (d.challenged s.now nonce (bitsOf v 1 0) (bitsOf v 5 4)).lc ≠ 2 := fun h2 => hlc ((hregs.fld (by decide) 1 0).symm.trans h2)
  rw [dbgStartReq_open d s v nonce h, hhow, if_neg (by decide), if_neg hlc', grant_eq _ _ _ hl]

end

section
variable {t : Nat} {s : State}

theorem leaves_dbgStart (hr : s.dev.runs = true) {v : Word} {nonce : List Byte} {d' : Dev}
    (h : dbgStartReq (s.arrive t) ((s.arrive t).dev.rw Reg.DBG_REQ v) v nonce = .ofDev d' []) : Leaves (.dbgStart t v nonce) t s d' :=
  leaves_of_liveE rfl hr h

theorem leaves_dbgVerify (hr : s.dev.runs = true) {d' : Dev} (h : (s.arrive t).dev.dbgVerifyReq (Nat.max s.now t) = d') :
    Leaves (.dbgVerify t) t s d' :=
  leaves_of_live (f := fun x d => d.dbgVerifyReq x) rfl hr h

/-- DBG_VERIFY_DONE while no verification runs. -/
theorem leaves_dbgVerifyDone_idle (hr : s.dev.runs = true) (h : (s.arrive t).dev.sec.verifyAt = none) :
    Leaves (.dbgVerifyDone t) t s (s.arrive t).dev := by
  refine leaves_of_liveE rfl hr ?_
  dsimp only
  rw [h]

/-- DBG_VERIFY_DONE for a slot without a key. -/
theorem leaves_dbgVerifyDone_noKey (hr : s.dev.runs = true) {w : Nat} (h : (s.arrive t).dev.sec.verifyAt = some w)
    (hk : ∀ p, s.otp.keys[(s.arrive t).dev.sec.reqKey]? ≠ some (some p)) :
    Leaves (.dbgVerifyDone t) t s ((s.arrive t).dev.judged.dbgFail (Nat.max s.now t) (s.arrive t).dev.sec.reqKey 6) := by
  rw [← Dev.judged_reqKey] at hk ⊢
  rw [← State.arrive_otp s t] at hk
  refine leaves_of_liveE rfl hr ?_
  dsimp only
  rw [h]
  dsimp only
  split
  · next p hp => exact absurd hp (hk p)
  · rfl

/-- DBG_VERIFY_DONE for a slot that holds a key. -/
theorem leaves_dbgVerifyDone_key (hr : s.dev.runs = true) {w : Nat} (h : (s.arrive t).dev.sec.verifyAt = some w) {p : Nat × Nat}
    (hk : s.otp.keys[(s.arrive t).dev.sec.reqKey]? = some (some p)) {d' : Dev}
    (hv : verdict (s.arrive t).dev.judged (s.arrive t) p = .ofDev d' []) : Leaves (.dbgVerifyDone t) t s d' := by
  rw [← Dev.judged_reqKey, ← State.arrive_otp s t] at hk
  refine leaves_of_liveE rfl hr ?_
  dsimp only
  rw [h]
  dsimp only
  split
  · next p' hp' =>
    have hp : p' = p := Option.some.inj (Option.some.inj (hp'.symm.trans hk))
    rw [← hv, ← hp]
    rfl
  · next hno => exact absurd hk (hno p)

theorem leaves_dbgEnd (hr : s.dev.runs = true) :
    Leaves (.dbgEnd t) t s ((s.arrive t).dev.dbgTo (Nat.max s.now t) 0 ((s.arrive t).dev.fld Reg.DBG_REQ 5 4)) :=
  leaves_of_live (f := fun x d => d.dbgNone x) rfl hr rfl

/-- CHALLENGE_EXPIRY ends the challenge once its time is over. -/
theorem leaves_challengeExpiry (hr : s.dev.runs = true) : Leaves (.challengeExpiry t) t s ((s.arrive t).dev.clearDue (Nat.max s.now t) 29
    (fun q => { q with chalExp := none, chalUsed := true }) (s.arrive t).dev.sec.chalExp) := by
  show execChallengeExpiry t s = _
  rw [execChallengeExpiry, act_eq, Dev.live_of_runs _ _ ((State.arrive_runs s t).trans hr)]
  cases (s.arrive t).dev.sec.chalExp with
  | none => rfl
  | some e => rfl

/-- DEBUG_LOCKOUT_END ends the lockout once its time is over. -/
theorem leaves_debugLockoutEnd (hr : s.dev.runs = true) : Leaves (.debugLockoutEnd t) t s ((s.arrive t).dev.clearDue (Nat.max s.now t) 27
    (fun q => { q with lockout := none }) (s.arrive t).dev.sec.lockout) := by
  show execDebugLockoutEnd t s = _
  rw [execDebugLockoutEnd, act_eq, Dev.live_of_runs _ _ ((State.arrive_runs s t).trans hr)]
  cases (s.arrive t).dev.sec.lockout with
  | none => rfl
  | some e => rfl

end

/-- Settles O33: each command leaves the device of the model's function that the laws above speak of. -/
theorem debugAccess : Obligations.DebugAccess := by
  intro t v nonce s hr d x st level key d1 start how done locked lock fails spent level0 clears
  have hrd {a : Nat} (ha : a ≠ Reg.DBG_REQ) : d1.rd a = d.rd a := d.rd_rw_ne v ha
  have hsec : d1.sec = d.sec := d.rw_sec _ v
  have hhow : d1.dbgDecide level = how := d.dbgDecide_congr (hrd (by decide)) (hrd (by decide)) (hrd (by decide)) level
  have hlc : d1.fld Reg.SEC_LC 1 0 = d.fld Reg.SEC_LC 1 0 := congrArg (Machine.fld · 1 0) (hrd (by decide))
  have hopen (h : ¬ locked) : ¬ ∃ e, d1.sec.lockout = some e ∧ x < e := by rwa [hsec]
  have hlevel : level < 4 := Nat.mod_lt _ (by decide)
  have hkey4 : key < 4 := Nat.mod_lt _ (by decide)
  have hne {i : Nat} (hi : i < 4) : Reg.SEC_UID i ≠ Reg.DBG_REQ := by unfold Reg.SEC_UID Reg.DBG_REQ; omega
  have hfail (k : Nat) {result : Nat} (hres : result < 16) (h : Leaves done t s (d.judged.dbgFail x k result)) : fails done k result spent :=
    ⟨_, h, dbgFail_frame d x k (by decide) hres rfl⟩
  have hexpiry : Leaves (.challengeExpiry t) t s (d.clearDue x 29 (fun q => { q with chalExp := none, chalUsed := true }) d.sec.chalExp) :=
    leaves_challengeExpiry hr
  have hend : Leaves (.debugLockoutEnd t) t s (d.clearDue x 27 (fun q => { q with lockout := none }) d.sec.lockout) := leaves_debugLockoutEnd hr
  refine ⟨fun h => leaves_dbgStart hr (dbgStartReq_locked d1 _ v nonce (by rwa [hsec])),
    fun h h0 => leaves_dbgStart hr (dbgStartReq_refused nonce (hopen h) (hhow.trans h0)), fun h h0 h2 hn => ?_, fun h h1 h2 hl => ?_,
    fun h => leaves_dbgVerify hr (d.dbgVerifyReq_busy x h), fun e hb hu he hx => ?_, fun hb h => ?_, leaves_dbgVerifyDone_idle hr,
    fun w hw => ⟨fun h => ?_, fun p hp hu => ⟨fun hs => ?_, fun hs h0 => ?_, fun hs h1 hl => ?_⟩⟩, ?_, fun h => ?_, fun h => ?_,
    fun e he => ⟨fun hx => ?_, fun hx => ?_⟩, fun e he => ⟨fun hx => ?_, fun hx => ?_⟩⟩
  -- DBG_START: a challenge in FIELD, a grant elsewhere.
  · obtain ⟨hshape, hregs, hstat, -⟩ := challenged_frame d1 x nonce level key
    obtain ⟨hnonce, huid, hreq⟩ := challenged_content d1 x hn hlevel hkey4
    refine ⟨d1.challenged x nonce level key, leaves_dbgStart hr (dbgStartReq_challenges nonce (hopen h) (hhow ▸ h0) (hlc.trans h2)), hshape,
      hregs, ?_, ?_, hnonce, fun i hi => (huid i hi).trans (hrd (hne hi)), hreq⟩
    · rw [Dev.bit, hstat, tbit_setBit _ _ (by decide)]
    · rw [Dev.fld, hstat, fld_setBit_apart _ _ (by decide) (by decide), hrd (by decide), Dev.fld]
  · obtain ⟨hstat, hres, hfails⟩ := granted_frame (d1.challenged x nonce level key).spent x key hlevel
    exact ⟨(d1.challenged x nonce level key).spent.granted x level key,
      leaves_dbgStart hr (dbgStartReq_grants nonce (hopen h) (hhow.trans h1) (hlc ▸ h2) (show level ≠ 3 by omega)), hstat, hres, by rw [hfails]⟩
  -- DBG_VERIFY: a challenge that stands, and none.
  · exact ⟨_, leaves_dbgVerify hr (d.dbgVerifyReq_fresh hb hu he hx), verifying_frame d x⟩
  · exact ⟨_, leaves_dbgVerify hr (d.dbgVerifyReq_stale hb h), dbgFail_frame d x _ (by decide) (by decide) rfl⟩
  -- DBG_VERIFY_DONE: no usable key, a bad signature, a refusal by the table, a grant.
  · by_cases hkeys : ∃ p, s.otp.keys[d.sec.reqKey]? = some (some p)
    · obtain ⟨p, hp⟩ := hkeys
      have hu : ¬ d.Usable d.sec.reqKey := h.resolve_left fun hno => hno p hp
      exact hfail _ (by decide) (leaves_dbgVerifyDone_key hr hw hp (verdict_unusable d _ hu))
    · exact hfail _ (by decide) (leaves_dbgVerifyDone_noKey hr hw (not_exists.mp hkeys))
  · exact hfail _ (by decide) (leaves_dbgVerifyDone_key hr hw hp (verdict_badSignature d _ hu hs))
  · exact ⟨_, leaves_dbgVerifyDone_key hr hw hp ((verdict_goodSignature d _ hu hs).trans (if_pos h0)), refused_frame d⟩
  · obtain ⟨hstat, hres, hsec'⟩ := granted_frame d.judged x d.sec.reqKey (show d.sec.reqLevel < 4 by omega)
    have hv := verdict_goodSignature d (s.arrive t) hu hs
    rw [h1, if_neg (by decide), grant_eq _ _ _ (by omega)] at hv
    exact ⟨_, leaves_dbgVerifyDone_key hr hw hp hv, hres, hstat, hsec'.trans (by rw [Dev.judged_sec])⟩
  -- DBG_END, and the times of a challenge and of a lockout.
  · exact ⟨_, leaves_dbgEnd hr, dbgTo_level d x _ (by decide), (noted_dbgTo d x 0 _).frame, fun h hq => dbgTo_requested d x _ h hq⟩
  · rwa [h] at hexpiry
  · rwa [h] at hend
  · rwa [he, d.clearDue_early _ _ hx] at hexpiry
  · rw [he, d.clearDue_due _ _ hx] at hexpiry
    exact ⟨_, hexpiry, cleared_frame d (by decide) _⟩
  · rwa [he, d.clearDue_early _ _ hx] at hend
  · rw [he, d.clearDue_due _ _ hx] at hend
    exact ⟨_, hend, cleared_frame d (by decide) _⟩

end Sys2Proof.Safety
end
